-- ==== Sys2Proof/Word.lean ====
section
/-! DEFINITION. The words of the part and the small index types: bytes and 32-bit words of the SPI frames, the two
arms (and the two sensor strings), the three axes, and tables with a fixed number of entries. -/

namespace Sys2Proof

/-- One byte of an SPI frame (spec 11, R197). -/
abbrev Byte := BitVec 8

/-- A four-byte field of a frame, most significant byte first (spec 11, R201). -/
abbrev Word := BitVec 32

/-- Number 0 or number 1: of an arm, or of a sensor string (spec 00, section 6). -/
inductive Side where
  | zero
  | one
deriving DecidableEq, Repr

/-- An arm, 0 or 1. -/
abbrev Arm := Side

/-- A sensor string, 0 or 1. -/
abbrev Strg := Side

/-- The other arm. -/
def Side.other : Side → Side
  | .zero => .one
  | .one => .zero

def Side.toNat : Side → Nat
  | .zero => 0
  | .one => 1

/-- The three axes of an arm (spec 00, section 6). -/
inductive Axis where
  | x
  | y
  | z
deriving DecidableEq, Repr

def Axis.toNat : Axis → Nat
  | .x => 0
  | .y => 1
  | .z => 2

/-- One value for each of number 0 and number 1. -/
structure Two (α : Type) where
  zero : α
  one : α
deriving DecidableEq, Repr

def Two.get {α : Type} (t : Two α) : Side → α
  | .zero => t.zero
  | .one => t.one

def Two.set {α : Type} (t : Two α) (a : Side) (v : α) : Two α :=
  match a with
  | .zero => { t with zero := v }
  | .one => { t with one := v }

def Two.both {α : Type} (v : α) : Two α := ⟨v, v⟩

def Two.map {α β : Type} (t : Two α) (f : α → β) : Two β := ⟨f t.zero, f t.one⟩

/-- One value for each axis. -/
structure Axes (α : Type) where
  x : α
  y : α
  z : α
deriving DecidableEq, Repr

def Axes.get {α : Type} (t : Axes α) : Axis → α
  | .x => t.x
  | .y => t.y
  | .z => t.z

def Axes.set {α : Type} (t : Axes α) (i : Axis) (v : α) : Axes α :=
  match i with
  | .x => { t with x := v }
  | .y => { t with y := v }
  | .z => { t with z := v }

def Axes.all {α : Type} (v : α) : Axes α := ⟨v, v, v⟩

def Axes.map {α β : Type} (t : Axes α) (f : α → β) : Axes β := ⟨f t.x, f t.y, f t.z⟩

def Axes.zip {α β γ : Type} (f : α → β → γ) (t : Axes α) (u : Axes β) : Axes γ :=
  ⟨f t.x u.x, f t.y u.y, f t.z u.z⟩

def Axes.any (t : Axes Bool) : Bool := t.x || t.y || t.z

def Axes.forall (t : Axes Bool) : Bool := t.x && t.y && t.z

/-- A position or an offset: one length for each axis, in lu (spec 00, section 5). -/
abbrev Point := Axes Int

/-- A table with entry `i` replaced. -/
def upd {α : Type} {n : Nat} (v : Vector α n) (i : Fin n) (e : α) : Vector α n := v.set i.val e i.isLt

end Sys2Proof
end

