-- ==== Sys2Proof/Config.lean ====
section
/-! DEFINITION. The constants the spec fixes for every part: limits, ranges, defaults and capacities. The spec leaves no
result of a command undefined, so this file holds no free value. -/

namespace Sys2Proof.Config

/-- The positive bound of a length (spec 00, section 5); the negative bound is its opposite. -/
def lengthMax : Int := 2147483647

/-- Bound of a tip offset, in lu (spec 01, R3). -/
def offsetMax : Int := 20000000

/-- Bound of a radius, in lu (R3). -/
def radiusMax : Int := 500000

/-- Bound of a temperature, in mK (R3, R42). -/
def temperatureMax : Int := 50000

/-- 20 °C, in mK (spec 04, R75). -/
def roomTemperature : Int := 20000

/-- Bound of the temperature difference of a factor, in mK (R75). -/
def deltaMax : Int := 20000

/-- Bound of a coefficient, in cppm (R73). -/
def coefficientMax : Int := 5000

/-- Divisor of the scale and workpiece stages (spec 05, R84). -/
def billion : Int := 1000000000

/-- Where an event counter stops, and the last touch number before 0 (spec 00, section 5.3). -/
def counterMax : Nat := 65535

/-- Where a hold age stops, in s (spec 04, R69). -/
def holdAgeMax : Nat := 65535

/-- Bound of a trim, in mK (spec 03, R43). -/
def trimMax : Int := 2000

/-- Bound of a filter shift (R43). -/
def shiftMax : Nat := 7

/-- Bound of a guard margin, in lu (spec 09, R162). -/
def marginMax : Int := 5000000

/-- Attempts of an identity read (spec 08, R137). -/
def identityAttempts : Nat := 3

/-- Greatest number of tip numbers in one answer of TIP_FIND (spec 01, R15). -/
def findMax : Nat := 8

/-- Default of the coefficients, in cppm (spec 04, R80). -/
def coefficientDefault : Int := 1150

/-- Default of the scan period, in ms (spec 03, R64). -/
def periodDefault : Nat := 1000

end Sys2Proof.Config
end

