-- ==== Sys2Proof/Syntax.lean ====
section
/-! DEFINITION. The commands of the part: one constructor of `Instr` for each row of the table of operations and
events, with the row's operands. A request carries its payload fields as the bytes and words of its frame (spec 11,
R201); an event of the machine wiring or of the inside carries what it names. -/

namespace Sys2Proof

/-- The four phases of a pair of quadrature channels (spec 02, R26). -/
inductive Phase where
  | p0
  | p1
  | p2
  | p3
deriving DecidableEq, Repr

/-- The causes of a hold, in the order of the rule's list (spec 09, R170). -/
inductive HoldCause where
  | powerOn
  | restart
  | zone
  | collision
  | axisFault
deriving DecidableEq, Repr

/-- The fourteen attention sources (spec 10, R183). -/
inductive AttnSource where
  | hold (a : Arm)
  | axis (a : Arm)
  | touch (a : Arm)
  | change (a : Arm)
  | rack
  | pocket
  | tip
  | sensor
  | group
  | lineCheck
deriving DecidableEq, Repr

/-- The nine temperature groups (spec 04, R66). -/
inductive TempGroup where
  | scale (a : Arm) (i : Axis)
  | head (a : Arm)
  | workpiece
deriving DecidableEq, Repr

/-- The two debounced inputs of a pocket (spec 07, R115). -/
inductive PocketInput where
  | occupancy
  | lidSense
deriving DecidableEq, Repr

/-- The input levels taken at start-up (spec 11, R210): the ARMS strap, FRZ, the quadrature phases (spec 02, R39), the
triggers, module-present, pocket occupancy and lid sense. -/
structure Inputs where
  twoArm : Bool
  frz : Bool
  phase : Two (Axes Phase)
  trigger : Two Bool
  modulePresent : Two Bool
  occupied : Vector Bool 20
  lidOpen : Vector Bool 20
deriving DecidableEq, Repr

/-- Minimum and maximum of a box on one axis, as sent in a frame (spec 11, R201). -/
structure Bounds where
  lo : Word
  hi : Word
deriving DecidableEq, Repr

/-- One entry of ATTN_CONFIG: source number, enable, level (spec 10, R188). -/
structure AttnEntry where
  source : Byte
  enable : Byte
  level : Byte
deriving DecidableEq, Repr

/-- The commands: one constructor for each row of the opcode table, in the table's order. -/
inductive Instr where
  | powerOn
  | startUp (levels : Inputs)
  | badFrame (bytes : List Byte)
  | unknownRequestCode (bytes : List Byte)
  /-- A frame that ended while the link was EXECUTING (spec 11, R197, case 3; logs 3 and 4). -/
  | discardedRequest (bytes : List Byte)
  | identify
  /-- A COLLECT frame of `n` whole bytes, the request code among them (spec 11, R199). -/
  | collect (n : Nat)
  | restart
  | countersRead (clear : Byte)
  | settingWrite (number : Byte) (value : Word)
  | settingRead (number : Byte)
  | tipWrite (tip : Byte) (moduleId : Word) (cls home : Byte)
  | tipQualify (tip arm : Byte) (dx dy dz r : Word) (source : Byte) (temp : Word)
  | tipUnqualify (tip arm : Byte)
  | tipRead (tip : Byte)
  | tipFind (state cls loc entry0 quality0 entry1 quality1 cursor : Byte)
  | tipRetire (tip : Byte)
  | tipPurge (tip : Byte)
  | axisHome (arm axis : Byte) (reference : Word)
  | armSetup (arm : Byte) (origin : Axes Word) (direction : Axes Byte) (s0 : Axes Word)
  | positionRead (arm : Byte)
  | sensorWrite (string address binding : Byte) (trim : Word) (shift : Byte)
  | sensorRetire (string address : Byte)
  | sensorRead (string address clear : Byte)
  | scanControl (mode present : Byte) (period : Word)
  | scanRead
  | lineCheck (string passes : Byte)
  | lineCheckRead (string : Byte)
  | groupRead
  | compSetup (alphaS : Two (Axes Word)) (alphaW : Word) (w0 : Axes Word)
  | compRead
  | convert (arm : Byte)
  | probeArm (arm value : Byte)
  | touchTake (arm : Byte)
  | pocketWrite (pocket state present0 : Byte) (box0 : Axes Bounds) (present1 : Byte) (box1 : Axes Bounds)
  | pocketClearForeign (pocket : Byte)
  | pocketRead (pocket : Byte)
  | rackUnlock
  | rackRead
  | change (arm target allow : Byte)
  | changeAbort (arm : Byte)
  | changeRead (arm : Byte)
  | zoneWrite (zone kind arm : Byte) (box : Axes Bounds) (margin : Word)
  | zoneSuspend (zone : Byte)
  | zoneResume (zone : Byte)
  | zoneDelete (zone : Byte)
  | zoneRead (zone : Byte)
  | holdRelease (arm : Byte)
  | holdRead (arm : Byte)
  | attnFlags (named : List Byte)
  | attnConfig (entries : List AttnEntry)
  | attnTake
  | attnRelease
  | quadraturePhase (a : Arm) (i : Axis) (p : Phase)
  | referenceMark (a : Arm) (i : Axis)
  | checkPointFormation (a : Arm)
  | transactionEnd (g : Strg) (code : BitVec 16) (ready parity : Bool)
  | replyTimeout (g : Strg)
  | scanTimerExpiry
  | frzActive
  | frzInactive
  /-- The next full second after a sweep end at which groups became HELD has passed, for those groups (spec 04, R69;
  log 9). -/
  | holdAgeTick
  | groupStale (g : TempGroup)
  | triggerLeadingEdge (a : Arm)
  | triggerRelease (a : Arm)
  | qualificationTimeEnd (a : Arm)
  | touchComputation (a : Arm)
  | pointRecordReturn (a : Arm)
  | holdCauseAddition (a : Arm) (c : HoldCause)
  | raiseReport (src : AttnSource)
  | pocketInputEdge (p : Fin 20) (input : PocketInput) (level : Bool)
  | observedOccupancyChange (p : Fin 20)
  | lidSenseChange (p : Fin 20)
  | lidTimerExpiry (p : Fin 20)
  | openCommand (a : Arm) (p : Fin 20)
  | closeCommand (a : Arm) (p : Fin 20)
  | changePocketReport (a : Arm) (pocket : Option (Fin 20)) (suppressed stow : Bool)
  | rackRequest (a : Arm)
  | entryReport (a : Arm)
  | exitReport (a : Arm)
  | changeEndedReport (a : Arm)
  | grantTimerExpiry
  | doubleFaultReport (a : Arm)
  | granteeNotice (g : Option Arm)
  | grantedMessage (a : Arm)
  | lapsedMessage (a : Arm)
  | lockedOutMessage (a : Arm)
  | stepTimerExpiry (a : Arm)
  | modulePresentEdge (a : Arm) (level : Bool)
  | modulePresentChange (a : Arm)
  | identityReply (a : Arm) (moduleId : Word) (checkCorrect : Bool)
  | identityAttemptTimeout (a : Arm)
  | registrationClaim (moduleId : Word)
  | stowReleaseBegins (a : Arm) (tip : Fin 64)
  | stowTransferComplete (a : Arm) (tip : Fin 64)
  | pickBegins (a : Arm) (tip : Fin 64)
  | identityMatched (a : Arm) (tip : Fin 64)
  | transitResolved (a : Arm) (tip : Fin 64) (occupied : Bool)
  | identityReport (a : Arm) (moduleId : Option Word)
  | moduleLost (a : Arm)
  | homePocketSeenEmpty (p : Fin 20)
  | homePocketSeenOccupied (p : Fin 20)
  | restartComparison (p : Fin 20)
  | restartTransactionLimitEnd (g : Strg)
deriving DecidableEq, Repr

end Sys2Proof
end

