-- ==== Sys2Proof/Machine/State.lean ====
section
/-! DEFINITION. The state of the part as plain data: the records of the ten blocks, the queue of the commands that wait,
and the value of each after start-up. -/

namespace Sys2Proof.Machine

/-! ### Outcomes of a step -/

/-- Nothing raises a fault: the spec describes no stop of the part. -/
inductive Fault where
deriving DecidableEq, Repr

inductive Refusal where
  /-- Raised by the arms of `exec` whose row has no meaning yet, and by nothing else. Safe: the machine stops. -/
  | notModelled (mnemonic : String)
deriving DecidableEq, Repr

/-! ### The library (spec 01) -/

/-- The kinds of stylus (R2). -/
inductive TipClass where
  | ball
  | disc
  | cylinder
  | star
deriving DecidableEq, Repr

/-- Where the library records a module to be (R2). -/
inductive Location where
  | inPocket
  | onArm (a : Arm)
  | inTransit (a : Arm)
  | missing
deriving DecidableEq, Repr

inductive EntryState where
  | qualified
  | suspect
deriving DecidableEq, Repr

/-- A qualification entry (R3). -/
structure Entry where
  offset : Point
  radius : Int
  temperature : Int
  state : EntryState
deriving DecidableEq, Repr

/-- The fields of a record that is not VACANT (R2, R3). -/
structure Tip where
  moduleId : Word
  cls : TipClass
  home : Fin 20
  location : Location
  entries : Two (Option Entry)
deriving DecidableEq, Repr

/-- One slot of the tip table (R1): a VACANT record holds no other field. -/
inductive TipSlot where
  | vacant
  | active (t : Tip)
  | retired (t : Tip)
deriving DecidableEq, Repr

structure Library where
  tips : Vector TipSlot 64
  driftWindow : Int
deriving DecidableEq, Repr

/-! ### The axis unit (spec 02) -/

inductive FaultCause where
  | quadrature
  | overrange
deriving DecidableEq, Repr

/-- The state of an axis with the field it alone carries (R25). -/
inductive AxisState where
  | unreferenced
  | seeking (reference : Int)
  | referenced
  | fault (cause : FaultCause)
deriving DecidableEq, Repr

inductive Direction where
  | normal
  | reversed
deriving DecidableEq, Repr

/-- An axis record (R25). The phase is absent only between a RESTART and the sample that follows it (R40; log 2). -/
structure AxisRecord where
  count : Int
  state : AxisState
  direction : Direction
  s0 : Int
  phase : Option Phase
deriving DecidableEq, Repr

/-- The axis records and the origin offset of one arm (R25, R33). -/
structure ArmAxes where
  axes : Axes AxisRecord
  origin : Point
deriving DecidableEq, Repr

/-! ### The scanner (spec 03, 04) -/

inductive SensorState where
  | active
  | failed
  | retired
deriving DecidableEq, Repr

/-- A judged outcome of a transaction, as it stands in an outcome window (R42). -/
inductive Judged where
  | good
  | bad
deriving DecidableEq, Repr

/-- A sensor record that is not VACANT (R43). The window is oldest first. -/
structure Sensor where
  state : SensorState
  binding : Option TempGroup
  trim : Int
  shift : Nat
  last : Option Int
  filtered : Option Int
  window : List Judged
  badCount : Nat
deriving DecidableEq, Repr

inductive Owner where
  | sweep
  | lineCheck
deriving DecidableEq, Repr

/-- A transaction in flight (R41), and whether a registration or retirement has made it stale (R43). -/
structure Transaction where
  address : Fin 16
  owner : Owner
  stale : Bool
deriving DecidableEq, Repr

/-- A string's pass of the sweep in flight, with the last address it has read (R54). -/
inductive Pass where
  | ended
  | reading (last : Option (Fin 16))
deriving DecidableEq, Repr

inductive CheckState where
  | idle
  | running
  | done
  | failed
deriving DecidableEq, Repr

/-- A line-check record (R61, R62). `answered` marks the addresses of the answered list, `next` is the address a running
check reads next. -/
structure LineCheck where
  state : CheckState
  completed : Nat
  requested : Nat
  failedPasses : Vector Nat 16
  answered : Vector Bool 16
  next : Fin 16
deriving DecidableEq, Repr

/-- One string: its settings, its controller and its line check. `limit` says that the 9 ms limit of a transaction
abandoned by RESTART still runs (R65). -/
structure StringControl where
  windowLength : Nat
  faultCount : Nat
  transaction : Option Transaction
  limit : Bool
  pass : Pass
  check : LineCheck
deriving DecidableEq, Repr

inductive ScanState where
  | stopped
  | sweeping
  | waiting
  | stopping
deriving DecidableEq, Repr

inductive ScanMode where
  | continuous
  | single
  | stop
deriving DecidableEq, Repr

/-- The state of a group with the fields it alone carries (spec 04, R66). -/
inductive GroupState where
  | empty
  | live (value : Int)
  | held (value : Int) (age : Nat)
  | stale (value : Int) (age : Nat)
deriving DecidableEq, Repr

structure GroupRecord where
  state : GroupState
  contributors : Nat
deriving DecidableEq, Repr

/-- The nine group records (R66). -/
structure Groups where
  scale : Two (Axes GroupRecord)
  head : Two GroupRecord
  workpiece : GroupRecord
deriving DecidableEq, Repr

/-- A timer is stopped, or running with the time left in ms. -/
abbrev Timer := Option Nat

/-- `ageing` holds the HELD and STALE groups, those that became HELD at one sweep end together, in the order in which
their next full second comes (R69): the model's own field (log 9). -/
structure Scanner where
  sensors : Two (Vector (Option Sensor) 16)
  strings : Two StringControl
  state : ScanState
  mode : ScanMode
  period : Nat
  timer : Timer
  overruns : Nat
  groups : Groups
  ageing : List (List TempGroup)
  holdLimit : Nat
deriving DecidableEq, Repr

/-! ### The compensation engine (spec 04, 05) -/

/-- The marks of a factor (spec 04, section 4.6). -/
structure FactorMarks where
  tempClamped : Bool
  held : Bool
  stale : Bool
  uncompensated : Bool
deriving DecidableEq, Repr

structure Factor where
  value : Int
  marks : FactorMarks
deriving DecidableEq, Repr

/-- The seven factors in force (section 4.6). -/
structure Factors where
  scale : Two (Axes Factor)
  workpiece : Factor
deriving DecidableEq, Repr

/-- The coefficient set (R73). -/
structure Coefficients where
  scale : Two (Axes Int)
  workpiece : Int
  w0 : Point
deriving DecidableEq, Repr

/-- What asked for a check-point formation: motion events, which are one formation however many wait (spec 02, R36), or
one recomputation or stale transition (R79; spec 05, R93), the stale transitions of one SETTING_WRITE together (log 33). -/
inductive FormationCause where
  | motion
  | recomputation
deriving DecidableEq, Repr

/-- `formationDue` holds for each arm the check-point formations asked for and not yet taken by the engine, oldest first
(spec 02, R36; spec 04, R79; spec 05, R93, R97). -/
structure Compensation where
  coefficients : Coefficients
  factors : Factors
  formationDue : Two (List FormationCause)
deriving DecidableEq, Repr

/-- The marks of a point record (spec 05, R91). -/
structure Marks where
  suspect : Bool
  unqualified : Bool
  held : Bool
  stale : Bool
  uncompensated : Bool
  tempClamped : Bool
  clamped : Bool
deriving DecidableEq, Repr

/-- A point record (R90). -/
structure PointRecord where
  arm : Arm
  tip : Option (Fin 64)
  raw : Point
  coordinates : Point
  radius : Int
  marks : Marks
  touchNumber : Option Nat
deriving DecidableEq, Repr

/-- The tip point of a formation, with the radius and the tip number of the entry used and its mark set (R92). -/
structure TipPoint where
  position : Point
  radius : Int
  number : Fin 64
  marks : Marks
deriving DecidableEq, Repr

/-- The check points of one formation, as the zone monitor holds them (R92; spec 09, R165): the reference point with its
mark set, and the tip point or its absence. -/
structure CheckPoints where
  reference : Point
  referenceMarks : Marks
  tip : Option TipPoint
deriving DecidableEq, Repr

/-! ### The touch unit (spec 06) -/

/-- The trigger state; in QUALIFYING with the captured counts, the qualification time it began with (R99) and the
qualification timer, the µs since the leading edge (R98, R102). -/
inductive TriggerState where
  | idle
  | qualifying (captured : Point) (time : Nat) (timer : Nat)
  | waitRelease
deriving DecidableEq, Repr

/-- The touch record of one arm (R98), the level of its trigger input, the touch computations asked for and not yet
taken, and the point records returned and not yet placed (R96, R109, R113), oldest first. -/
structure TouchRecord where
  armed : Bool
  trigger : TriggerState
  input : Bool
  qualificationTime : Nat
  slot : Option PointRecord
  nextNumber : Nat
  bounces : Nat
  strays : Nat
  overruns : Nat
  requests : List Point
  returned : List PointRecord
deriving DecidableEq, Repr

/-! ### The rack controller (spec 07) -/

inductive PocketState where
  | vacant
  | enabled
  | disabled
deriving DecidableEq, Repr

/-- A box in the room frame: minimum and maximum on each axis, both belonging to it. -/
structure Box where
  lo : Point
  hi : Point
deriving DecidableEq, Repr

inductive LidState where
  | closed
  | opening
  | opened
  | closing
  | jammed
deriving DecidableEq, Repr

/-- A pocket record (R114) with its two input levels (R115) and whether its restart comparison is outstanding (R134).
A debounce runs while an input level differs from its debounced level. -/
structure Pocket where
  state : PocketState
  dock : Two (Option Box)
  occupied : Bool
  occupancyInput : Bool
  sense : Bool
  senseInput : Bool
  foreignMark : Bool
  lid : LidState
  drive : Bool
  timer : Timer
  restartCompare : Bool
deriving DecidableEq, Repr

/-- A change pocket report (R117). -/
structure PocketReport where
  pocket : Option (Fin 20)
  suppressed : Bool
  stow : Bool
deriving DecidableEq, Repr

/-- The arbiter's state with the fields of a grant (R127). -/
inductive Arbiter where
  | free
  | granted (a : Arm) (acknowledged inside ended : Bool)
  | lockedOut
deriving DecidableEq, Repr

structure Rack where
  pockets : Vector Pocket 20
  reports : Two PocketReport
  arbiter : Arbiter
  queue : List Arm
  grantTimer : Timer
  grantTimeout : Nat
  lidTimeout : Nat
deriving DecidableEq, Repr

/-! ### Responses (spec 11, R200) -/

inductive Status where
  | ok
  | clamped
  | staged
  | nothing
  | badFrame
  | badArgument
  | notFound
  | inUse
  | wrongState
  | duplicate
  | full
  | notReferenced
  | notPresent
  | unreachable
deriving DecidableEq, Repr

/-! ### The change sequencer (spec 08) -/

inductive ChangeState where
  | idle
  | waitingRack
  | stowApproach
  | stowOpen
  | stowRelease
  | stowClear
  | fetchApproach
  | fetchOpen
  | fetchPick
  | fetchIdentify
  | fetchClear
  | reconciling
deriving DecidableEq, Repr

/-- The results of a change, in the order of R152. -/
inductive ChangeResult where
  | completed
  | nothingToDo
  | aborted
  | grantLapsed
  | rackLocked
  | lidJammed
  | dockLeft
  | timeout
  | wrongModule
  | noId
  | noModule
  | extraModule
  | pocketChanged
deriving DecidableEq, Repr

/-- The arguments of a CHANGE beside its arm (R139). -/
structure ChangeRequest where
  target : Option (Fin 64)
  allow : Bool
deriving DecidableEq, Repr

inductive StagedOutcome where
  | none
  | started
  | refusedAtStart (status : Status)
  | nothingToDo
  | discarded
deriving DecidableEq, Repr

/-- Where a change stands within STOW_CLEAR, FETCH_CLEAR and RECONCILING: waiting for the departure, for the lids, or
for the identity read of step 2 (R146, R150, R154, R156). -/
inductive StageWait where
  | departure
  | lids
  | identity
deriving DecidableEq, Repr

/-- The head state of an arm (R136); the module ID of a FOREIGN head is absent when it is "unknown". -/
inductive HeadState where
  | empty
  | tip
  | identifying
  | foreignModule (moduleId : Option Word)
deriving DecidableEq, Repr

/-- The head record (R136), the module-present input level, and the attempt of the identity read in flight (R137). -/
structure Head where
  state : HeadState
  allowUnqualified : Bool
  modulePresent : Bool
  moduleInput : Bool
  attempt : Option Nat
deriving DecidableEq, Repr

/-- The change record (R135). -/
structure Change where
  state : ChangeState
  target : Option (Fin 64)
  stowing : Option (Fin 64)
  current : Option (Fin 20)
  allow : Bool
  opened : List (Fin 20)
  stowClose : Bool
  timer : Timer
  faultResult : Option ChangeResult
  double : Bool
  last : Option (ChangeResult × Bool)
  staged : Option ChangeRequest
  stagedOutcome : StagedOutcome
  lastReference : Option Point
  wait : StageWait
deriving DecidableEq, Repr

structure Sequencer where
  change : Two Change
  head : Two Head
  approachTimeout : Nat
  transferTimeout : Nat
deriving DecidableEq, Repr

/-! ### The zone monitor (spec 09) -/

/-- The kind of a zone; a SHARED zone carries its claimant (R162). -/
inductive ZoneKind where
  | forbidden
  | privateTo (b : Arm)
  | shared (claimant : Option Arm)
  | rack
deriving DecidableEq, Repr

/-- A zone record that is not VACANT (R162). -/
structure Zone where
  suspended : Bool
  kind : ZoneKind
  box : Box
  margin : Int
deriving DecidableEq, Repr

/-- A set of hold causes (R170). -/
structure Causes where
  powerOn : Bool
  restart : Bool
  zone : Bool
  collision : Bool
  axisFault : Bool
deriving DecidableEq, Repr

/-- A set of zone numbers. -/
abbrev ZoneSet := Vector Bool 16

/-- The hold record of one arm (R170) and the check points of its last formation (R165). -/
structure HoldRecord where
  causes : Causes
  violated : ZoneSet
  permit : ZoneSet
  inside : ZoneSet
  points : Option CheckPoints
deriving DecidableEq, Repr

structure ZoneMonitor where
  table : Vector (Option Zone) 16
  grantee : Option Arm
  hold : Two HoldRecord
deriving DecidableEq, Repr

/-! ### The attention unit (spec 10) -/

/-- A source record (R183). -/
structure SourceRecord where
  flag : Bool
  enable : Bool
  level : Fin 4
deriving DecidableEq, Repr

/-- The fourteen sources in their order, and the service stack with its top first (R185). -/
structure Attention where
  sources : Vector SourceRecord 14
  stack : List (Fin 4)
deriving DecidableEq, Repr

/-! ### The link (spec 11) -/

/-- The link state with the buffer it alone holds (R196). In EXECUTING `answer` is the answer of the owning block, once
the block has taken the request, until the link places it (R198; log 3). -/
inductive LinkState where
  | idle
  | executing (code : Byte) (payload : List Byte) (answer : Option (Status × List Byte))
  | responseReady (status : Status) (payload : List Byte)
deriving DecidableEq, Repr

/-- `sent` holds the bytes the part drove on MISO in the last frame (R197, R199, R205). -/
structure Link where
  state : LinkState
  badFrames : Nat
  discarded : Nat
  sent : List Byte
deriving DecidableEq, Repr

/-! ### Messages between blocks -/

/-- A message one block has sent another and the other has not yet taken: from the arbiter to a change sequencer and to
the zone monitor (spec 07, R128 to R131), from the rack controller to the change sequencers (R115, R121), and the change
sequencer's note to test the wait of a stage it has entered (spec 08, R143). -/
inductive Message where
  | granted (a : Arm)
  | lapsed (a : Arm)
  | lockedOut (a : Arm)
  | grantee (g : Option Arm)
  | lidChanged (p : Fin 20)
  | occupancyChanged (p : Fin 20)
  | testStage (a : Arm)
deriving DecidableEq, Repr

/-- The answers of one block to another's report, command, claim or request (spec 01, R8, R18, R19; spec 07, R122,
R123, R128). -/
inductive Answer where
  | applied
  | refused
  | matched
  | notMatched
  | claimGranted (a : Arm)
  | claimRefused
  | opening
  | opened
  | closing
  | closed
  | jammed
  | granted
  | queued
  | lockedOut
deriving DecidableEq, Repr

/-! ### The whole part -/

structure State where
  oneArm : Bool
  powered : Bool
  frz : Bool
  library : Library
  arms : Two ArmAxes
  scanner : Scanner
  comp : Compensation
  touch : Two TouchRecord
  rack : Rack
  sequencer : Sequencer
  zones : ZoneMonitor
  attention : Attention
  link : Link
  mail : List Message
  answer : Option Answer
  pending : List Instr
deriving DecidableEq, Repr

/-! ### The state after start-up -/

/-- R23. -/
def Library.reset : Library := { tips := Vector.replicate 64 .vacant, driftWindow := 2000 }

/-- R39, for channels at P0 (log 1). -/
def AxisRecord.reset : AxisRecord :=
  { count := 0, state := .unreferenced, direction := .normal, s0 := 0, phase := some .p0 }

/-- R39. -/
def ArmAxes.reset : ArmAxes := { axes := .all AxisRecord.reset, origin := .all 0 }

/-- R64. -/
def LineCheck.reset : LineCheck :=
  { state := .idle, completed := 0, requested := 0, failedPasses := Vector.replicate 16 0,
    answered := Vector.replicate 16 false, next := 0 }

/-- R64. -/
def StringControl.reset : StringControl :=
  { windowLength := 8, faultCount := 3, transaction := none, limit := false, pass := .ended,
    check := LineCheck.reset }

/-- R80. -/
def GroupRecord.reset : GroupRecord := { state := .empty, contributors := 0 }

/-- R80. -/
def Groups.reset : Groups :=
  { scale := .both (.all GroupRecord.reset), head := .both GroupRecord.reset, workpiece := GroupRecord.reset }

/-- R64, R80. -/
def Scanner.reset : Scanner :=
  { sensors := .both (Vector.replicate 16 none), strings := .both StringControl.reset, state := .stopped,
    mode := .stop, period := Config.periodDefault, timer := none, overruns := 0, groups := Groups.reset,
    ageing := [], holdLimit := 600 }

/-- A factor of an EMPTY group: 0 with UNCOMPENSATED (R76, R77). -/
def Factor.uncompensated : Factor :=
  { value := 0, marks := { tempClamped := false, held := false, stale := false, uncompensated := true } }

def Factors.reset : Factors := { scale := .both (.all Factor.uncompensated), workpiece := Factor.uncompensated }

/-- R80, R97. -/
def Compensation.reset : Compensation :=
  { coefficients := { scale := .both (.all Config.coefficientDefault), workpiece := Config.coefficientDefault,
                      w0 := .all 0 },
    factors := Factors.reset, formationDue := .both [] }

/-- R112, for an inactive trigger input. -/
def TouchRecord.reset : TouchRecord :=
  { armed := false, trigger := .idle, input := false, qualificationTime := 20, slot := none, nextNumber := 0,
    bounces := 0, strays := 0, overruns := 0, requests := [], returned := [] }

/-- R133, for inactive inputs. -/
def Pocket.reset : Pocket :=
  { state := .vacant, dock := .both none, occupied := false, occupancyInput := false, sense := false,
    senseInput := false, foreignMark := false, lid := .closed, drive := false, timer := none,
    restartCompare := false }

/-- The report of an arm without a current pocket (R142), and the record of an arm from which no report is held (R133,
R134). DESIGN CHOICE (log 11): the spec gives RACK_READ no other form for an arm without a report. -/
def PocketReport.reset : PocketReport := { pocket := none, suppressed := false, stow := false }

/-- R133. -/
def Rack.reset : Rack :=
  { pockets := Vector.replicate 20 Pocket.reset, reports := .both PocketReport.reset, arbiter := .free, queue := [],
    grantTimer := none, grantTimeout := 60000, lidTimeout := 1500 }

/-- R160. -/
def Change.reset : Change :=
  { state := .idle, target := none, stowing := none, current := none, allow := false, opened := [],
    stowClose := false, timer := none, faultResult := none, double := false, last := none, staged := none,
    stagedOutcome := .none, lastReference := none, wait := .departure }

/-- R160, for an inactive module-present input. -/
def Head.reset : Head :=
  { state := .empty, allowUnqualified := false, modulePresent := false, moduleInput := false, attempt := none }

/-- R160. -/
def Sequencer.reset : Sequencer :=
  { change := .both Change.reset, head := .both Head.reset, approachTimeout := 30000, transferTimeout := 10000 }

def Causes.none : Causes :=
  { powerOn := false, restart := false, zone := false, collision := false, axisFault := false }

def ZoneSet.none : ZoneSet := Vector.replicate 16 false

/-- R181. -/
def HoldRecord.reset : HoldRecord :=
  { causes := { Causes.none with powerOn := true }, violated := ZoneSet.none, permit := ZoneSet.none,
    inside := ZoneSet.none, points := none }

/-- R181. -/
def ZoneMonitor.reset : ZoneMonitor :=
  { table := Vector.replicate 16 none, grantee := none, hold := .both HoldRecord.reset }

/-- R194. -/
def Attention.reset : Attention :=
  { sources := Vector.replicate 14 { flag := false, enable := false, level := 0 }, stack := [] }

/-- R210. -/
def Link.reset : Link := { state := .idle, badFrames := 0, discarded := 0, sent := [] }

/-- The part right after start-up of a two-arm build with every input inactive (R210). DESIGN CHOICE, unsafe: the spec
gives no level or phase to an input or to the strap (log 1); START_UP brings the levels of a run. -/
def State.reset : State :=
  { oneArm := false, powered := true, frz := false, library := Library.reset, arms := .both ArmAxes.reset,
    scanner := Scanner.reset, comp := Compensation.reset, touch := .both TouchRecord.reset, rack := Rack.reset,
    sequencer := Sequencer.reset, zones := ZoneMonitor.reset, attention := Attention.reset, link := Link.reset,
    mail := [], answer := none, pending := [] }

end Sys2Proof.Machine
end

