-- ==== Sys2Proof/Machine/Clock.lean ====
section
/-! DEFINITION. The passing of one millisecond on an empty queue: the timers whose time left the host can read run down,
and the qualification timers run up. DESIGN CHOICE (log 8): an expiry is a command of its own. -/

namespace Sys2Proof.Machine

/-- A running timer loses one millisecond; one with no time left waits for its expiry. -/
def tickTimer (t : Timer) : Timer := t.map fun n => n - 1

/-- The qualification timer of a trigger in QUALIFYING gains 1,000 µs, and stands at the qualification time once it has
reached it (spec 06, R98, R103). -/
def TriggerState.older : TriggerState → TriggerState
  | .qualifying captured time timer => .qualifying captured time (min (timer + 1000) time)
  | st => st

/-- The qualification timers run in real time, whatever FRZ is (spec 06, R99). -/
def State.tickTouch (s : State) : State :=
  { s with touch := s.touch.map fun t => { t with trigger := t.trigger.older } }

/-- The scan, lid, grant and step timers run while FRZ is inactive (spec 03, R60; spec 07, R121, R127; spec 08,
R138). -/
def State.tickTimers (s : State) : State :=
  if s.frz then s
  else
    { s with
      scanner := { s.scanner with timer := tickTimer s.scanner.timer }
      rack := { s.rack with
        grantTimer := tickTimer s.rack.grantTimer
        pockets := s.rack.pockets.map fun r => { r with timer := tickTimer r.timer } }
      sequencer := { s.sequencer with
        change := s.sequencer.change.map fun c => { c with timer := tickTimer c.timer } } }

def State.tick (s : State) : State := if s.powered then s.tickTimers.tickTouch else s

end Sys2Proof.Machine
end

