-- ==== Sys2Proof/Machine/Arith.lean ====
section
/-! DEFINITION. The integer arithmetic of the part: rounding and clamping (spec 00, sections 5.1 to 5.3). -/

namespace Sys2Proof.Machine

/-- `n / d` rounded to the nearest integer, a half away from zero, for a positive `d` (spec 00, section 5.1). -/
def roundDiv (n d : Int) : Int :=
  if 0 ≤ n then (2 * n + d) / (2 * d) else -((2 * -n + d) / (2 * d))

/-- A value replaced by the nearer bound of its range when it lies outside (section 5.2). -/
def clamp (lo hi v : Int) : Int := if v < lo then lo else if hi < v then hi else v

/-- Whether clamping replaces the value. -/
def outside (lo hi v : Int) : Bool := decide (v < lo) || decide (hi < v)

/-- A length brought within its limits (section 5; spec 05, R89). -/
def saturate (v : Int) : Int := clamp (-Config.lengthMax) Config.lengthMax v

def saturates (v : Int) : Bool := outside (-Config.lengthMax) Config.lengthMax v

/-- An event counter increased by one, stopping at 65,535 (section 5.3). -/
def bump (n : Nat) : Nat := if n < Config.counterMax then n + 1 else n

end Sys2Proof.Machine
end

