-- ==== Sys2Proof/Machine/Ops.lean ====
section
/-! DEFINITION. The named reads and updates of the part's records that every block uses, and the sending of a message
from one block to another. -/

namespace Sys2Proof.Machine

/-! ### Reads -/

/-- Arm 1 is not present in a one-arm build (spec 02, R38). -/
def State.present (s : State) : Arm → Bool
  | .zero => true
  | .one => !s.oneArm

/-- A request that names arm 1 in a one-arm build is refused NOT_PRESENT (spec 02, R38). -/
def State.absentArm (s : State) (a : Arm) : Bool := !s.present a

def AxisRecord.isReferenced (r : AxisRecord) : Bool := r.state == .referenced

def AxisRecord.isFaulted (r : AxisRecord) : Bool :=
  match r.state with
  | .fault _ => true
  | _ => false

/-- The guard state of an arm: REFERENCED when its three axes are (spec 02, R35). -/
def ArmAxes.referenced (r : ArmAxes) : Bool := (r.axes.map AxisRecord.isReferenced).forall

def ArmAxes.faulted (r : ArmAxes) : Bool := (r.axes.map AxisRecord.isFaulted).any

def ArmAxes.counts (r : ArmAxes) : Point := r.axes.map AxisRecord.count

/-- The guard state of an arm; an arm that is not present has none (R35). -/
def State.referenced (s : State) (a : Arm) : Bool := s.present a && (s.arms.get a).referenced

def State.pocket (s : State) (p : Fin 20) : Pocket := s.rack.pockets[p]

def State.change (s : State) (a : Arm) : Change := s.sequencer.change.get a

def State.head (s : State) (a : Arm) : Head := s.sequencer.head.get a

/-- A change is in progress while its state is not IDLE (spec 08, R135). -/
def Change.busy (c : Change) : Bool := c.state != .idle

/-! ### Updates -/

def State.setTip (s : State) (i : Fin 64) (slot : TipSlot) : State :=
  { s with library := { s.library with tips := upd s.library.tips i slot } }

def State.setArm (s : State) (a : Arm) (r : ArmAxes) : State := { s with arms := s.arms.set a r }

def State.setTouch (s : State) (a : Arm) (t : TouchRecord) : State := { s with touch := s.touch.set a t }

def State.setPocket (s : State) (p : Fin 20) (r : Pocket) : State :=
  { s with rack := { s.rack with pockets := upd s.rack.pockets p r } }

def State.setChange (s : State) (a : Arm) (c : Change) : State :=
  { s with sequencer := { s.sequencer with change := s.sequencer.change.set a c } }

def State.setHead (s : State) (a : Arm) (h : Head) : State :=
  { s with sequencer := { s.sequencer with head := s.sequencer.head.set a h } }

def State.setHold (s : State) (a : Arm) (h : HoldRecord) : State :=
  { s with zones := { s.zones with hold := s.zones.hold.set a h } }

def State.setZone (s : State) (z : Fin 16) (r : Option Zone) : State :=
  { s with zones := { s.zones with table := upd s.zones.table z r } }

def State.setString (s : State) (g : Strg) (r : StringControl) : State :=
  { s with scanner := { s.scanner with strings := s.scanner.strings.set g r } }

def State.setSensor (s : State) (g : Strg) (i : Fin 16) (r : Option Sensor) : State :=
  { s with scanner := { s.scanner with
      sensors := s.scanner.sensors.set g (upd (s.scanner.sensors.get g) i r) } }

def State.setArbiter (s : State) (r : Arbiter) : State := { s with rack := { s.rack with arbiter := r } }

def State.setFormations (s : State) (a : Arm) (causes : List FormationCause) : State :=
  { s with comp := { s.comp with formationDue := s.comp.formationDue.set a causes } }

/-- The formations asked for after a motion event: with the motion events not yet taken it asks for one (spec 02, R36;
spec 05, R93). -/
def withMotion (due : List FormationCause) : List FormationCause :=
  if due.contains .motion then due else due ++ [.motion]

/-- A motion event of the arm reaches the compensation engine (spec 02, R36). -/
def State.askFormation (s : State) (a : Arm) : State := s.setFormations a (withMotion (s.comp.formationDue.get a))

/-- A recomputation or a stale transition asks for a check-point formation of its own (spec 04, R79; spec 05, R93). -/
def State.askReformation (s : State) (a : Arm) : State :=
  s.setFormations a (s.comp.formationDue.get a ++ [.recomputation])

/-- A message to another block, taken after those sent before it. -/
def State.send (s : State) (m : Message) : State := { s with mail := s.mail ++ [m] }

def State.setAnswer (s : State) (r : Answer) : State := { s with answer := some r }

/-! ### Sets -/

def Causes.has (c : Causes) : HoldCause → Bool
  | .powerOn => c.powerOn
  | .restart => c.restart
  | .zone => c.zone
  | .collision => c.collision
  | .axisFault => c.axisFault

def Causes.add (c : Causes) : HoldCause → Causes
  | .powerOn => { c with powerOn := true }
  | .restart => { c with restart := true }
  | .zone => { c with zone := true }
  | .collision => { c with collision := true }
  | .axisFault => { c with axisFault := true }

def Causes.isEmpty (c : Causes) : Bool := c == Causes.none

def ZoneSet.union (v w : ZoneSet) : ZoneSet := Vector.ofFn fun i => v[i] || w[i]

def Box.contains (b : Box) (q : Point) : Bool :=
  decide (b.lo.x ≤ q.x ∧ q.x ≤ b.hi.x ∧ b.lo.y ≤ q.y ∧ q.y ≤ b.hi.y ∧ b.lo.z ≤ q.z ∧ q.z ≤ b.hi.z)

/-- A box grown by `m` on every side, formed exactly (spec 09, R164). -/
def Box.grow (b : Box) (m : Int) : Box := { lo := b.lo.map (· - m), hi := b.hi.map (· + m) }

end Sys2Proof.Machine
end

