-- ==== Sys2Proof/Machine/Flags.lean ====
section
/-! DEFINITION. The attention flags and the output pins that follow from State: raising a source (spec 10, R184), the
condition of ATTN (R186), RDY (spec 11, R196) and HOLD (spec 09, R170), and the hold causes (R170). -/

namespace Sys2Proof.Machine

/-! ### Attention -/

/-- The place of a source in the fixed order, counting from 0; its number is one more (R183). -/
def sourceIndex : AttnSource → Fin 14
  | .hold .zero => 0
  | .hold .one => 1
  | .axis .zero => 2
  | .axis .one => 3
  | .touch .zero => 4
  | .touch .one => 5
  | .change .zero => 6
  | .change .one => 7
  | .rack => 8
  | .pocket => 9
  | .tip => 10
  | .sensor => 11
  | .group => 12
  | .lineCheck => 13

/-- The arm a source belongs to, if it belongs to one. -/
def sourceArm : AttnSource → Option Arm
  | .hold a | .axis a | .touch a | .change a => some a
  | _ => none

/-- The sources of arm 1 are never raised in a one-arm build (R184, R38). -/
def State.canRaise (s : State) (src : AttnSource) : Bool :=
  match sourceArm src with
  | some a => s.present a
  | none => true

def State.setSource (s : State) (i : Fin 14) (r : SourceRecord) : State :=
  { s with attention := { s.attention with sources := upd s.attention.sources i r } }

/-- A raise sets the flag of the source and changes nothing else (R184). -/
def State.raise (s : State) (src : AttnSource) : State :=
  if s.canRaise src then
    s.setSource (sourceIndex src) { s.attention.sources[sourceIndex src] with flag := true }
  else s

/-- The service level: the top of the stack, or 0 (R185). -/
def Attention.serviceLevel (r : Attention) : Fin 4 := r.stack.headD 0

/-- A source qualifies when its flag is set, its enable is on and its level is above the service level (R186). -/
def Attention.qualifies (r : Attention) (i : Fin 14) : Bool :=
  r.sources[i].flag && r.sources[i].enable && decide (r.serviceLevel < r.sources[i].level)

/-- ATTN is active exactly when some source qualifies (R186), and inactive during power-on (spec 11, R210). -/
def State.attnActive (s : State) : Bool := s.powered && (List.finRange 14).any s.attention.qualifies

/-- The source ATTN_TAKE chooses: the highest level among those that qualify, and among those of that level the lowest
number (R190). -/
def Attention.choice (r : Attention) : Option (Fin 14) :=
  (List.finRange 14).foldl (fun best i =>
    if r.qualifies i then
      match best with
      | none => some i
      | some j => if r.sources[j].level < r.sources[i].level then some i else some j
    else best) none

/-! ### RDY -/

/-- RDY is active while the link is RESPONSE_READY (spec 11, R196), and inactive during power-on (R210). -/
def State.rdyActive (s : State) : Bool :=
  s.powered &&
  match s.link.state with
  | .responseReady _ _ => true
  | _ => false

/-! ### Holds -/

/-- The HOLD output of an arm is active exactly when its cause set is not empty (spec 09, R170). During power-on both
are active, and in a one-arm build that of arm 1 is inactive once start-up has begun (R210, R38). -/
def State.holdActive (s : State) (a : Arm) : Bool :=
  !s.powered || (s.present a && !(s.zones.hold.get a).causes.isEmpty)

/-- Probing armed becomes no (spec 06, R101). -/
def State.disarm (s : State) (a : Arm) : State := s.setTouch a { s.touch.get a with armed := false }

def State.setCauses (s : State) (a : Arm) (c : Causes) : State :=
  s.setHold a { s.zones.hold.get a with causes := c }

/-- A cause is added to an arm's hold cause set. An addition to an empty set latches the hold: probing is disarmed and
the HOLD source is raised (R170). -/
def State.addCause (s : State) (a : Arm) (c : HoldCause) : State :=
  if s.present a then
    let before := (s.zones.hold.get a).causes
    let s := s.setCauses a (before.add c)
    if before.isEmpty then (s.disarm a).raise (.hold a) else s
  else s

end Sys2Proof.Machine
end

