-- ==== Sys2Proof/Decode.lean ====
section
/-! DEFINITION. The request frames of the SPI port: the request catalogue (spec 11, R202), the judgement of a frame
(R197), the reading of a well-formed frame into its command and the writing of a command's frame (R201). The opcode
table gives no row any bits, so `decodeTableWord` reads none. -/

namespace Sys2Proof

/-- The table gives no row a word of bits: no word spells a command. -/
def decodeTableWord (_nbits _w : Nat) : Option Instr := none

/-! ### Fields -/

/-- A four-byte field, most significant byte first (R201). -/
def joinWord (a b c d : Byte) : Word := ((a ++ b) ++ c) ++ d

def wordBytes (w : Word) : List Byte :=
  [w.extractLsb' 24 8, w.extractLsb' 16 8, w.extractLsb' 8 8, w.extractLsb' 0 8]

def boundsBytes (b : Bounds) : List Byte := wordBytes b.lo ++ wordBytes b.hi

def axesBytes {α : Type} (f : α → List Byte) (t : Axes α) : List Byte := f t.x ++ f t.y ++ f t.z

def readByte : List Byte → Option (Byte × List Byte)
  | b :: r => some (b, r)
  | [] => none

def readWord : List Byte → Option (Word × List Byte)
  | a :: b :: c :: d :: r => some (joinWord a b c d, r)
  | _ => none

def readBounds (p : List Byte) : Option (Bounds × List Byte) := do
  let (lo, p) ← readWord p
  let (hi, p) ← readWord p
  return (⟨lo, hi⟩, p)

def readAxes {α : Type} (f : List Byte → Option (α × List Byte)) (p : List Byte) : Option (Axes α × List Byte) := do
  let (x, p) ← f p
  let (y, p) ← f p
  let (z, p) ← f p
  return (⟨x, y, z⟩, p)

/-- The entries of ATTN_CONFIG, three bytes each. -/
def readEntries : List Byte → Option (List AttnEntry)
  | [] => some []
  | a :: b :: c :: r => (readEntries r).map (⟨a, b, c⟩ :: ·)
  | _ => none

/-- What is left of a payload is nothing: the payload has the length the catalogue gives. -/
def whole (i : Instr) (rest : List Byte) : Option Instr := if rest = [] then some i else none

/-! ### The request catalogue -/

/-- The payload lengths the catalogue allows for a request. -/
inductive LengthRule where
  | exactly (n : Nat)
  /-- A count byte, 0 to 14, and that many entries of this size (R201). -/
  | listOf (entry : Nat)
  | anyLength
deriving DecidableEq, Repr

/-- The request catalogue (R202): code and payload length. -/
def catalogue : List (Nat × LengthRule) :=
  [(0x01, .exactly 0), (0x02, .anyLength), (0x03, .exactly 0), (0x04, .exactly 1), (0x05, .exactly 5),
   (0x06, .exactly 1), (0x10, .exactly 7), (0x11, .exactly 23), (0x12, .exactly 2), (0x13, .exactly 1),
   (0x14, .exactly 8), (0x15, .exactly 1), (0x16, .exactly 1), (0x20, .exactly 6), (0x21, .exactly 28),
   (0x22, .exactly 1), (0x30, .exactly 8), (0x31, .exactly 2), (0x32, .exactly 3), (0x33, .exactly 6),
   (0x34, .exactly 0), (0x35, .exactly 2), (0x36, .exactly 1), (0x40, .exactly 0), (0x41, .exactly 40),
   (0x42, .exactly 0), (0x48, .exactly 1), (0x50, .exactly 2), (0x51, .exactly 1), (0x60, .exactly 52),
   (0x61, .exactly 1), (0x62, .exactly 1), (0x63, .exactly 0), (0x64, .exactly 0), (0x70, .exactly 3),
   (0x71, .exactly 1), (0x72, .exactly 1), (0x80, .exactly 31), (0x81, .exactly 1), (0x82, .exactly 1),
   (0x83, .exactly 1), (0x84, .exactly 1), (0x85, .exactly 1), (0x86, .exactly 1), (0x90, .listOf 1),
   (0x91, .listOf 3), (0x92, .exactly 0), (0x93, .exactly 0)]

def LengthRule.allows (rule : LengthRule) (payload : List Byte) : Bool :=
  match rule with
  | .exactly n => payload.length == n
  | .listOf size =>
    match payload with
    | [] => false
    | count :: entries => decide (count.toNat ≤ 14) && entries.length == count.toNat * size
  | .anyLength => true

/-- What the link makes of a frame taken while it is not EXECUTING (R197, cases 1, 2 and 4 to 7). -/
inductive FrameVerdict where
  | ignored
  | collect
  | bad
  | unknownCode
  | wellFormed
deriving DecidableEq, Repr

def judgeFrame (bytes : List Byte) : FrameVerdict :=
  match bytes with
  | [] => .ignored
  | code :: rest =>
    if code = 0x02 then .collect
    else
      match rest with
      | [] => .bad
      | len :: payload =>
        if len.toNat > 120 ∨ payload.length ≠ len.toNat then .bad
        else
          match catalogue.lookup code.toNat with
          | none => .unknownCode
          | some rule => if rule.allows payload then .wellFormed else .bad

/-! ### Reading a frame -/

/-- The command of a well-formed frame's code and payload (R201, R202). -/
def decodePayload (code : Byte) (p : List Byte) : Option Instr :=
  match code.toNat with
  | 0x01 => whole .identify p
  | 0x03 => whole .restart p
  | 0x04 => do
    let (clear, p) ← readByte p
    whole (.countersRead clear) p
  | 0x05 => do
    let (number, p) ← readByte p
    let (value, p) ← readWord p
    whole (.settingWrite number value) p
  | 0x06 => do
    let (number, p) ← readByte p
    whole (.settingRead number) p
  | 0x10 => do
    let (tip, p) ← readByte p
    let (moduleId, p) ← readWord p
    let (cls, p) ← readByte p
    let (home, p) ← readByte p
    whole (.tipWrite tip moduleId cls home) p
  | 0x11 => do
    let (tip, p) ← readByte p
    let (arm, p) ← readByte p
    let (dx, p) ← readWord p
    let (dy, p) ← readWord p
    let (dz, p) ← readWord p
    let (r, p) ← readWord p
    let (source, p) ← readByte p
    let (temp, p) ← readWord p
    whole (.tipQualify tip arm dx dy dz r source temp) p
  | 0x12 => do
    let (tip, p) ← readByte p
    let (arm, p) ← readByte p
    whole (.tipUnqualify tip arm) p
  | 0x13 => do
    let (tip, p) ← readByte p
    whole (.tipRead tip) p
  | 0x14 => do
    let (state, p) ← readByte p
    let (cls, p) ← readByte p
    let (loc, p) ← readByte p
    let (entry0, p) ← readByte p
    let (quality0, p) ← readByte p
    let (entry1, p) ← readByte p
    let (quality1, p) ← readByte p
    let (cursor, p) ← readByte p
    whole (.tipFind state cls loc entry0 quality0 entry1 quality1 cursor) p
  | 0x15 => do
    let (tip, p) ← readByte p
    whole (.tipRetire tip) p
  | 0x16 => do
    let (tip, p) ← readByte p
    whole (.tipPurge tip) p
  | 0x20 => do
    let (arm, p) ← readByte p
    let (axis, p) ← readByte p
    let (reference, p) ← readWord p
    whole (.axisHome arm axis reference) p
  | 0x21 => do
    let (arm, p) ← readByte p
    let (origin, p) ← readAxes readWord p
    let (direction, p) ← readAxes readByte p
    let (s0, p) ← readAxes readWord p
    whole (.armSetup arm origin direction s0) p
  | 0x22 => do
    let (arm, p) ← readByte p
    whole (.positionRead arm) p
  | 0x30 => do
    let (string, p) ← readByte p
    let (address, p) ← readByte p
    let (binding, p) ← readByte p
    let (trim, p) ← readWord p
    let (shift, p) ← readByte p
    whole (.sensorWrite string address binding trim shift) p
  | 0x31 => do
    let (string, p) ← readByte p
    let (address, p) ← readByte p
    whole (.sensorRetire string address) p
  | 0x32 => do
    let (string, p) ← readByte p
    let (address, p) ← readByte p
    let (clear, p) ← readByte p
    whole (.sensorRead string address clear) p
  | 0x33 => do
    let (mode, p) ← readByte p
    let (present, p) ← readByte p
    let (period, p) ← readWord p
    whole (.scanControl mode present period) p
  | 0x34 => whole .scanRead p
  | 0x35 => do
    let (string, p) ← readByte p
    let (passes, p) ← readByte p
    whole (.lineCheck string passes) p
  | 0x36 => do
    let (string, p) ← readByte p
    whole (.lineCheckRead string) p
  | 0x40 => whole .groupRead p
  | 0x41 => do
    let (a0, p) ← readAxes readWord p
    let (a1, p) ← readAxes readWord p
    let (alphaW, p) ← readWord p
    let (w0, p) ← readAxes readWord p
    whole (.compSetup ⟨a0, a1⟩ alphaW w0) p
  | 0x42 => whole .compRead p
  | 0x48 => do
    let (arm, p) ← readByte p
    whole (.convert arm) p
  | 0x50 => do
    let (arm, p) ← readByte p
    let (value, p) ← readByte p
    whole (.probeArm arm value) p
  | 0x51 => do
    let (arm, p) ← readByte p
    whole (.touchTake arm) p
  | 0x60 => do
    let (pocket, p) ← readByte p
    let (state, p) ← readByte p
    let (present0, p) ← readByte p
    let (box0, p) ← readAxes readBounds p
    let (present1, p) ← readByte p
    let (box1, p) ← readAxes readBounds p
    whole (.pocketWrite pocket state present0 box0 present1 box1) p
  | 0x61 => do
    let (pocket, p) ← readByte p
    whole (.pocketClearForeign pocket) p
  | 0x62 => do
    let (pocket, p) ← readByte p
    whole (.pocketRead pocket) p
  | 0x63 => whole .rackUnlock p
  | 0x64 => whole .rackRead p
  | 0x70 => do
    let (arm, p) ← readByte p
    let (target, p) ← readByte p
    let (allow, p) ← readByte p
    whole (.change arm target allow) p
  | 0x71 => do
    let (arm, p) ← readByte p
    whole (.changeAbort arm) p
  | 0x72 => do
    let (arm, p) ← readByte p
    whole (.changeRead arm) p
  | 0x80 => do
    let (zone, p) ← readByte p
    let (kind, p) ← readByte p
    let (arm, p) ← readByte p
    let (box, p) ← readAxes readBounds p
    let (margin, p) ← readWord p
    whole (.zoneWrite zone kind arm box margin) p
  | 0x81 => do
    let (zone, p) ← readByte p
    whole (.zoneSuspend zone) p
  | 0x82 => do
    let (zone, p) ← readByte p
    whole (.zoneResume zone) p
  | 0x83 => do
    let (zone, p) ← readByte p
    whole (.zoneDelete zone) p
  | 0x84 => do
    let (zone, p) ← readByte p
    whole (.zoneRead zone) p
  | 0x85 => do
    let (arm, p) ← readByte p
    whole (.holdRelease arm) p
  | 0x86 => do
    let (arm, p) ← readByte p
    whole (.holdRead arm) p
  | 0x90 => do
    let (count, p) ← readByte p
    if count.toNat ≤ 14 ∧ p.length = count.toNat then some (.attnFlags p) else none
  | 0x91 => do
    let (count, p) ← readByte p
    if count.toNat ≤ 14 ∧ p.length = count.toNat * 3 then (readEntries p).map .attnConfig else none
  | 0x92 => whole .attnTake p
  | 0x93 => whole .attnRelease p
  | _ => none

/-- The command a frame from the host spells, if it is a COLLECT or a well-formed request (R197, R201). -/
def decodeFrame (bytes : List Byte) : Option Instr :=
  match bytes with
  | [] => none
  | code :: rest =>
    if code = 0x02 then some (.collect (rest.length + 1))
    else
      match rest with
      | [] => none
      | len :: payload =>
        if len.toNat ≤ 120 ∧ payload.length = len.toNat then decodePayload code payload else none

/-! ### Writing a frame -/

def entryBytes (e : AttnEntry) : List Byte := [e.source, e.enable, e.level]

/-- The request code and payload of a request (R201, R202); none for a command that is no request frame. -/
def encodeRequest : Instr → Option (Byte × List Byte)
  | .identify => some (0x01, [])
  | .restart => some (0x03, [])
  | .countersRead clear => some (0x04, [clear])
  | .settingWrite number value => some (0x05, number :: wordBytes value)
  | .settingRead number => some (0x06, [number])
  | .tipWrite tip moduleId cls home => some (0x10, tip :: wordBytes moduleId ++ [cls, home])
  | .tipQualify tip arm dx dy dz r source temp =>
    some (0x11, tip :: arm :: wordBytes dx ++ wordBytes dy ++ wordBytes dz ++ wordBytes r ++ source :: wordBytes temp)
  | .tipUnqualify tip arm => some (0x12, [tip, arm])
  | .tipRead tip => some (0x13, [tip])
  | .tipFind state cls loc entry0 quality0 entry1 quality1 cursor =>
    some (0x14, [state, cls, loc, entry0, quality0, entry1, quality1, cursor])
  | .tipRetire tip => some (0x15, [tip])
  | .tipPurge tip => some (0x16, [tip])
  | .axisHome arm axis reference => some (0x20, arm :: axis :: wordBytes reference)
  | .armSetup arm origin direction s0 =>
    some (0x21, arm :: axesBytes wordBytes origin ++ axesBytes (fun b => [b]) direction ++ axesBytes wordBytes s0)
  | .positionRead arm => some (0x22, [arm])
  | .sensorWrite string address binding trim shift =>
    some (0x30, string :: address :: binding :: wordBytes trim ++ [shift])
  | .sensorRetire string address => some (0x31, [string, address])
  | .sensorRead string address clear => some (0x32, [string, address, clear])
  | .scanControl mode present period => some (0x33, mode :: present :: wordBytes period)
  | .scanRead => some (0x34, [])
  | .lineCheck string passes => some (0x35, [string, passes])
  | .lineCheckRead string => some (0x36, [string])
  | .groupRead => some (0x40, [])
  | .compSetup alphaS alphaW w0 =>
    some (0x41, axesBytes wordBytes alphaS.zero ++ axesBytes wordBytes alphaS.one ++ wordBytes alphaW
      ++ axesBytes wordBytes w0)
  | .compRead => some (0x42, [])
  | .convert arm => some (0x48, [arm])
  | .probeArm arm value => some (0x50, [arm, value])
  | .touchTake arm => some (0x51, [arm])
  | .pocketWrite pocket state present0 box0 present1 box1 =>
    some (0x60, pocket :: state :: present0 :: axesBytes boundsBytes box0 ++ present1 :: axesBytes boundsBytes box1)
  | .pocketClearForeign pocket => some (0x61, [pocket])
  | .pocketRead pocket => some (0x62, [pocket])
  | .rackUnlock => some (0x63, [])
  | .rackRead => some (0x64, [])
  | .change arm target allow => some (0x70, [arm, target, allow])
  | .changeAbort arm => some (0x71, [arm])
  | .changeRead arm => some (0x72, [arm])
  | .zoneWrite zone kind arm box margin =>
    some (0x80, zone :: kind :: arm :: axesBytes boundsBytes box ++ wordBytes margin)
  | .zoneSuspend zone => some (0x81, [zone])
  | .zoneResume zone => some (0x82, [zone])
  | .zoneDelete zone => some (0x83, [zone])
  | .zoneRead zone => some (0x84, [zone])
  | .holdRelease arm => some (0x85, [arm])
  | .holdRead arm => some (0x86, [arm])
  | .attnFlags named => some (0x90, BitVec.ofNat 8 named.length :: named)
  | .attnConfig entries => some (0x91, BitVec.ofNat 8 entries.length :: entries.flatMap entryBytes)
  | .attnTake => some (0x92, [])
  | .attnRelease => some (0x93, [])
  | _ => none

/-- The frame of a request or of a COLLECT of at least one byte (R205). The bytes a COLLECT carries after its code
are ignored by the part; here they are zeros. -/
def encodeFrame : Instr → Option (List Byte)
  | .collect (n + 1) => some (0x02 :: List.replicate n 0)
  | i => (encodeRequest i).map fun (code, payload) => code :: BitVec.ofNat 8 payload.length :: payload

end Sys2Proof
end

