-- ==== Sys2Proof/Machine/Library.lean ====
section
/-! DEFINITION. The probe library (spec 01): the look-ups of the tip table, the location reports of the change sequencer
and the rack controller (R18 to R20), the registration claim (R8), drift ageing (R22) and the restart of the records
(R24). The requests of the library are in LibraryRequests.lean. -/

namespace Sys2Proof.Machine

/-! ### Look-ups -/

def TipSlot.activeTip : TipSlot → Option Tip
  | .active t => some t
  | _ => none

/-- The ACTIVE record in a slot, if there is one. -/
def State.activeTip (s : State) (i : Fin 64) : Option Tip := s.library.tips[i].activeTip

/-- The ACTIVE record for which `f` holds, the lowest tip number first. -/
def State.findTip (s : State) (f : Tip → Bool) : Option (Fin 64) :=
  (List.finRange 64).find? fun i => (s.activeTip i).any f

/-- Module-ID look-up among ACTIVE records (R4). -/
def State.tipWithId (s : State) (id : Word) : Option (Fin 64) := s.findTip fun t => t.moduleId == id

/-- The ACTIVE record with this home pocket (R4, R116). -/
def State.tipWithHome (s : State) (p : Fin 20) : Option (Fin 64) := s.findTip fun t => t.home == p

/-- The mounted tip of an arm: the ACTIVE record that is ON_ARM of it (R5). -/
def State.mountedTip (s : State) (a : Arm) : Option (Fin 64) := s.findTip fun t => t.location == .onArm a

/-- The entry of the mounted tip for its arm (spec 05, R83). -/
def State.mountedEntry (s : State) (a : Arm) : Option Entry :=
  ((s.mountedTip a).bind s.activeTip).bind fun t => t.entries.get a

/-- A tip is named by a change when it is the target or the stowing tip of an arm's change in progress, or the target
of an arm's staged request (section 1.1.1). -/
def Change.names (c : Change) (i : Fin 64) : Bool :=
  (c.busy && (c.target == some i || c.stowing == some i)) ||
  match c.staged with
  | some r => r.target == some i
  | none => false

def State.tipNamed (s : State) (i : Fin 64) : Bool := (s.change .zero).names i || (s.change .one).names i

/-- A tip is named as target by the change of one arm (section 1.1.1). -/
def State.tipTargetOf (s : State) (a : Arm) (i : Fin 64) : Bool :=
  (s.change a).busy && (s.change a).target == some i

/-! ### Moves of a record -/

/-- The foreign mark of a pocket is removed (spec 07, R118). -/
def State.clearForeign (s : State) (p : Fin 20) : State :=
  s.setPocket p { s.pocket p with foreignMark := false }

/-- An ACTIVE record takes a location by a report. A move to MISSING raises TIP (R18); a move to IN_POCKET removes the
foreign mark of its home pocket (spec 07, R118). -/
def State.moveTip (s : State) (i : Fin 64) (t : Tip) (loc : Location) : State :=
  let s := s.setTip i (.active { t with location := loc })
  match loc with
  | .missing => s.raise .tip
  | .inPocket => s.clearForeign t.home
  | _ => s

/-- Whether the slot holds a record ON_ARM of the arm other than the one kept. -/
def State.losesMounted (s : State) (a : Arm) (keep : Option (Fin 64)) (i : Fin 64) : Bool :=
  (s.activeTip i).any (fun t => t.location == .onArm a) && keep != some i

def TipSlot.toMissing : TipSlot → TipSlot
  | .active t => .active { t with location := .missing }
  | slot => slot

/-- Every record ON_ARM of the arm but the one kept becomes MISSING, and TIP is raised if there was one (R5, R19). -/
def State.loseMounted (s : State) (a : Arm) (keep : Option (Fin 64)) : State :=
  if (List.finRange 64).any (s.losesMounted a keep) then
    let tips := Vector.ofFn fun i =>
      if s.losesMounted a keep i then s.library.tips[i].toMissing else s.library.tips[i]
    ({ s with library := { s.library with tips := tips } } : State).raise .tip
  else s

/-- The head state of an arm becomes TIP with the record that is now ON_ARM of it, the allow-unqualified mark as given
(spec 08, R136). -/
def State.headBecomesTip (s : State) (a : Arm) (mark : Bool) : State :=
  s.setHead a { s.head a with state := .tip, allowUnqualified := mark }

/-- The head state of an arm takes a value other than TIP; the allow-unqualified mark is cleared (R136). -/
def State.headBecomes (s : State) (a : Arm) (h : HeadState) : State :=
  s.setHead a { s.head a with state := h, allowUnqualified := false }

/-! ### Reports of the change sequencer (R18, R19) -/

/-- A report's answer, "applied" or "refused" ("matched" or "not matched" for an identity report), and the part after
it. -/
structure Applied where
  yes : Bool
  state : State
deriving DecidableEq, Repr

def State.refusesReport (s : State) : Applied := { yes := false, state := s }

/-- "Stow release begins": ON_ARM(a) to IN_TRANSIT(a); the head of the arm is EMPTY with it (R18; spec 08, R144). -/
def State.stowReleaseBegins (s : State) (a : Arm) (i : Fin 64) : Applied :=
  match s.activeTip i with
  | some t =>
    if t.location = .onArm a then
      { yes := true, state := (s.moveTip i t (.inTransit a)).headBecomes a .empty }
    else s.refusesReport
  | none => s.refusesReport

/-- "Stow transfer complete": IN_TRANSIT(a) to IN_POCKET (R18). -/
def State.stowTransferComplete (s : State) (a : Arm) (i : Fin 64) : Applied :=
  match s.activeTip i with
  | some t =>
    if t.location = .inTransit a then { yes := true, state := s.moveTip i t .inPocket } else s.refusesReport
  | none => s.refusesReport

/-- "Pick begins": IN_POCKET to IN_TRANSIT(a) (R18). -/
def State.pickBegins (s : State) (a : Arm) (i : Fin 64) : Applied :=
  match s.activeTip i with
  | some t =>
    if t.location = .inPocket then { yes := true, state := s.moveTip i t (.inTransit a) } else s.refusesReport
  | none => s.refusesReport

/-- "Identity matched": IN_TRANSIT(a) to ON_ARM(a), any other record ON_ARM(a) becoming MISSING first (R5, R18). The
head state becomes TIP, with the allow-unqualified mark from the change whose target the tip is (spec 08, R136, R149). -/
def State.identityMatched (s : State) (a : Arm) (i : Fin 64) : Applied :=
  match s.activeTip i with
  | some t =>
    if t.location = .inTransit a then
      let mark := (s.change a).allow && (s.change a).target == some i
      { yes := true, state := ((s.loseMounted a (some i)).moveTip i t (.onArm a)).headBecomesTip a mark }
    else s.refusesReport
  | none => s.refusesReport

/-- "Transit resolved": IN_TRANSIT(a) to IN_POCKET if the pocket was observed occupied, to MISSING if empty (R18). -/
def State.transitResolved (s : State) (a : Arm) (i : Fin 64) (occupied : Bool) : Applied :=
  match s.activeTip i with
  | some t =>
    if t.location = .inTransit a then
      { yes := true, state := s.moveTip i t (if occupied then .inPocket else .missing) }
    else s.refusesReport
  | none => s.refusesReport

/-- The "not matched" cases of an identity report: every record ON_ARM(a) becomes MISSING and the head is FOREIGN with
the ID read (R19). -/
def State.identityUnmatched (s : State) (a : Arm) (id : Option Word) : Applied :=
  { yes := false, state := (s.loseMounted a none).headBecomes a (.foreignModule id) }

/-- An identity report of a module ID or "unknown" (R19). -/
def State.identityReport (s : State) (a : Arm) (id : Option Word) : Applied :=
  match id.bind s.tipWithId with
  | none => s.identityUnmatched a id
  | some i =>
    match s.activeTip i with
    | none => s.identityUnmatched a id
    | some t =>
      if t.location = .onArm a.other ∨ t.location = .inTransit a.other then s.identityUnmatched a id
      else if t.location = .onArm a then { yes := true, state := s.headBecomesTip a false }
      else { yes := true, state := ((s.loseMounted a (some i)).moveTip i t (.onArm a)).headBecomesTip a false }

/-- "Module lost": the record ON_ARM(a) becomes MISSING and the head is EMPTY; refused when there is none (R19; spec 08,
R158). -/
def State.moduleLost (s : State) (a : Arm) : Applied :=
  match s.mountedTip a with
  | some _ => { yes := true, state := (s.loseMounted a none).headBecomes a .empty }
  | none => s.refusesReport

/-! ### Reports of the rack controller (R20) -/

def Entry.toSuspect (e : Entry) : Entry := { e with state := .suspect }

def Tip.suspectEntries (t : Tip) : Tip := { t with entries := t.entries.map (Option.map Entry.toSuspect) }

/-- The library's part of "home pocket seen empty": an IN_POCKET tip of that pocket becomes MISSING. -/
def State.libraryHomeEmpty (s : State) (p : Fin 20) : Applied :=
  match s.tipWithHome p with
  | none => s.refusesReport
  | some i =>
    match s.activeTip i with
    | some t => if t.location = .inPocket then { yes := true, state := s.moveTip i t .missing } else s.refusesReport
    | none => s.refusesReport

/-- The library's part of "home pocket seen occupied": a MISSING tip of that pocket becomes IN_POCKET, its entries
SUSPECT, and TIP is raised. -/
def State.libraryHomeOccupied (s : State) (p : Fin 20) : Applied :=
  match s.tipWithHome p with
  | none => s.refusesReport
  | some i =>
    match s.activeTip i with
    | some t =>
      if t.location = .missing then
        { yes := true, state := (s.moveTip i t.suspectEntries .inPocket).raise .tip }
      else s.refusesReport
    | none => s.refusesReport

/-! ### The registration claim (R8) -/

/-- The arm whose head state is FOREIGN with the module ID. DESIGN CHOICE (log 32): where both heads are, R8 gives no order, and
arm 0 comes before arm 1. -/
def State.claimant (s : State) (id : Word) : Option Arm :=
  if (s.head .zero).state = .foreignModule (some id) then some .zero
  else if s.present .one ∧ (s.head .one).state = .foreignModule (some id) then some .one
  else none

/-- The change sequencer answers a claim from the head states it holds: a FOREIGN head with that ID becomes TIP with the
mark clear and the claim is granted (R8). -/
def State.registrationClaim (s : State) (id : Word) : Option Arm × State :=
  match s.claimant id with
  | some a => (some a, s.headBecomesTip a false)
  | none => (none, s)

/-! ### Drift ageing (R22) -/

/-- A QUALIFIED entry whose qualification temperature is off the head's value by more than the window becomes SUSPECT. -/
def Entry.drifts (window value : Int) (e : Entry) : Bool :=
  e.state == .qualified && decide (window < |e.temperature - value|)

def GroupState.value : GroupState → Option Int
  | .empty => none
  | .live v => some v
  | .held v _ => some v
  | .stale v _ => some v

/-- Whether the entry for arm `a` of an ACTIVE record drifts at this sweep end. -/
def State.slotDrifts (s : State) (a : Arm) (value : Int) (i : Fin 64) : Bool :=
  (s.activeTip i).any fun t => (t.entries.get a).any (Entry.drifts s.library.driftWindow value)

def TipSlot.suspectEntry (a : Arm) : TipSlot → TipSlot
  | .active t => .active { t with entries := t.entries.set a ((t.entries.get a).map Entry.toSuspect) }
  | slot => slot

/-- The entries for one arm tested against the value of its head group; whether one became SUSPECT. -/
def State.ageArm (s : State) (a : Arm) : Bool × State :=
  match (s.scanner.groups.head.get a).state.value with
  | some v =>
    if s.present a ∧ s.library.driftWindow ≠ 0 ∧ (List.finRange 64).any (s.slotDrifts a v) then
      let tips := Vector.ofFn fun i =>
        if s.slotDrifts a v i then s.library.tips[i].suspectEntry a else s.library.tips[i]
      (true, { s with library := { s.library with tips := tips } })
    else (false, s)
  | none => (false, s)

/-- Drift ageing at a sweep end: TIP is raised once if any entry became SUSPECT (R22). -/
def State.driftAge (s : State) : State :=
  let (aged0, s) := s.ageArm .zero
  let (aged1, s) := s.ageArm .one
  if aged0 || aged1 then s.raise .tip else s

/-! ### RESTART (R24) -/

def TipSlot.restart : TipSlot → TipSlot
  | .active t =>
    match t.location with
    | .onArm _ | .inTransit _ => .active { t with location := .missing }
    | _ => .active t
  | slot => slot

/-- Every ACTIVE record ON_ARM or IN_TRANSIT becomes MISSING, raising nothing; all else is kept (R24). -/
def Library.restart (r : Library) : Library := { r with tips := r.tips.map TipSlot.restart }

end Sys2Proof.Machine
end

