-- ==== Sys2Proof/Machine/Layouts.lean ====
section
/-! DEFINITION. The bytes of the responses: the codes of the value sets (spec 11, R201), the general encodings of a
response field (R202), the records of section 11.5 (R206 to R209) and the lists other files form their answers from. -/

namespace Sys2Proof.Machine

/-! ### General encodings (R202) -/

def byteOf (n : Nat) : Byte := BitVec.ofNat 8 n

/-- A counter or a set of zone numbers: two bytes. -/
def twoBytes (n : Nat) : List Byte := [byteOf (n / 256), byteOf n]

/-- A duration, a time left or a hold age. -/
def natBytes (n : Nat) : List Byte := wordBytes (BitVec.ofNat 32 n)

def intBytes (v : Int) : List Byte := wordBytes (BitVec.ofInt 32 v)

def yesNo (b : Bool) : Byte := if b then 1 else 0

/-- The byte of the level of ATTN, HOLD or module-present: 1 active, 0 inactive. DESIGN CHOICE (log 11): section 11.3
lists no code for a level. -/
def pinByte (active : Bool) : Byte := yesNo active

/-- The byte of a mark of its own in a response, the "more" mark (R15), the DOUBLE mark and the allow-unqualified mark of a
head (R159): 1 set, 0 clear. DESIGN CHOICE (log 11): R202 sizes a mark at one byte, and no rule lists its values. -/
def markByte (set : Bool) : Byte := yesNo set

def armByte (a : Arm) : Byte := byteOf a.toNat

/-- A field of a fixed number of bytes that may be absent: a presence byte and its full size (R202). -/
def presence {α : Type} (size : Nat) (f : α → List Byte) : Option α → List Byte
  | some v => 1 :: f v
  | none => 0 :: List.replicate size 0

/-- A list takes a count byte followed by its entries. -/
def listBytes {α : Type} (f : α → List Byte) (l : List α) : List Byte := byteOf l.length :: l.flatMap f

def pointBytes (q : Point) : List Byte := axesBytes intBytes q

def boxBytes (b : Box) : List Byte :=
  intBytes b.lo.x ++ intBytes b.hi.x ++ intBytes b.lo.y ++ intBytes b.hi.y ++ intBytes b.lo.z ++ intBytes b.hi.z

/-- Bit `n` of the number a list of Booleans stands for is its member at position `n`. -/
def bitField : List Bool → Nat
  | [] => 0
  | b :: r => (if b then 1 else 0) + 2 * bitField r

def zoneSetBytes (v : ZoneSet) : List Byte := twoBytes (bitField v.toList)

def numberByte {n : Nat} (i : Fin n) : List Byte := [byteOf i.val]

def timerBytes (t : Timer) : List Byte := presence 4 natBytes t

/-! ### Codes -/

def Status.code : Status → Byte
  | .ok => 0x00
  | .clamped => 0x01
  | .staged => 0x02
  | .nothing => 0x03
  | .badFrame => 0x04
  | .badArgument => 0x05
  | .notFound => 0x06
  | .inUse => 0x07
  | .wrongState => 0x08
  | .duplicate => 0x09
  | .full => 0x0A
  | .notReferenced => 0x0B
  | .notPresent => 0x0C
  | .unreachable => 0x0D

def TipSlot.code : TipSlot → Byte
  | .vacant => 0
  | .active _ => 1
  | .retired _ => 2

def TipClass.code : TipClass → Byte
  | .ball => 0
  | .disc => 1
  | .cylinder => 2
  | .star => 3

def Location.code : Location → Byte
  | .inPocket => 0
  | .onArm _ => 1
  | .inTransit _ => 2
  | .missing => 3

/-- Location kind and arm; the arm is 0 for the kinds that carry none (R207). -/
def Location.bytes (loc : Location) : List Byte :=
  match loc with
  | .onArm a | .inTransit a => [loc.code, armByte a]
  | _ => [loc.code, 0]

def EntryState.code : EntryState → Byte
  | .qualified => 0
  | .suspect => 1

def groupCode : Option TempGroup → Byte
  | some (.scale a i) => byteOf (3 * a.toNat + i.toNat)
  | some (.head a) => byteOf (6 + a.toNat)
  | some .workpiece => 8
  | none => 0xFF

/-! ### Records -/

def Marks.byte (m : Marks) : Byte :=
  byteOf (bitField [m.suspect, m.unqualified, m.held, m.stale, m.uncompensated, m.tempClamped, m.clamped])

/-- R206. -/
def PointRecord.bytes (r : PointRecord) : List Byte :=
  [armByte r.arm, byteOf (bitField [r.tip.isSome, r.touchNumber.isSome]),
    byteOf ((r.tip.map Fin.val).getD 0), r.marks.byte]
  ++ twoBytes (r.touchNumber.getD 0) ++ pointBytes r.raw ++ pointBytes r.coordinates ++ intBytes r.radius

/-- An entry block of R207. -/
def entryBlock : Option Entry → List Byte
  | some e => [1, e.state.code] ++ pointBytes e.offset ++ intBytes e.radius ++ intBytes e.temperature
  | none => List.replicate 22 0

def Tip.bytes (t : Tip) : List Byte :=
  wordBytes t.moduleId ++ [t.cls.code, byteOf t.home.val] ++ t.location.bytes ++ entryBlock (t.entries.get .zero)
  ++ entryBlock (t.entries.get .one)

/-- R207. -/
def tipRecord (i : Fin 64) (slot : TipSlot) : List Byte :=
  match slot with
  | .vacant => [byteOf i.val, slot.code]
  | .active t | .retired t => [byteOf i.val, slot.code] ++ t.bytes

def ZoneKind.code : ZoneKind → Byte
  | .forbidden => 0
  | .privateTo _ => 1
  | .shared _ => 2
  | .rack => 3

/-- The arm of PRIVATE; 0xFF for the other kinds. -/
def ZoneKind.armCode : ZoneKind → Byte
  | .privateTo b => armByte b
  | _ => 0xFF

def ZoneKind.claimant : ZoneKind → Option Arm
  | .shared c => c
  | _ => none

/-- Bytes 33 and 34 of R208. -/
def zoneSets (h : HoldRecord) (z : Fin 16) : Byte := byteOf (bitField [h.inside[z], h.violated[z], h.permit[z]])

/-- R208. The byte of arm 1 is 0 in a one-arm build. -/
def State.zoneRecord (s : State) (z : Fin 16) : List Byte :=
  match s.zones.table[z] with
  | none => [byteOf z.val, 0]
  | some r =>
    [byteOf z.val, if r.suspended then 2 else 1, r.kind.code, r.kind.armCode] ++ boxBytes r.box ++ intBytes r.margin
    ++ [(r.kind.claimant.map armByte).getD 0xFF, zoneSets (s.zones.hold.get .zero) z,
        if s.oneArm then 0 else zoneSets (s.zones.hold.get .one) z]

def SensorState.code : SensorState → Byte
  | .active => 1
  | .failed => 2
  | .retired => 3

/-- R209, with the bad-reading counter as it stands. -/
def sensorRecord (g : Strg) (i : Fin 16) : Option Sensor → List Byte
  | none => [byteOf g.toNat, byteOf i.val, 0]
  | some r =>
    [byteOf g.toNat, byteOf i.val, r.state.code, groupCode r.binding] ++ intBytes r.trim
    ++ [byteOf r.shift, byteOf (bitField [r.last.isSome, r.filtered.isSome])] ++ intBytes (r.last.getD 0)
    ++ intBytes (r.filtered.getD 0) ++ [byteOf r.window.length] ++ natBytes (bitField (r.window.map (· == .bad)))
    ++ twoBytes r.badCount

end Sys2Proof.Machine
end

