-- ==== Sys2Proof/Machine/Operands.lean ====
section
/-! DEFINITION. The arguments of the requests: the values the bytes of a payload stand for (spec 11, R201), the clamps
(spec 00, section 5.2), and the reply of a block to a request. -/

namespace Sys2Proof.Machine

/-! ### One-byte arguments; none means BAD_ARGUMENT -/

def indexArg (n : Nat) (b : Byte) : Option (Fin n) := if h : b.toNat < n then some ⟨b.toNat, h⟩ else none

def tipArg (b : Byte) : Option (Fin 64) := indexArg 64 b

def pocketArg (b : Byte) : Option (Fin 20) := indexArg 20 b

def zoneArg (b : Byte) : Option (Fin 16) := indexArg 16 b

def addressArg (b : Byte) : Option (Fin 16) := indexArg 16 b

/-- An arm or a string number. -/
def sideArg (b : Byte) : Option Side :=
  match b.toNat with
  | 0 => some .zero
  | 1 => some .one
  | _ => none

def axisArg (b : Byte) : Option Axis :=
  match b.toNat with
  | 0 => some .x
  | 1 => some .y
  | 2 => some .z
  | _ => none

/-- yes/no, on/off, and the presence byte. -/
def yesNoArg (b : Byte) : Option Bool :=
  match b.toNat with
  | 0 => some false
  | 1 => some true
  | _ => none

def directionArg (b : Byte) : Option Direction :=
  match b.toNat with
  | 0 => some .normal
  | 1 => some .reversed
  | _ => none

def classArg (b : Byte) : Option TipClass :=
  match b.toNat with
  | 0 => some .ball
  | 1 => some .disc
  | 2 => some .cylinder
  | 3 => some .star
  | _ => none

/-- 0 VACANT, 1 ACTIVE, 2 RETIRED. -/
def tipStateArg (b : Byte) : Option (Fin 3) := indexArg 3 b

/-- 0 IN_POCKET, 1 ON_ARM, 2 IN_TRANSIT, 3 MISSING. -/
def locationKindArg (b : Byte) : Option (Fin 4) := indexArg 4 b

def entryStateArg (b : Byte) : Option EntryState :=
  match b.toNat with
  | 0 => some .qualified
  | 1 => some .suspect
  | _ => none

/-- The nine groups or NONE. -/
def groupArg (b : Byte) : Option (Option TempGroup) :=
  match b.toNat with
  | 0 => some (some (.scale .zero .x))
  | 1 => some (some (.scale .zero .y))
  | 2 => some (some (.scale .zero .z))
  | 3 => some (some (.scale .one .x))
  | 4 => some (some (.scale .one .y))
  | 5 => some (some (.scale .one .z))
  | 6 => some (some (.head .zero))
  | 7 => some (some (.head .one))
  | 8 => some (some .workpiece)
  | 255 => some none
  | _ => none

def scanModeArg (b : Byte) : Option ScanMode :=
  match b.toNat with
  | 0 => some .continuous
  | 1 => some .single
  | 2 => some .stop
  | _ => none

/-- POCKET_WRITE takes ENABLED or DISABLED (spec 07, R119). -/
def pocketStateArg (b : Byte) : Option PocketState :=
  match b.toNat with
  | 1 => some .enabled
  | 2 => some .disabled
  | _ => none

/-- The kind of a ZONE_WRITE and the arm of PRIVATE (spec 09, R175). -/
def zoneKindArg (kind arm : Byte) : Option ZoneKind :=
  match kind.toNat with
  | 0 => some .forbidden
  | 1 => (sideArg arm).map .privateTo
  | 2 => some (.shared none)
  | 3 => some .rack
  | _ => none

/-- A source number 1 to 14 (spec 10, R187). -/
def sourceArg (b : Byte) : Option (Fin 14) :=
  if h : 1 ≤ b.toNat ∧ b.toNat ≤ 14 then some ⟨b.toNat - 1, by omega⟩ else none

/-- An argument that may be left out is sent as 0xFF (R201). -/
def optionalArg {α : Type} (f : Byte → Option α) (b : Byte) : Option (Option α) :=
  if b = 0xFF then some none else (f b).map some

/-! ### Four-byte arguments -/

/-- −2,147,483,648 is no valid length and is stored as −2,147,483,647 (spec 00, section 5). -/
def lengthArg (w : Word) : Int := saturate w.toInt

def lengthClamped (w : Word) : Bool := saturates w.toInt

def pointArg (w : Axes Word) : Point := w.map lengthArg

def pointClamped (w : Axes Word) : Bool := (w.map lengthClamped).any

/-- A box whose minimum does not exceed its maximum on any axis. -/
def boxValid (w : Axes Bounds) : Bool := (w.map fun b => decide (b.lo.toInt ≤ b.hi.toInt)).forall

def boxArg (w : Axes Bounds) : Box :=
  { lo := w.map fun b => lengthArg b.lo, hi := w.map fun b => lengthArg b.hi }

def boxClamped (w : Axes Bounds) : Bool := (w.map fun b => lengthClamped b.lo || lengthClamped b.hi).any

/-! ### Replies -/

/-- A block's answer to a request: status, payload and the part after it (spec 11, R198). -/
structure Reply where
  status : Status
  payload : List Byte
  state : State
deriving DecidableEq, Repr

/-- A refusal changes nothing and has length 0 (R200). -/
def refuse (st : Status) (s : State) : Reply := { status := st, payload := [], state := s }

/-- CLAMPED replaces OK when an argument was clamped (spec 00, section 5.2). -/
def okOr (clamped : Bool) : Status := if clamped then .clamped else .ok

def accept (payload : List Byte) (s : State) : Reply := { status := .ok, payload, state := s }

end Sys2Proof.Machine
end

