-- ==== Sys2Proof/Machine/AttentionRequests.lean ====
section
/-! DEFINITION. The requests of the attention unit: ATTN_FLAGS, ATTN_CONFIG, ATTN_TAKE and ATTN_RELEASE (spec 10). -/

namespace Sys2Proof.Machine

def levelByte (l : Fin 4) : Byte := byteOf l.val

/-- The fourteen flags: bit n stands for source n + 1 (R187). DESIGN CHOICE (log 11): they are sent as a set of sources, two
bytes of R202's bit field, and not as fourteen values of one byte. -/
def Attention.flagBytes (r : Attention) : List Byte := twoBytes (bitField (r.sources.toList.map SourceRecord.flag))

def sourcesArg : List Byte → Option (List (Fin 14))
  | [] => some []
  | b :: l =>
    match sourceArg b, sourcesArg l with
    | some i, some r => some (i :: r)
    | _, _ => none

/-- The flags of the sources named are cleared (R187). -/
def State.clearFlags (s : State) (named : List (Fin 14)) : State :=
  { s with attention := { s.attention with
      sources := Vector.ofFn fun i =>
        if named.contains i then { s.attention.sources[i] with flag := false } else s.attention.sources[i] } }

/-- R187. -/
def attnFlagsReq (named : List Byte) (s : State) : Reply :=
  match sourcesArg named with
  | none => refuse .badArgument s
  | some l =>
    let t := s.clearFlags l
    accept (s.attention.flagBytes ++ [levelByte t.attention.serviceLevel, pinByte t.attnActive]) t

/-- An entry of ATTN_CONFIG after the argument check: source, enable and level, and whether the level was clamped. -/
structure ConfigEntry where
  source : Fin 14
  enable : Bool
  level : Fin 4
  clamped : Bool
deriving DecidableEq, Repr

/-- A level above 3 is stored as 3 (R188). -/
def levelArg (b : Byte) : Fin 4 := if h : b.toNat < 4 then ⟨b.toNat, h⟩ else 3

def configArg (e : AttnEntry) : Option ConfigEntry :=
  match sourceArg e.source, yesNoArg e.enable with
  | some source, some enable =>
    some { source, enable, level := levelArg e.level, clamped := decide (3 < e.level.toNat) }
  | _, _ => none

def configsArg : List AttnEntry → Option (List ConfigEntry)
  | [] => some []
  | e :: l =>
    match configArg e, configsArg l with
    | some c, some r => some (c :: r)
    | _, _ => none

/-- No source is named twice (R188). -/
def sourcesDistinct (l : List ConfigEntry) : Bool := decide (l.map ConfigEntry.source).Nodup

/-- Enable and level of every source named are written, all together (R189). -/
def State.configure (s : State) (l : List ConfigEntry) : State :=
  { s with attention := { s.attention with
      sources := Vector.ofFn fun i =>
        match l.find? fun e => e.source == i with
        | some e => { s.attention.sources[i] with enable := e.enable, level := e.level }
        | none => s.attention.sources[i] } }

/-- DESIGN CHOICE (log 11): ATTN_CONFIG answers the enable and the level source by source (R189). -/
def SourceRecord.configBytes (r : SourceRecord) : List Byte := [yesNo r.enable, levelByte r.level]

/-- R188, R189. The stack is given from bottom to top. -/
def attnConfigReq (entries : List AttnEntry) (s : State) : Reply :=
  match configsArg entries with
  | none => refuse .badArgument s
  | some l =>
    if sourcesDistinct l then
      let t := s.configure l
      { status := okOr (l.any ConfigEntry.clamped),
        payload := t.attention.sources.toList.flatMap SourceRecord.configBytes
          ++ listBytes (fun v => [levelByte v]) t.attention.stack.reverse ++ [pinByte t.attnActive],
        state := t }
    else refuse .badArgument s

def State.setStack (s : State) (l : List (Fin 4)) : State := { s with attention := { s.attention with stack := l } }

/-- The chosen source is taken: its flag is cleared and its level pushed (R191). -/
def State.takeSource (s : State) (i : Fin 14) : State :=
  let r := s.attention.sources[i]
  (s.setSource i { r with flag := false }).setStack (r.level :: s.attention.stack)

/-- R190, R191. -/
def attnTakeReq (s : State) : Reply :=
  match s.attention.choice with
  | some i =>
    let t := s.takeSource i
    accept [byteOf (i.val + 1), levelByte t.attention.serviceLevel] t
  | none => { status := .nothing, payload := [levelByte s.attention.serviceLevel], state := s }

/-- R192. -/
def attnReleaseReq (s : State) : Reply :=
  match s.attention.stack with
  | [] => refuse .wrongState s
  | _ :: rest =>
    let t := s.setStack rest
    accept [levelByte t.attention.serviceLevel] t

end Sys2Proof.Machine
end

