-- ==== Sys2Proof/Machine/Compensation.lean ====
section
/-! DEFINITION. The temperature groups after a sweep end and the factors formed from them (spec 04), the five stages of
the compensation computation (spec 05), and the requests GROUP_READ, COMP_SETUP, COMP_READ and CONVERT. -/

namespace Sys2Proof.Machine

/-! ### Groups (R66, R69, R70) -/

def Groups.get (r : Groups) : TempGroup → GroupRecord
  | .scale a i => (r.scale.get a).get i
  | .head a => r.head.get a
  | .workpiece => r.workpiece

def Groups.set (r : Groups) (g : TempGroup) (v : GroupRecord) : Groups :=
  match g with
  | .scale a i => { r with scale := r.scale.set a ((r.scale.get a).set i v) }
  | .head a => { r with head := r.head.set a v }
  | .workpiece => { r with workpiece := v }

/-- The nine groups in the order of their codes (spec 11, R201). -/
def allGroups : List TempGroup :=
  [.scale .zero .x, .scale .zero .y, .scale .zero .z, .scale .one .x, .scale .one .y, .scale .one .z,
   .head .zero, .head .one, .workpiece]

/-- Every group changed by one function of its own record. -/
def Groups.mapAll (r : Groups) (f : TempGroup → GroupRecord → GroupRecord) : Groups :=
  let arm := fun a (t : Axes GroupRecord) =>
    (⟨f (.scale a .x) t.x, f (.scale a .y) t.y, f (.scale a .z) t.z⟩ : Axes GroupRecord)
  { scale := ⟨arm .zero r.scale.zero, arm .one r.scale.one⟩,
    head := ⟨f (.head .zero) r.head.zero, f (.head .one) r.head.one⟩,
    workpiece := f .workpiece r.workpiece }

def GroupState.age : GroupState → Option Nat
  | .held _ n | .stale _ n => some n
  | _ => none

/-- A group's state after a sweep end, from the candidate value of its contributing set (R68). -/
def GroupState.sweepEnd (st : GroupState) (candidate : Option Int) : GroupState :=
  match candidate, st with
  | some v, _ => .live v
  | none, .live v => .held v 0
  | none, st => st

/-- A hold age increases by one at each full second and stops at 65,535 (R69). -/
def GroupState.older : GroupState → GroupState
  | .held v n => .held v (if n < Config.holdAgeMax then n + 1 else n)
  | .stale v n => .stale v (if n < Config.holdAgeMax then n + 1 else n)
  | st => st

def GroupState.isLive : GroupState → Bool
  | .live _ => true
  | _ => false

/-- A HELD group whose age has reached the hold limit (R69, R70). -/
def GroupState.due (limit : Nat) : GroupState → Bool
  | .held _ n => decide (limit ≤ n)
  | _ => false

def GroupState.toStale : GroupState → GroupState
  | .held v n => .stale v n
  | st => st

/-! ### Factors (R75 to R77) -/

/-- The temperature difference before the clamp (R75). -/
def deltaT (value : Int) : Int := value - Config.roomTemperature

/-- The factor of a group that has a value: α × ΔT / 100, rounded (R75, R76). -/
def factorValue (alpha value : Int) : Int :=
  roundDiv (alpha * clamp (-Config.deltaMax) Config.deltaMax (deltaT value)) 100

def tempClamped (value : Int) : Bool := outside (-Config.deltaMax) Config.deltaMax (deltaT value)

/-- R76, R77. -/
def formFactor (alpha : Int) : GroupState → Factor
  | .empty => Factor.uncompensated
  | .live v => ⟨factorValue alpha v, ⟨tempClamped v, false, false, false⟩⟩
  | .held v _ => ⟨factorValue alpha v, ⟨tempClamped v, true, false, false⟩⟩
  | .stale v _ => ⟨factorValue alpha v, ⟨tempClamped v, false, true, false⟩⟩

/-- The seven factors from the groups and the coefficients (R78). -/
def formFactors (c : Coefficients) (g : Groups) : Factors :=
  { scale := ⟨Axes.zip (fun al r => formFactor al r.state) c.scale.zero g.scale.zero,
              Axes.zip (fun al r => formFactor al r.state) c.scale.one g.scale.one⟩,
    workpiece := formFactor c.workpiece g.workpiece.state }

/-- New factors in force. A present REFERENCED arm with a changed scale factor gets a formation of its own (R79). -/
def State.takeFactors (s : State) (f : Factors) : State :=
  let old := s.comp.factors
  let s := { s with comp := { s.comp with factors := f } }
  let s := if s.referenced .zero ∧ f.scale.zero ≠ old.scale.zero then s.askReformation .zero else s
  if s.referenced .one ∧ f.scale.one ≠ old.scale.one then s.askReformation .one else s

/-- The recomputation of all seven factors (R78). -/
def State.recompute (s : State) : State := s.takeFactors (formFactors s.comp.coefficients s.scanner.groups)

/-- A stale transition replaces HELD with STALE (R78). -/
def Factor.toStale (f : Factor) : Factor := { f with marks := { f.marks with held := false, stale := true } }

/-- The factor of a group that has become STALE; a head group has none (R78). -/
def Factors.stale (f : Factors) : TempGroup → Factors
  | .scale a i => { f with scale := f.scale.set a ((f.scale.get a).set i ((f.scale.get a).get i).toStale) }
  | .head _ => f
  | .workpiece => { f with workpiece := f.workpiece.toStale }

def State.setGroups (s : State) (g : Groups) : State := { s with scanner := { s.scanner with groups := g } }

def State.setAgeing (s : State) (l : List (List TempGroup)) : State :=
  { s with scanner := { s.scanner with ageing := l } }

/-- The groups for which `f` holds become STALE: GROUP is raised once if there is one, and their factors take the STALE
mark (R69, R70, R78, R79). DESIGN CHOICE (log 33): the groups that one SETTING_WRITE makes STALE ask for one formation for each
arm, as one recomputation does. -/
def State.makeStale (s : State) (f : TempGroup → Bool) : State :=
  let due := allGroups.filter f
  if due.isEmpty then s
  else
    let groups := s.scanner.groups.mapAll fun g r => if f g then { r with state := r.state.toStale } else r
    ((s.setGroups groups).raise .group).takeFactors (due.foldl Factors.stale s.comp.factors)

/-- The groups HELD at least as long as the limit (R69, R70). -/
def State.groupDue (s : State) (g : TempGroup) : Bool := (s.scanner.groups.get g).state.due s.scanner.holdLimit

/-! ### The stages (R84 to R89) -/

/-- A stage value after the test of R89, and whether it was replaced by a limit. -/
structure Staged where
  value : Int
  clamped : Bool
deriving DecidableEq, Repr

def saturated (v : Int) : Staged := { value := saturate v, clamped := saturates v }

/-- R85. -/
def scaleStage (p s0 fs : Int) : Staged := saturated (p + roundDiv ((p - s0) * fs) Config.billion)

/-- The tip stage (R86) and the room stage (R87) add an offset. -/
def addStage (m : Staged) (d : Int) : Staged :=
  let r := saturated (m.value + d)
  { r with clamped := m.clamped || r.clamped }

/-- R88. -/
def workpieceStage (u : Staged) (w0 fw : Int) : Staged :=
  let r := saturated (u.value - roundDiv ((u.value - w0) * fw) Config.billion)
  { r with clamped := u.clamped || r.clamped }

/-- What a computation for an arm gathers when it is taken, beside the counts (R83). -/
structure Gathered where
  s0 : Point
  fs : Axes Factor
  origin : Point
  w0 : Point
  fw : Factor
  tip : Option (Fin 64)
  entry : Option Entry
deriving DecidableEq, Repr

def State.gather (s : State) (a : Arm) : Gathered :=
  { s0 := (s.arms.get a).axes.map AxisRecord.s0, fs := s.comp.factors.scale.get a, origin := (s.arms.get a).origin,
    w0 := s.comp.coefficients.w0, fw := s.comp.factors.workpiece, tip := s.mountedTip a, entry := s.mountedEntry a }

/-- The offset and the radius of the entry used, 0 without one (R83). -/
def Gathered.offset (g : Gathered) : Point := (g.entry.map Entry.offset).getD (.all 0)

def Gathered.radius (g : Gathered) : Int := (g.entry.map Entry.radius).getD 0

def Gathered.suspect (g : Gathered) : Bool := g.entry.any fun e => e.state == .suspect

/-- The scale stage of every axis. -/
def Gathered.scaled (g : Gathered) (p : Point) : Axes Staged :=
  ⟨scaleStage p.x g.s0.x g.fs.x.value, scaleStage p.y g.s0.y g.fs.y.value, scaleStage p.z g.s0.z g.fs.z.value⟩

/-- The room position of the tip centre, by the scale, tip and room stages. -/
def Gathered.tipRoom (g : Gathered) (p : Point) : Axes Staged :=
  Axes.zip addStage (Axes.zip addStage (g.scaled p) g.offset) g.origin

/-- The room position of the reference point, the tip stage left out (R92). -/
def Gathered.referenceRoom (g : Gathered) (p : Point) : Axes Staged := Axes.zip addStage (g.scaled p) g.origin

def Gathered.corrected (g : Gathered) (p : Point) : Axes Staged :=
  let u := g.tipRoom p
  ⟨workpieceStage u.x g.w0.x g.fw.value, workpieceStage u.y g.w0.y g.fw.value, workpieceStage u.z g.w0.z g.fw.value⟩

def values (t : Axes Staged) : Point := t.map Staged.value

def anyClamped (t : Axes Staged) : Bool := (t.map Staged.clamped).any

/-- Whether a mark stands on one of the three scale factors. -/
def Gathered.scaleMark (g : Gathered) (f : FactorMarks → Bool) : Bool := (g.fs.map fun r => f r.marks).any

/-- Whether a mark stands on one of the four factors used (R91). -/
def Gathered.mark (g : Gathered) (f : FactorMarks → Bool) : Bool := g.scaleMark f || f g.fw.marks

/-- The point record of a computation by all five stages, without a touch number (R90, R91). -/
def Gathered.point (g : Gathered) (a : Arm) (p : Point) : PointRecord :=
  let q := g.corrected p
  { arm := a, tip := g.tip, raw := p, coordinates := values q, radius := g.radius,
    marks := { suspect := g.suspect, unqualified := g.entry.isNone, held := g.mark FactorMarks.held,
               stale := g.mark FactorMarks.stale, uncompensated := g.mark FactorMarks.uncompensated,
               tempClamped := g.mark FactorMarks.tempClamped, clamped := anyClamped q },
    touchNumber := none }

/-- The marks of a check point (R92). -/
def Gathered.checkMarks (g : Gathered) (suspect clamped : Bool) : Marks :=
  { suspect, unqualified := false, held := g.scaleMark FactorMarks.held, stale := g.scaleMark FactorMarks.stale,
    uncompensated := g.scaleMark FactorMarks.uncompensated, tempClamped := g.scaleMark FactorMarks.tempClamped,
    clamped }

/-- The tip point of a formation for the tip in slot `i` (R92). -/
def Gathered.tipPoint (g : Gathered) (p : Point) (i : Fin 64) : TipPoint :=
  let u := g.tipRoom p
  { position := values u, radius := g.radius, number := i, marks := g.checkMarks g.suspect (anyClamped u) }

/-- The check points of a formation (R92): the tip point when the mounted tip has an entry for the arm. -/
def Gathered.checkPoints (g : Gathered) (p : Point) : CheckPoints :=
  let m := g.referenceRoom p
  { reference := values m, referenceMarks := g.checkMarks false (anyClamped m),
    tip := if g.entry.isSome then g.tip.map (g.tipPoint p) else none }

def State.pointOf (s : State) (a : Arm) (counts : Point) : PointRecord := (s.gather a).point a counts

/-! ### Requests -/

def FactorMarks.toMarks (m : FactorMarks) : Marks :=
  { suspect := false, unqualified := false, held := m.held, stale := m.stale, uncompensated := m.uncompensated,
    tempClamped := m.tempClamped, clamped := false }

def Factor.bytes (f : Factor) : List Byte := intBytes f.value ++ [f.marks.toMarks.byte]

def Factors.bytes (f : Factors) : List Byte :=
  axesBytes Factor.bytes f.scale.zero ++ axesBytes Factor.bytes f.scale.one ++ f.workpiece.bytes

def GroupState.code : GroupState → Byte
  | .empty => 0
  | .live _ => 1
  | .held _ _ => 2
  | .stale _ _ => 3

/-- Number of members of a group: the ACTIVE and FAILED sensors bound to it (R46, R66). -/
def State.members (s : State) (g : TempGroup) : Nat :=
  let count := fun (v : Vector (Option Sensor) 16) =>
    v.toList.countP fun r => r.any fun r => r.binding == some g && r.state != .retired
  count s.scanner.sensors.zero + count s.scanner.sensors.one

def State.groupBytes (s : State) (g : TempGroup) : List Byte :=
  let r := s.scanner.groups.get g
  [r.state.code] ++ presence 4 intBytes r.state.value ++ presence 4 natBytes r.state.age
  ++ [byteOf r.contributors, byteOf (s.members g)]

/-- R72. -/
def groupReadReq (s : State) : Reply :=
  accept (allGroups.flatMap s.groupBytes ++ s.comp.factors.bytes ++ natBytes s.scanner.holdLimit) s

def Coefficients.bytes (c : Coefficients) : List Byte :=
  axesBytes intBytes c.scale.zero ++ axesBytes intBytes c.scale.one ++ intBytes c.workpiece ++ pointBytes c.w0

def coefficientArg (w : Word) : Int := clamp 0 Config.coefficientMax w.toInt

def coefficientClamped (w : Word) : Bool := outside 0 Config.coefficientMax w.toInt

/-- R73. -/
def compSetupReq (alphaS : Two (Axes Word)) (alphaW : Word) (w0 : Axes Word) (s : State) : Reply :=
  let stored : Coefficients :=
    { scale := alphaS.map fun t => t.map coefficientArg, workpiece := coefficientArg alphaW, w0 := pointArg w0 }
  let clamped := (alphaS.zero.map coefficientClamped).any || (alphaS.one.map coefficientClamped).any
    || coefficientClamped alphaW || pointClamped w0
  let s := ({ s with comp := { s.comp with coefficients := stored } } : State).recompute
  { status := okOr clamped, payload := stored.bytes ++ s.comp.factors.bytes, state := s }

/-- R74. -/
def compReadReq (s : State) : Reply := accept s.comp.coefficients.bytes s

/-- R95. -/
def convertReq (arm : Byte) (s : State) : Reply :=
  match sideArg arm with
  | none => refuse .badArgument s
  | some a =>
    if s.absentArm a then refuse .notPresent s
    else if !s.referenced a then refuse .notReferenced s
    else accept (s.pointOf a (s.arms.get a).counts).bytes s

end Sys2Proof.Machine
end

