-- ==== Sys2Proof/Machine/Touch.lean ====
section
/-! DEFINITION. The touch unit (spec 06): the trigger input, the judgement at acceptance, the touch slot, and the requests
PROBE_ARM and TOUCH_TAKE. -/

namespace Sys2Proof.Machine

/-! ### The trigger input (R102 to R104) -/

/-- A leading edge captures the three counts of an IDLE trigger and starts its qualification timer from 0 (R102); in
LATCHED-WAIT-RELEASE it is no new trigger (R104). -/
def TouchRecord.edge (t : TouchRecord) (counts : Point) : TouchRecord :=
  match t.trigger with
  | .idle => { t with input := true, trigger := .qualifying counts t.qualificationTime 0 }
  | _ => { t with input := true }

/-- A release: a bounce in QUALIFYING (R103), the end of LATCHED-WAIT-RELEASE (R104). -/
def TouchRecord.release (t : TouchRecord) : TouchRecord :=
  match t.trigger with
  | .idle => { t with input := false }
  | .qualifying _ _ _ => { t with input := false, trigger := .idle, bounces := bump t.bounces }
  | .waitRelease => { t with input := false, trigger := .idle }

/-- A leading edge is a change from inactive to active (R98). -/
def State.triggerEdge (s : State) (a : Arm) : State :=
  if (s.touch.get a).input then s else s.setTouch a ((s.touch.get a).edge (s.arms.get a).counts)

/-- A release is a change from active to inactive (R98). -/
def State.triggerRelease (s : State) (a : Arm) : State :=
  if (s.touch.get a).input then s.setTouch a (s.touch.get a).release else s

/-! ### Acceptance (R105 to R108) -/

inductive TouchOutcome where
  | stray
  | collision
  | point
deriving DecidableEq, Repr

/-- R105. -/
def State.touchOutcome (s : State) (a : Arm) : TouchOutcome :=
  if (s.change a).busy then .stray
  else if !(s.touch.get a).armed then .collision
  else if !s.referenced a then .stray
  else if (s.head a).state ≠ .tip then .stray
  else if (s.mountedEntry a).isNone ∧ !(s.head a).allowUnqualified then .stray
  else .point

/-- The effect of an outcome: a stray is counted (R107), a collision asks for a hold (R106), a point asks for a touch
computation (R108). -/
def State.touchEffect (s : State) (a : Arm) (captured : Point) : TouchOutcome → State
  | .stray => s.setTouch a { s.touch.get a with strays := bump (s.touch.get a).strays }
  | .collision => s.addCause a .collision
  | .point => s.setTouch a { s.touch.get a with requests := (s.touch.get a).requests ++ [captured] }

/-- The qualification time ends with the trigger active: the trigger is accepted (R103). -/
def State.acceptTouch (s : State) (a : Arm) : State :=
  match (s.touch.get a).trigger with
  | .qualifying captured _ _ =>
    let outcome := s.touchOutcome a
    (s.setTouch a { s.touch.get a with trigger := .waitRelease }).touchEffect a captured outcome
  | _ => s

/-! ### The computation and the slot (R96, R109) -/

/-- The compensation engine takes a touch computation and returns its record (R96). -/
def State.computeTouch (s : State) (a : Arm) : State :=
  match (s.touch.get a).requests with
  | [] => s
  | captured :: rest =>
    s.setTouch a { s.touch.get a with
      requests := rest, returned := (s.touch.get a).returned ++ [s.pointOf a captured] }

def nextTouchNumber (n : Nat) : Nat := if n < Config.counterMax then n + 1 else 0

/-- A returned point record is numbered and placed, or discarded as an overrun (R109). -/
def State.placePoint (s : State) (a : Arm) : State :=
  let t := s.touch.get a
  match t.returned with
  | [] => s
  | r :: rest =>
    let t := { t with returned := rest, nextNumber := nextTouchNumber t.nextNumber }
    match t.slot with
    | none =>
      (s.setTouch a { t with slot := some { r with touchNumber := some (s.touch.get a).nextNumber } }).raise (.touch a)
    | some _ => s.setTouch a { t with overruns := bump t.overruns }

/-! ### Requests -/

/-- R100, after the argument checks. -/
def probeArmBody (a : Arm) (value : Bool) (s : State) : Reply :=
  if value ∧ !(s.zones.hold.get a).causes.isEmpty then refuse .wrongState s
  else if value ∧ (s.change a).busy then refuse .wrongState s
  else accept [yesNo value] (s.setTouch a { s.touch.get a with armed := value })

def probeArmReq (arm value : Byte) (s : State) : Reply :=
  match sideArg arm, yesNoArg value with
  | some a, some v => if s.absentArm a then refuse .notPresent s else probeArmBody a v s
  | _, _ => refuse .badArgument s

/-- R110, after the argument checks. -/
def touchTakeBody (a : Arm) (s : State) : Reply :=
  match (s.touch.get a).slot with
  | some r => accept r.bytes (s.setTouch a { s.touch.get a with slot := none })
  | none => { status := .nothing, payload := [], state := s }

def touchTakeReq (arm : Byte) (s : State) : Reply :=
  match sideArg arm with
  | none => refuse .badArgument s
  | some a => if s.absentArm a then refuse .notPresent s else touchTakeBody a s

/-! ### The touch report of COUNTERS_READ (R111, R213) -/

def TriggerState.code : TriggerState → Byte
  | .idle => 0
  | .qualifying _ _ _ => 1
  | .waitRelease => 2

/-- Fourteen bytes for a present arm, present among them; zeros for an absent one (R213). -/
def State.touchSnapshot (s : State) (a : Arm) : List Byte :=
  let t := s.touch.get a
  if s.present a then
    [1, yesNo t.armed, t.trigger.code, yesNo t.slot.isSome]
    ++ twoBytes ((t.slot.bind PointRecord.touchNumber).getD 0) ++ twoBytes t.nextNumber ++ twoBytes t.bounces
    ++ twoBytes t.strays ++ twoBytes t.overruns
  else List.replicate 14 0

def TouchRecord.clearCounters (t : TouchRecord) : TouchRecord := { t with bounces := 0, strays := 0, overruns := 0 }

end Sys2Proof.Machine
end

