-- ==== Sys2Proof/Machine/Rack.lean ====
section
/-! DEFINITION. The rack controller (spec 07): expected occupancy and the comparison, the lids, the rack arbiter, and the
requests POCKET_WRITE, POCKET_CLEAR_FOREIGN, POCKET_READ, RACK_UNLOCK and RACK_READ. Words to other blocks go out as
messages. -/

namespace Sys2Proof.Machine

/-! ### Expected occupancy and the comparison (R116 to R118) -/

def State.report (s : State) (a : Arm) : PocketReport := s.rack.reports.get a

/-- R116. -/
def State.expected (s : State) (p : Fin 20) : Bool :=
  match (s.tipWithHome p).bind s.activeTip with
  | none => false
  | some t =>
    match t.location with
    | .inPocket => true
    | .inTransit a => (s.report a).pocket == some p && (s.report a).stow
    | _ => false

def PocketReport.suppresses (r : PocketReport) (p : Fin 20) : Bool := r.pocket == some p && r.suppressed

/-- A pocket is suppressed while some arm's last report names it with suppression set (R117). -/
def State.suppressed (s : State) (p : Fin 20) : Bool :=
  (s.report .zero).suppresses p || (s.report .one).suppresses p

/-- The rack controller's action on the library's answer to "home pocket seen empty" (R118). -/
def State.seenEmpty (s : State) (p : Fin 20) : Applied :=
  let r := s.libraryHomeEmpty p
  if r.yes then { r with state := r.state.raise .pocket } else r

/-- The rack controller's action on the library's answer to "home pocket seen occupied" (R118). -/
def State.seenOccupied (s : State) (p : Fin 20) : Applied :=
  let r := s.libraryHomeOccupied p
  if r.yes ∨ r.state.expected p then r
  else { r with state := (r.state.setPocket p { r.state.pocket p with foreignMark := true }).raise .pocket }

/-- A comparison of observed with expected occupancy (R118). -/
def State.compare (s : State) (p : Fin 20) : State :=
  match (s.pocket p).occupied, s.expected p with
  | false, true => (s.seenEmpty p).state
  | true, false => (s.seenOccupied p).state
  | _, _ => s

/-- A comparison is made of a pocket that is neither VACANT nor suppressed (R114, R117). -/
def State.compareIfWatched (s : State) (p : Fin 20) : State :=
  if (s.pocket p).state = .vacant ∨ s.suppressed p then s else s.compare p

/-! ### Lids (R121 to R126) -/

/-- A lid takes a state; the change is handed to the change sequencers (R121). -/
def State.setLid (s : State) (p : Fin 20) (lid : LidState) (drive : Bool) (timer : Timer) : State :=
  (s.setPocket p { s.pocket p with lid, drive, timer }).send (.lidChanged p)

/-- Entry to OPENING or CLOSING starts the lid timer (R121). -/
def State.startLid (s : State) (p : Fin 20) (lid : LidState) (drive : Bool) : State :=
  s.setLid p lid drive (some s.rack.lidTimeout)

/-- R125. -/
def State.jam (s : State) (p : Fin 20) : State :=
  let r := s.pocket p
  let s := s.setPocket p { r with state := if r.state = .enabled then .disabled else r.state }
  let s := s.setLid p .jammed false none
  if r.state = .vacant then s else s.raise .rack

/-- A close command (R123): the effect on the lid and the answer. -/
def State.closeLid (s : State) (p : Fin 20) : Answer × State :=
  let r := s.pocket p
  match r.lid with
  | .opening | .opened =>
    if r.sense then (.closing, s.startLid p .closing false) else (.closed, s.setLid p .closed false none)
  | .closing => (.closing, s)
  | .closed => (.closed, s)
  | .jammed => (.jammed, s)

/-- The rack is granted to the arm (R127). -/
def State.grantedTo (s : State) (a : Arm) : Bool :=
  match s.rack.arbiter with
  | .granted b _ _ _ => b == a
  | _ => false

/-- An open command (R122): the answer and the effect on the lid. -/
def State.openLid (s : State) (a : Arm) (p : Fin 20) : Answer × State :=
  let r := s.pocket p
  if r.lid = .jammed then (.jammed, s)
  else if !s.grantedTo a ∨ (s.report a).pocket ≠ some p ∨ r.state ≠ .enabled then (.refused, s)
  else
    match r.lid with
    | .closed | .closing =>
      (.opening, if r.sense then s.setLid p .opened true none else s.startLid p .opening true)
    | .opening => (.opening, s)
    | .opened => (.opened, s)
    | .jammed => (.jammed, s)

/-- The current pocket of the grantee (R126). -/
def State.granteePocket (s : State) : Option (Fin 20) :=
  match s.rack.arbiter with
  | .granted a _ _ _ => (s.report a).pocket
  | _ => none

/-- A drive that is on at a pocket other than the grantee's current pocket is turned off, the lid moving as on a close
command (R126). -/
def State.reexamineAt (s : State) (p : Fin 20) : State :=
  if (s.pocket p).drive ∧ s.granteePocket ≠ some p then (s.closeLid p).2 else s

/-- The re-examination of the drives (R126). -/
def State.reexamine (s : State) : State := (List.finRange 20).foldl State.reexamineAt s

/-- A change of the debounced lid sense (R124). -/
def State.lidSense (s : State) (p : Fin 20) : State :=
  let r := s.pocket p
  match r.lid, r.sense with
  | .closed, true => s.jam p
  | .opening, true => s.setLid p .opened true none
  | .opened, false => s.jam p
  | .closing, false => s.setLid p .closed false none
  | _, _ => s

/-- An expiry of the lid timer (R124), which runs in OPENING and CLOSING (R121). -/
def State.lidExpiry (s : State) (p : Fin 20) : State :=
  let r := s.pocket p
  if r.timer.isSome ∧ !s.frz ∧ (r.lid = .opening ∨ r.lid = .closing) then s.jam p else s

/-! ### The change pocket report (R117) -/

/-- The pocket at which a new report ends suppression, if it does (R117). -/
def State.suppressionEnds (s : State) (old : PocketReport) : Option (Fin 20) :=
  old.pocket.bind fun p => if old.suppressed ∧ !s.suppressed p then some p else none

/-- The rack controller takes an arm's report: a pocket whose suppression ends is compared at once (R117), and the
drives are re-examined when the grantee names another pocket or none (R126). -/
def State.takeReport (s : State) (a : Arm) (r : PocketReport) : State :=
  let old := s.report a
  let s := { s with rack := { s.rack with reports := s.rack.reports.set a r } }
  let s := match s.suppressionEnds old with
    | some p => s.compareIfWatched p
    | none => s
  if s.grantedTo a ∧ r.pocket ≠ old.pocket then s.reexamine else s

/-! ### The arbiter (R127 to R132) -/

def State.setQueue (s : State) (q : List Arm) : State := { s with rack := { s.rack with queue := q } }

def State.setGrantTimer (s : State) (t : Timer) : State := { s with rack := { s.rack with grantTimer := t } }

/-- The grant test (R128): a FREE arbiter grants the head of the queue. -/
def State.grantTest (s : State) : State :=
  match s.rack.arbiter, s.rack.queue with
  | .free, a :: rest =>
    ((((s.setArbiter (.granted a false false false)).setQueue rest).setGrantTimer (some s.rack.grantTimeout)).send
      (.granted a)).send (.grantee (some a))
  | _, _ => s

/-- A rack request (R128): the answer and the effect. -/
def State.rackRequest (s : State) (a : Arm) : Answer × State :=
  let append := (s.setQueue (s.rack.queue ++ [a])).grantTest
  match s.rack.arbiter with
  | .lockedOut => (.lockedOut, s)
  | .granted b acknowledged inside ended =>
    if s.rack.queue.contains a then (.refused, s)
    else if b = a then
      if !ended then (.refused, s)
      else if s.rack.queue.isEmpty then (.granted, s.setArbiter (.granted a acknowledged inside false))
      else (.queued, append)
    else (.queued, append)
  | .free =>
    if s.rack.queue.contains a then (.refused, s)
    else (if append.grantedTo a then .granted else .queued, append)

/-- The rack becomes FREE: the timer stops, the drives are re-examined, the zone monitor is told, and the grant test is
made (R129, R130). -/
def State.freeRack (s : State) : State :=
  ((((s.setArbiter .free).setGrantTimer none).reexamine).send (.grantee none)).grantTest

/-- A grant whose change has ended and whose grantee is not inside is released (R130). -/
def State.releaseIfDone (s : State) : State :=
  match s.rack.arbiter with
  | .granted _ _ false true => s.freeRack
  | _ => s

/-- An entry report (R129). -/
def State.rackEntry (s : State) (a : Arm) : State :=
  match s.rack.arbiter with
  | .granted b acknowledged _ ended =>
    if b = a then
      let s := s.setArbiter (.granted a true true ended)
      if acknowledged then s else s.setGrantTimer none
    else s
  | _ => s

/-- An exit report (R130). -/
def State.rackExit (s : State) (a : Arm) : State :=
  match s.rack.arbiter with
  | .granted b acknowledged _ ended =>
    if b = a then (s.setArbiter (.granted a acknowledged false ended)).releaseIfDone else s
  | _ => s

/-- A change-ended report (R130). -/
def State.rackChangeEnded (s : State) (a : Arm) : State :=
  if s.rack.queue.contains a then (s.setQueue (s.rack.queue.filter (· != a))).grantTest
  else
    match s.rack.arbiter with
    | .granted b acknowledged inside _ =>
      if b = a then (s.setArbiter (.granted a acknowledged inside true)).releaseIfDone else s
    | _ => s

/-- An expiry of the grant timer in GRANTED is a lapse (R129). -/
def State.grantExpiry (s : State) : State :=
  match s.rack.arbiter with
  | .granted a _ _ _ =>
    if s.rack.grantTimer.isSome ∧ !s.frz then (s.send (.lapsed a)).freeRack else s
  | _ => s

def State.tellLockedOut (s : State) (arms : List Arm) : State := arms.foldl (fun s b => s.send (.lockedOut b)) s

/-- The arms told "locked out" at a double fault, each once: a grantee other than the reporting arm, and those of the
queue (R131). -/
def State.lockedOutArms (s : State) (a : Arm) : List Arm :=
  ((match s.rack.arbiter with
    | .granted b _ _ _ => if b = a then [] else [b]
    | _ => []) ++ s.rack.queue).dedup

/-- A double-fault report (R131). -/
def State.doubleFault (s : State) (a : Arm) : State :=
  if s.rack.arbiter = .lockedOut then s
  else
    let told := s.lockedOutArms a
    let s := (((s.setArbiter .lockedOut).setQueue []).setGrantTimer none).reexamine
    ((s.tellLockedOut told).send (.grantee none)).raise .rack

/-! ### Pocket inputs (R115) -/

/-- The occupancy input has held a new level for 20 ms: the observed occupancy changes, is compared, and is handed to the
change sequencers (R115, R117). -/
def State.occupancyChange (s : State) (p : Fin 20) : State :=
  let r := s.pocket p
  if r.occupancyInput = r.occupied then s
  else ((s.setPocket p { r with occupied := r.occupancyInput }).compareIfWatched p).send (.occupancyChanged p)

/-- The sense input has held a new level for 20 ms (R115, R124). -/
def State.senseChange (s : State) (p : Fin 20) : State :=
  let r := s.pocket p
  if r.senseInput = r.sense then s else (s.setPocket p { r with sense := r.senseInput }).lidSense p

/-- The restart comparison of a pocket (R134), made when its occupancy input has held one level for 20 ms. -/
def State.restartCompareAt (s : State) (p : Fin 20) : State :=
  let r := s.pocket p
  if r.restartCompare then
    let s := s.setPocket p { r with restartCompare := false }
    if r.occupancyInput = r.occupied then s.compareIfWatched p else s.occupancyChange p
  else s

/-! ### Requests -/

def TipSlot.tip : TipSlot → Option Tip
  | .vacant => none
  | .active t | .retired t => some t

/-- A pocket is named by a change (R119, test 3). -/
def State.pocketNamed (s : State) (p : Fin 20) : Bool :=
  (s.report .zero).pocket == some p || (s.report .one).pocket == some p
    || (List.finRange 64).any fun i => s.tipNamed i && s.library.tips[i].tip.any fun t => t.home == p

def PocketState.code : PocketState → Byte
  | .vacant => 0
  | .enabled => 1
  | .disabled => 2

def LidState.code : LidState → Byte
  | .closed => 0
  | .opening => 1
  | .opened => 2
  | .closing => 3
  | .jammed => 4

/-- The byte of a foreign mark by its place in R114's list "set, clear" (R202). DESIGN CHOICE (log 11): R202 also sizes
marks as in the point record, where 1 is set. -/
def foreignByte (set : Bool) : Byte := if set then 0 else 1

/-- The fields of R114 in order. A VACANT pocket has no expected occupancy. -/
def State.pocketBytes (s : State) (p : Fin 20) : List Byte :=
  let r := s.pocket p
  [r.state.code] ++ presence 24 boxBytes (r.dock.get .zero) ++ presence 24 boxBytes (r.dock.get .one)
  ++ [yesNo r.occupied, yesNo r.sense]
  ++ presence 1 (fun b => [yesNo b]) (if r.state = .vacant then none else some (s.expected p))
  ++ [foreignByte r.foreignMark, r.lid.code, yesNo r.drive] ++ timerBytes r.timer

/-- POCKET_WRITE as accepted (R119). -/
def State.writePocket (s : State) (p : Fin 20) (st : PocketState) (dock : Two (Option Box)) : State :=
  let r := s.pocket p
  let s := s.setPocket p { r with state := st, dock }
  let s := if st = .enabled ∧ r.lid = .jammed then s.setLid p .closed false none else s
  if r.state = .vacant then s.compareIfWatched p else s

/-- A dock box argument: given with a presence byte (R201). -/
structure DockArg where
  given : Bool
  bounds : Axes Bounds
deriving DecidableEq, Repr

def DockArg.valid (d : DockArg) : Bool := !d.given || boxValid d.bounds

def DockArg.box (d : DockArg) : Option Box := if d.given then some (boxArg d.bounds) else none

def DockArg.clamped (d : DockArg) : Bool := d.given && boxClamped d.bounds

/-- R119, after the argument checks. -/
def pocketWriteBody (p : Fin 20) (st : PocketState) (d0 d1 : DockArg) (s : State) : Reply :=
  if s.oneArm ∧ d1.given then refuse .notPresent s
  else if s.pocketNamed p then refuse .inUse s
  else if st = .enabled ∧ (s.pocket p).sense then refuse .wrongState s
  else
    let s := s.writePocket p st ⟨d0.box, d1.box⟩
    { status := okOr (d0.clamped || d1.clamped), payload := s.pocketBytes p, state := s }

def pocketWriteReq (pocket state present0 : Byte) (box0 : Axes Bounds) (present1 : Byte) (box1 : Axes Bounds)
    (s : State) : Reply :=
  match pocketArg pocket, pocketStateArg state, yesNoArg present0, yesNoArg present1 with
  | some p, some st, some g0, some g1 =>
    if (DockArg.mk g0 box0).valid ∧ (DockArg.mk g1 box1).valid then
      pocketWriteBody p st ⟨g0, box0⟩ ⟨g1, box1⟩ s
    else refuse .badArgument s
  | _, _, _, _ => refuse .badArgument s

/-- R120. -/
def pocketClearForeignReq (pocket : Byte) (s : State) : Reply :=
  match pocketArg pocket with
  | none => refuse .badArgument s
  | some p => if (s.pocket p).occupied then refuse .wrongState s else accept [] (s.clearForeign p)

/-- R120. -/
def pocketReadReq (pocket : Byte) (s : State) : Reply :=
  match pocketArg pocket with
  | none => refuse .badArgument s
  | some p =>
    accept (s.pocketBytes p ++ [yesNo (s.suppressed p)] ++ presence 1 numberByte (s.tipWithHome p)) s

/-- R132. -/
def rackUnlockReq (s : State) : Reply :=
  if s.rack.arbiter = .lockedOut then accept [] ((s.setArbiter .free).setQueue []) else refuse .wrongState s

def Arbiter.code : Arbiter → List Byte
  | .free => [0, 0]
  | .granted a _ _ _ => [1, armByte a]
  | .lockedOut => [2, 0]

/-- Acknowledged, inside and change ended, present in GRANTED only (R127). -/
def Arbiter.flags : Arbiter → List Byte
  | .granted _ acknowledged inside ended => [1, yesNo acknowledged, 1, yesNo inside, 1, yesNo ended]
  | _ => [0, 0, 0, 0, 0, 0]

def PocketReport.bytes (r : PocketReport) : List Byte :=
  presence 1 numberByte r.pocket ++ [yesNo r.suppressed, yesNo r.stow]

/-- R132. -/
def rackReadReq (s : State) : Reply :=
  let r := s.rack
  accept (r.arbiter.code ++ r.arbiter.flags ++ listBytes (fun a => [armByte a]) r.queue ++ timerBytes r.grantTimer
    ++ natBytes r.grantTimeout ++ natBytes r.lidTimeout ++ r.reports.zero.bytes ++ r.reports.one.bytes) s

end Sys2Proof.Machine
end

