-- ==== Sys2Proof/Machine/Zones.lean ====
section
/-! DEFINITION. The zone monitor (spec 09): the inside test, the judgement of an arm with its claims, violations and
reports, the grantee, and the requests ZONE_WRITE, ZONE_SUSPEND, ZONE_RESUME, ZONE_DELETE, ZONE_READ, HOLD_RELEASE and
HOLD_READ. -/

namespace Sys2Proof.Machine

/-! ### The inside test (R164) -/

/-- An arm with these check points is inside the zone. -/
def Zone.holds (z : Zone) (q : CheckPoints) : Bool :=
  (z.box.grow z.margin).contains q.reference
    || q.tip.any fun t => (z.box.grow (z.margin + t.radius)).contains t.position

def State.zone (s : State) (i : Fin 16) : Option Zone := s.zones.table[i]

def State.zoneActive (s : State) (i : Fin 16) : Bool := (s.zone i).any fun z => !z.suspended

def State.zoneHolds (s : State) (q : CheckPoints) (i : Fin 16) : Bool := (s.zone i).any fun z => z.holds q

def ZoneKind.isRack : ZoneKind → Bool
  | .rack => true
  | _ => false

def ZoneKind.isShared : ZoneKind → Bool
  | .shared _ => true
  | _ => false

def State.zoneIsRack (s : State) (i : Fin 16) : Bool := (s.zone i).any fun z => z.kind.isRack

/-! ### Judgement (R163, R166 to R169) -/

/-- Whether an arm found inside is permitted (R163). An unclaimed SHARED zone gives its claim to the arm, and so permits
it, unless claims are withheld (R167). -/
def ZoneKind.permits (k : ZoneKind) (a : Arm) (grantee : Option Arm) (claims : Bool) : Bool :=
  match k with
  | .forbidden => false
  | .privateTo b => b == a
  | .shared none => claims
  | .shared (some b) => b == a
  | .rack => grantee == some a

/-- The claim of a zone after a judgement of an arm found inside it or outside it (R166, R167). -/
def ZoneKind.judged (k : ZoneKind) (a : Arm) (claims now : Bool) : ZoneKind :=
  match k with
  | .shared none => if now && claims then .shared (some a) else .shared none
  | .shared (some b) => if b = a ∧ !now then .shared none else .shared (some b)
  | k => k

/-- What a judgement of an arm works on: its check points, the zones named to it, and whether a SHARED zone gives a
claim. -/
structure Judgement where
  arm : Arm
  points : CheckPoints
  named : ZoneSet
  claims : Bool
deriving DecidableEq, Repr

/-- The zones concerned: the ACTIVE ones among those named (R166). -/
def State.concerns (s : State) (j : Judgement) (i : Fin 16) : Bool := j.named[i] && s.zoneActive i

def State.findsInside (s : State) (j : Judgement) (i : Fin 16) : Bool := s.concerns j i && s.zoneHolds j.points i

/-- A new violation (R166): inside, not permitted, not in the retreat-permit set, and not violated already. -/
def State.violates (s : State) (j : Judgement) (i : Fin 16) : Bool :=
  let h := s.zones.hold.get j.arm
  s.findsInside j i && !(s.zone i).any (fun z => z.kind.permits j.arm s.zones.grantee j.claims) && !h.permit[i]
    && !h.violated[i]

/-- A claim of the arm ends (R167). -/
def State.claimEnds (s : State) (j : Judgement) (i : Fin 16) : Bool :=
  s.concerns j i && !s.findsInside j i && (s.zone i).any fun z => z.kind == .shared (some j.arm)

def anyZone (f : Fin 16 → Bool) : Bool := (List.finRange 16).any f

/-- The zone table after the judgement. -/
def State.judgedTable (s : State) (j : Judgement) : Vector (Option Zone) 16 :=
  Vector.ofFn fun i =>
    if s.concerns j i then
      (s.zone i).map fun z => { z with kind := z.kind.judged j.arm j.claims (s.findsInside j i) }
    else s.zone i

/-- The sets of the arm's hold record after the judgement. -/
def State.judgedHold (s : State) (j : Judgement) : HoldRecord :=
  let h := s.zones.hold.get j.arm
  { h with
    inside := Vector.ofFn fun i => if s.concerns j i then s.findsInside j i else h.inside[i]
    violated := Vector.ofFn fun i => h.violated[i] || s.violates j i
    permit := Vector.ofFn fun i => h.permit[i] && (!s.concerns j i || s.findsInside j i) }

/-- The grantee's entry to or exit from the RACK zone is reported to the arbiter (R166, R168). -/
def State.reportRack (s : State) (a : Arm) (entered left : Bool) : State :=
  if s.zones.grantee = some a then
    if entered then s.rackEntry a else if left then s.rackExit a else s
  else s

/-- The judgement of one arm: sets, claims, the hold cause and the reports to the arbiter (R166). -/
def State.judgeOne (s : State) (j : Judgement) : State :=
  let was := (s.zones.hold.get j.arm).inside
  let entered := anyZone fun i => s.zoneIsRack i && s.findsInside j i && !was[i]
  let left := anyZone fun i => s.zoneIsRack i && s.concerns j i && !s.findsInside j i && was[i]
  let violation := anyZone (s.violates j)
  let t : State :=
    { s with zones := { s.zones with table := s.judgedTable j, hold := s.zones.hold.set j.arm (s.judgedHold j) } }
  let t := if violation then t.addCause j.arm .zone else t
  t.reportRack j.arm entered left

/-- The judgement of an arm from its held check points, if it is REFERENCED and some are held (R165). -/
def State.judgement (s : State) (a : Arm) (named : ZoneSet) (claims : Bool) : Option Judgement :=
  if s.referenced a then (s.zones.hold.get a).points.map fun points => { arm := a, points, named, claims } else none

def State.judgeIf (s : State) (j : Option Judgement) : State :=
  match j with
  | some j => s.judgeOne j
  | none => s

/-- The zones whose claim a judgement ends. -/
def State.claimsEnded (s : State) (j : Option Judgement) : ZoneSet :=
  Vector.ofFn fun i => j.any fun j => s.claimEnds j i

/-- A judgement of an arm, and of the other arm for each zone whose claim it ends (R166, R167). -/
def State.judge (s : State) (a : Arm) (named : ZoneSet) (claims : Bool) : State :=
  let j := s.judgement a named claims
  let passing := s.claimsEnded j
  let t := s.judgeIf j
  if anyZone (fun i => passing[i]) then t.judgeIf (t.judgement a.other passing true) else t

def ZoneSet.all : ZoneSet := Vector.replicate 16 true

def ZoneSet.single (z : Fin 16) : ZoneSet := Vector.ofFn fun i => i == z

/-! ### The grantee (R168) -/

/-- The RACK zone, if the table holds one. -/
def State.rackZone (s : State) : Option (Fin 16) := (List.finRange 16).find? s.zoneIsRack

def State.insideRack (s : State) (a : Arm) : Bool :=
  s.rackZone.any fun z => s.present a && (s.zones.hold.get a).inside[z]

/-- An arm with the RACK zone in its inside set is judged against that zone. -/
def State.judgeAtRack (s : State) (a : Arm) : State :=
  match s.rackZone with
  | some z => if s.insideRack a then s.judge a (ZoneSet.single z) true else s
  | none => s

/-- The arbiter tells the zone monitor the grantee (R168). -/
def State.takeGrantee (s : State) (g : Option Arm) : State :=
  let s : State := { s with zones := { s.zones with grantee := g } }
  let s := match g with
    | some a => if s.insideRack a then s.rackEntry a else s
    | none => s
  (s.judgeAtRack .zero).judgeAtRack .one

/-! ### Sets of a zone -/

/-- A change to the hold records of both arms. -/
def State.mapHolds (s : State) (f : HoldRecord → HoldRecord) : State :=
  { s with zones := { s.zones with hold := s.zones.hold.map f } }

def HoldRecord.endPermit (h : HoldRecord) (z : Fin 16) : HoldRecord := { h with permit := upd h.permit z false }

def HoldRecord.leave (h : HoldRecord) (z : Fin 16) : HoldRecord := { h with inside := upd h.inside z false }

def HoldRecord.forget (h : HoldRecord) (z : Fin 16) : HoldRecord := { h with violated := upd h.violated z false }

/-! ### Requests (R172 to R180) -/

def State.rackGranted (s : State) : Bool :=
  match s.rack.arbiter with
  | .granted _ _ _ _ => true
  | _ => false

/-- Both present arms stand inside a zone (R167). -/
def State.bothInside (s : State) (z : Fin 16) : Bool :=
  let stands := fun a => s.referenced a && (s.zones.hold.get a).points.any fun q => s.zoneHolds q z
  stands .zero && stands .one

/-- A written or resumed zone that is ACTIVE is judged for every present REFERENCED arm at once. A SHARED zone with both
arms inside gives no claim (R167, R176, R178). -/
def State.judgeZone (s : State) (z : Fin 16) : State :=
  if s.zoneActive z then
    let claims := !s.bothInside z
    (s.judge .zero (ZoneSet.single z) claims).judge .one (ZoneSet.single z) claims
  else s

/-- The tests of R175 after the argument checks. -/
def State.zoneWriteRefusal (s : State) (z : Fin 16) (kind : ZoneKind) : Option Status :=
  if kind = .privateTo .one ∧ s.oneArm then some .notPresent
  else if (s.zone z).any fun r => r.kind.claimant.isSome then some .inUse
  else if s.zoneIsRack z ∧ !kind.isRack ∧ s.rackGranted then some .inUse
  else if kind.isRack ∧ anyZone (fun i => i != z && s.zoneIsRack i) then some .duplicate
  else none

/-- ZONE_WRITE as accepted (R176). -/
def State.writeZone (s : State) (z : Fin 16) (kind : ZoneKind) (box : Box) (margin : Int) : State :=
  let suspended := (s.zone z).any Zone.suspended
  ((s.setZone z (some { suspended, kind, box, margin })).mapHolds fun h => h.endPermit z).judgeZone z

def marginArg (w : Word) : Int := clamp 0 Config.marginMax w.toInt

def marginClamped (w : Word) : Bool := outside 0 Config.marginMax w.toInt

def zoneWriteReq (zone kind arm : Byte) (box : Axes Bounds) (margin : Word) (s : State) : Reply :=
  match zoneArg zone, zoneKindArg kind arm with
  | some z, some k =>
    if !boxValid box then refuse .badArgument s
    else
      match s.zoneWriteRefusal z k with
      | some st => refuse st s
      | none =>
        let s := s.writeZone z k (boxArg box) (marginArg margin)
        { status := okOr (boxClamped box || marginClamped margin), payload := s.zoneRecord z, state := s }
  | _, _ => refuse .badArgument s

/-- R177, after the argument check. -/
def zoneSuspendBody (z : Fin 16) (s : State) : Reply :=
  match s.zone z with
  | none => refuse .wrongState s
  | some r =>
    if r.suspended then refuse .wrongState s
    else if r.kind.isRack ∧ s.rackGranted then refuse .inUse s
    else
      let kind := if r.kind.isShared then .shared none else r.kind
      accept [] ((s.setZone z (some { r with suspended := true, kind })).mapHolds fun h => (h.leave z).endPermit z)

def zoneSuspendReq (zone : Byte) (s : State) : Reply :=
  match zoneArg zone with
  | some z => zoneSuspendBody z s
  | none => refuse .badArgument s

/-- R178, after the argument check. -/
def zoneResumeBody (z : Fin 16) (s : State) : Reply :=
  match s.zone z with
  | none => refuse .wrongState s
  | some r =>
    if r.suspended then
      let kind := if r.kind.isShared then .shared none else r.kind
      accept [] ((s.setZone z (some { r with suspended := false, kind })).judgeZone z)
    else refuse .wrongState s

def zoneResumeReq (zone : Byte) (s : State) : Reply :=
  match zoneArg zone with
  | some z => zoneResumeBody z s
  | none => refuse .badArgument s

/-- R179, after the argument check. -/
def zoneDeleteBody (z : Fin 16) (s : State) : Reply :=
  match s.zone z with
  | none => refuse .wrongState s
  | some r =>
    if r.kind.isRack ∧ s.rackGranted then refuse .inUse s
    else accept [] ((s.setZone z none).mapHolds fun h => ((h.leave z).endPermit z).forget z)

def zoneDeleteReq (zone : Byte) (s : State) : Reply :=
  match zoneArg zone with
  | some z => zoneDeleteBody z s
  | none => refuse .badArgument s

/-- R180. -/
def zoneReadReq (zone : Byte) (s : State) : Reply :=
  match zoneArg zone with
  | some z => accept (s.zoneRecord z) s
  | none => refuse .badArgument s

def Causes.bytes (c : Causes) : List Byte :=
  [byteOf (bitField [c.powerOn, c.restart, c.zone, c.collision, c.axisFault])]

def HoldRecord.bytes (h : HoldRecord) : List Byte :=
  h.causes.bytes ++ zoneSetBytes h.violated ++ zoneSetBytes h.permit ++ zoneSetBytes h.inside

/-- HOLD_RELEASE as accepted (R172). -/
def State.releaseHold (s : State) (a : Arm) : State :=
  let h := s.zones.hold.get a
  (s.setHold a { h with causes := Causes.none, permit := h.permit.union h.violated, violated := ZoneSet.none }).judge a
    ZoneSet.all true

/-- R172, after the argument checks. -/
def holdReleaseBody (a : Arm) (s : State) : Reply :=
  if (s.arms.get a).faulted then refuse .wrongState s
  else
    let s := s.releaseHold a
    accept (s.zones.hold.get a).bytes s

def holdReleaseReq (arm : Byte) (s : State) : Reply :=
  match sideArg arm with
  | none => refuse .badArgument s
  | some a => if s.absentArm a then refuse .notPresent s else holdReleaseBody a s

/-- The SHARED zones an arm claims (R174). -/
def State.claimed (s : State) (a : Arm) : ZoneSet :=
  Vector.ofFn fun i => (s.zone i).any fun z => z.kind == .shared (some a)

/-- R174. -/
def holdReadBody (a : Arm) (s : State) : Reply :=
  accept ((s.zones.hold.get a).bytes ++ zoneSetBytes (s.claimed a) ++ [pinByte (s.holdActive a)]
    ++ presence 1 (fun b => [armByte b]) s.zones.grantee) s

def holdReadReq (arm : Byte) (s : State) : Reply :=
  match sideArg arm with
  | none => refuse .badArgument s
  | some a => if s.absentArm a then refuse .notPresent s else holdReadBody a s

/-! ### The formation of check points (R92, R93) -/

/-- The compensation engine takes the oldest formation that has been asked for: for a REFERENCED arm the check points go
to the zone monitor, which judges the arm, and to the change sequencer, which keeps the reference point and tests its
wait; a BLIND arm gets none. DESIGN CHOICE (log 29): R92 lets each consumer take the handover on its own; here the zone
monitor takes it first. -/
def State.form (s : State) (a : Arm) : State :=
  match s.comp.formationDue.get a with
  | [] => s
  | _ :: later =>
    let s := s.setFormations a later
    if s.referenced a then
      let q := (s.gather a).checkPoints (s.arms.get a).counts
      let s := (s.setHold a { s.zones.hold.get a with points := some q }).judge a ZoneSet.all true
      (s.setChange a { s.change a with lastReference := some q.reference }).send (.testStage a)
    else s

/-- The axis unit reports an arm BLIND: the zone monitor and the change sequencer drop its points (R165, R143). -/
def State.goBlind (s : State) (a : Arm) : State :=
  (s.setHold a { s.zones.hold.get a with points := none }).setChange a { s.change a with lastReference := none }

end Sys2Proof.Machine
end

