-- ==== Sys2Proof/Machine/Change.lean ====
section
/-! DEFINITION. The change sequencer (spec 08): validation and acceptance of a change, the stages, reconciliation, the
end of a change with the staged request, the head outside a change, the identity reader, and the requests CHANGE,
CHANGE_ABORT and CHANGE_READ. A stage that is entered or may go on has its wait tested by the message `testStage`. -/

namespace Sys2Proof.Machine

/-! ### What the sequencer sees -/

/-- The home pocket of a tip the change names. -/
def State.homeOf (s : State) (tip : Option (Fin 64)) : Option (Fin 20) :=
  (tip.bind fun i => s.library.tips[i].tip).map Tip.home

def State.stowPocket (s : State) (a : Arm) : Option (Fin 20) := s.homeOf (s.change a).stowing

def State.targetPocket (s : State) (a : Arm) : Option (Fin 20) := s.homeOf (s.change a).target

def State.dockBox (s : State) (a : Arm) (p : Fin 20) : Option Box := (s.pocket p).dock.get a

/-- The last reference point lies in the dock box (R143). -/
def State.inDock (s : State) (a : Arm) (p : Fin 20) : Bool :=
  match (s.change a).lastReference, s.dockBox a p with
  | some q, some b => b.contains q
  | _, _ => false

/-- There is a last reference point and it lies outside the dock box (R143). -/
def State.outDock (s : State) (a : Arm) (p : Fin 20) : Bool :=
  match (s.change a).lastReference with
  | none => false
  | some q => !(s.dockBox a p).any fun b => b.contains q

/-- R117, R142: the change pocket report, sent with the current pocket it gives. -/
def State.sendReport (s : State) (a : Arm) (pocket : Option (Fin 20)) (suppressed stow : Bool) : State :=
  (s.setChange a { s.change a with current := pocket }).takeReport a { pocket, suppressed, stow }

def State.enterStage (s : State) (a : Arm) (st : ChangeState) (timer : Timer) : State :=
  (s.setChange a { s.change a with state := st, timer, wait := .departure }).send (.testStage a)

def State.stopTimer (s : State) (a : Arm) : State := s.setChange a { s.change a with timer := none }

/-- The stages from STOW_APPROACH to FETCH_CLEAR. -/
def ChangeState.afterGrant : ChangeState → Bool
  | .idle | .waitingRack | .reconciling => false
  | _ => true

/-- The identity read in flight, if there is one, is abandoned (R137). -/
def State.abandonRead (s : State) (a : Arm) : State := s.setHead a { s.head a with attempt := none }

/-! ### The end of a change (R152) -/

/-- Steps 1 to 3 of R152. -/
def State.finishChange (s : State) (a : Arm) (result : ChangeResult) : State :=
  let c := s.change a
  let s := s.setChange a
    { c with state := .idle, timer := none, target := none, stowing := none, opened := [], faultResult := none }
  let s := (s.sendReport a none false false).rackChangeEnded a
  (s.setChange a { s.change a with last := some (result, c.double) }).raise (.change a)

/-- A staged request is removed with outcome DISCARDED (R152). -/
def State.discardStaged (s : State) (a : Arm) : State :=
  let c := s.change a
  if c.staged.isSome then s.setChange a { c with staged := none, stagedOutcome := .discarded } else s

/-! ### Faults and reconciliation (R151, R154) -/

/-- A fault in a stage after the grant: the change enters RECONCILING with its first result, suppression is set at the
current pocket with the stow transfer as it stood, and a read in flight is abandoned (R149, R151, R154). -/
def State.faultChange (s : State) (a : Arm) (result : ChangeResult) : State :=
  let s := s.setChange a { s.change a with faultResult := some result }
  let s := (s.abandonRead a).sendReport a (s.change a).current true (s.report a).stow
  s.enterStage a .reconciling (some s.sequencer.approachTimeout)

/-- "Transit resolved" for a tip of the change (R157). -/
def State.resolveTransit (s : State) (a : Arm) (tip : Option (Fin 64)) : State :=
  match tip, s.homeOf tip with
  | some i, some p => (s.transitResolved a i (s.pocket p).occupied).state
  | _, _ => s

/-- The end of a change other than COMPLETED: the staged request, if any, is discarded (R152). -/
def State.endChange (s : State) (a : Arm) (result : ChangeResult) : State := (s.finishChange a result).discardStaged a

/-- Steps 3 and 4 of reconciliation (R157). -/
def State.resolveAndEnd (s : State) (a : Arm) : State :=
  let c := s.change a
  let s := (s.resolveTransit a c.stowing).resolveTransit a c.target
  (s.sendReport a none false false).endChange a (c.faultResult.getD .aborted)

/-- Step 2 of reconciliation begins (R156): a module on the head is read; without one it is reported lost. -/
def State.identifyHead (s : State) (a : Arm) : State :=
  let s := s.setChange a { s.change a with wait := .identity }
  if (s.head a).modulePresent then
    (s.headBecomes a .identifying).setHead a { (s.headBecomes a .identifying).head a with attempt := some 1 }
  else (((s.moduleLost a).state).headBecomes a .empty).resolveAndEnd a

/-- A double fault ends step 1 (R155). -/
def State.changeDoubleFault (s : State) (a : Arm) : State :=
  ((s.setChange a { s.change a with double := true, timer := none }).doubleFault a).identifyHead a

/-! ### Acceptance of a change (R139 to R142) -/

/-- An approach to the target pocket (R147). The report waits while the stow lid waits for the departure (R142). -/
def State.enterFetchApproach (s : State) (a : Arm) : State :=
  let s := if (s.change a).stowClose then s else s.sendReport a (s.targetPocket a) false false
  s.enterStage a .fetchApproach (some s.sequencer.approachTimeout)

/-- The grant is taken by a change in WAITING_RACK (R142). -/
def State.takeGrant (s : State) (a : Arm) : State :=
  if (s.change a).state = .waitingRack then
    if (s.change a).stowing.isSome then
      (s.sendReport a (s.stowPocket a) false false).enterStage a .stowApproach (some s.sequencer.approachTimeout)
    else s.enterFetchApproach a
  else s

/-- What the validation of R140 finds. -/
inductive Verdict where
  | refused (status : Status)
  | nothingToDo
  | passes
deriving DecidableEq, Repr

/-- A pocket a change can reach for the arm (R140). -/
def State.reachable (s : State) (a : Arm) (p : Fin 20) : Bool :=
  (s.pocket p).state == .enabled && (s.dockBox a p).isSome

/-- The target checks (R140, test 5). -/
def State.targetRefusal (s : State) (a : Arm) (i : Fin 64) (allow : Bool) : Option Status :=
  match s.activeTip i with
  | none => some .notFound
  | some t =>
    if t.location ≠ .inPocket then some .wrongState
    else if !s.reachable a t.home then some .unreachable
    else if (t.entries.get a).isNone ∧ !allow then some .wrongState
    else if (s.change a.other).names i then some .inUse
    else none

/-- The stowing-tip checks (R140, test 6). -/
def State.stowRefusal (s : State) (a : Arm) (i : Fin 64) : Option Status :=
  match s.homeOf (some i) with
  | none => none
  | some p =>
    if !s.reachable a p then some .unreachable
    else if (s.pocket p).occupied ∨ (s.pocket p).foreignMark then some .wrongState
    else none

/-- A zone of kind RACK is ACTIVE. -/
def State.rackZoneActive (s : State) : Bool := anyZone fun i => s.zoneIsRack i && s.zoneActive i

def HeadState.settled : HeadState → Bool
  | .empty | .tip => true
  | _ => false

/-- There is nothing to do (R140, test 4). -/
def State.nothingToChange (s : State) (a : Arm) (r : ChangeRequest) : Bool :=
  match r.target with
  | some i => s.mountedTip a == some i
  | none => (s.head a).state == .empty

def verdict (st : Option Status) : Verdict :=
  match st with
  | some st => .refused st
  | none => .passes

/-- R140. -/
def State.validate (s : State) (a : Arm) (r : ChangeRequest) : Verdict :=
  if !s.referenced a then .refused .notReferenced
  else if !s.rackZoneActive ∨ s.rack.arbiter = .lockedOut then .refused .wrongState
  else if !(s.head a).state.settled then .refused .wrongState
  else if s.nothingToChange a r then .nothingToDo
  else
    match r.target.bind fun i => s.targetRefusal a i r.allow with
    | some st => .refused st
    | none => verdict ((s.mountedTip a).bind (s.stowRefusal a))

/-- NOTHING_TO_DO completes at once (R140). -/
def State.completeAtOnce (s : State) (a : Arm) : State :=
  (s.setChange a { s.change a with last := some (.nothingToDo, false) }).raise (.change a)

/-- The change record as a change is accepted (R141). -/
def Change.accepted (c : Change) (r : ChangeRequest) (stowing : Option (Fin 64)) : Change :=
  { c with state := .waitingRack, target := r.target, stowing, allow := r.allow, opened := [], stowClose := false,
           faultResult := none, double := false }

/-- A validated change is accepted: probing is disarmed, the rack is asked for, and the answer is acted on (R141). -/
def State.acceptChange (s : State) (a : Arm) (r : ChangeRequest) : State :=
  let s := (s.setChange a ((s.change a).accepted r (s.mountedTip a))).disarm a
  match s.rackRequest a with
  | (.granted, s) => s.takeGrant a
  | (.queued, s) => s
  | (_, s) => s.endChange a .rackLocked

/-- The staged request of a change that ended COMPLETED is taken out of the slot, validated and started (R152). -/
def State.startStaged (s : State) (a : Arm) : State :=
  match (s.change a).staged with
  | none => s
  | some r =>
    let out := fun (o : StagedOutcome) => s.setChange a { s.change a with staged := none, stagedOutcome := o }
    match (out .none).validate a r with
    | .refused st => out (.refusedAtStart st)
    | .nothingToDo => (out .nothingToDo).completeAtOnce a
    | .passes => (out .started).acceptChange a r

/-- A change ends COMPLETED (R152). -/
def State.completeChange (s : State) (a : Arm) : State := (s.finishChange a .completed).startStaged a

/-! ### The stages (R143 to R150) -/

/-- A pocket leaves the opened lids. -/
def State.dropOpened (s : State) (a : Arm) (p : Fin 20) : State :=
  s.setChange a { s.change a with opened := (s.change a).opened.filter (· != p) }

/-- The fault of an open command answered "refused" (R144). -/
def State.refusedFault (s : State) : ChangeResult := if s.rack.arbiter = .lockedOut then .rackLocked else .grantLapsed

/-- Arrival: the open command, and its answer (R144, R147). -/
def State.openAt (s : State) (a : Arm) (p : Fin 20) (next : ChangeState) : State :=
  match (s.stopTimer a).openLid a p with
  | (.jammed, s) => s.faultChange a .lidJammed
  | (.refused, s) => s.faultChange a s.refusedFault
  | (_, s) => (s.setChange a { s.change a with opened := (s.change a).opened ++ [p] }).enterStage a next none

/-- The close command of a departure and its answer; none when the answer is "jammed" (R146, R150). -/
def State.closeAt (s : State) (a : Arm) (p : Fin 20) : Option State :=
  match s.closeLid p with
  | (.closed, s) => some (s.dropOpened a p)
  | (.jammed, _) => none
  | (_, s) => some s

/-- The lid is OPEN: "stow release begins" (R144). -/
def State.beginStow (s : State) (a : Arm) (p : Fin 20) : State :=
  match (s.change a).stowing with
  | none => s.faultChange a .noModule
  | some i =>
    let r := s.stowReleaseBegins a i
    if r.yes then
      (r.state.sendReport a (some p) true true).enterStage a .stowRelease (some s.sequencer.transferTimeout)
    else r.state.faultChange a .noModule

/-- The stow is done on the machine: "stow transfer complete" (R145). -/
def State.completeStow (s : State) (a : Arm) (p : Fin 20) : State :=
  match (s.change a).stowing with
  | none => s.faultChange a .noModule
  | some i =>
    let r := (s.stopTimer a).stowTransferComplete a i
    if r.yes then
      let s := r.state.sendReport a (some p) false false
      let s := s.setChange a { s.change a with stowClose := true }
      if (s.change a).target.isSome then s.enterFetchApproach a
      else s.enterStage a .stowClear (some s.sequencer.approachTimeout)
    else r.state.faultChange a .noModule

/-- The lid is OPEN: "pick begins" (R147). -/
def State.beginPick (s : State) (a : Arm) (p : Fin 20) : State :=
  match (s.change a).target with
  | none => s.faultChange a .pocketChanged
  | some i =>
    let r := s.pickBegins a i
    if r.yes then
      (r.state.sendReport a (some p) true false).enterStage a .fetchPick (some s.sequencer.transferTimeout)
    else r.state.faultChange a .pocketChanged

/-- The module is on the head: a read begins (R148). -/
def State.beginIdentify (s : State) (a : Arm) : State :=
  let s := (s.stopTimer a).headBecomes a .identifying
  (s.setHead a { s.head a with attempt := some 1 }).enterStage a .fetchIdentify none

/-- FETCH_APPROACH with stow close pending: departure from the stow dock box (R146). -/
def State.closeStowLid (s : State) (a : Arm) (p : Fin 20) : State :=
  match (s.setChange a { s.change a with stowClose := false }).closeAt a p with
  | none => (s.dropOpened a p).faultChange a .lidJammed
  | some s => (s.sendReport a (s.targetPocket a) false false).send (.testStage a)

/-- STOW_CLEAR and FETCH_CLEAR: the departure, then the wait for the lids (R146, R150). -/
def State.clearStage (s : State) (a : Arm) (p : Fin 20) : State :=
  match (s.change a).wait with
  | .departure =>
    if s.outDock a p then
      let s := s.setChange a { s.change a with timer := none, stowClose := false, wait := .lids }
      match s.closeAt a p with
      | none => (s.dropOpened a p).faultChange a .lidJammed
      | some s => s.send (.testStage a)
    else s
  | _ => if (s.change a).opened.isEmpty then s.completeChange a else s

/-- The close commands of reconciliation; none when one is answered "jammed" (R154, R155). -/
def State.closeAll (s : State) (a : Arm) (lids : List (Fin 20)) : State × Bool :=
  lids.foldl (fun (s, jammed) p =>
    match s.closeAt a p with
    | none => (s.dropOpened a p, true)
    | some s => (s, jammed)) (s, false)

/-- Step 1 of reconciliation (R154). DESIGN CHOICE (log 30): stow close pending stays as it stood at the fault, also when
the stow lid is closed here or has been JAMMED. -/
def State.makeRackSafe (s : State) (a : Arm) : State :=
  let c := s.change a
  match c.wait with
  | .departure =>
    if c.opened.all (s.outDock a) then
      let (s, jammed) := (s.setChange a { c with timer := none, wait := .lids }).closeAll a c.opened
      if jammed then s.changeDoubleFault a else s.send (.testStage a)
    else s
  | .lids => if c.opened.isEmpty then s.identifyHead a else s
  | .identity => s

/-- A wait of the change is tested (R143 to R150, R154). -/
def State.advance (s : State) (a : Arm) : State :=
  let c := s.change a
  match c.state, c.current with
  | .reconciling, _ => s.makeRackSafe a
  | .stowApproach, some p => if s.inDock a p then s.openAt a p .stowOpen else s
  | .stowOpen, some p =>
    if s.outDock a p then s.faultChange a .dockLeft
    else if (s.pocket p).lid = .opened then s.beginStow a p else s
  | .stowRelease, some p =>
    if s.outDock a p then s.faultChange a .dockLeft
    else if !(s.head a).modulePresent ∧ (s.pocket p).occupied then s.completeStow a p else s
  | .stowClear, some p => s.clearStage a p
  | .fetchApproach, some p =>
    if c.stowClose then (if s.outDock a p then s.closeStowLid a p else s)
    else if s.inDock a p then s.openAt a p .fetchOpen else s
  | .fetchOpen, some p =>
    if s.outDock a p then s.faultChange a .dockLeft
    else if (s.pocket p).lid = .opened then s.beginPick a p else s
  | .fetchPick, some p =>
    if s.outDock a p then s.faultChange a .dockLeft
    else if (s.head a).modulePresent ∧ !(s.pocket p).occupied then s.beginIdentify a else s
  | .fetchClear, some p => s.clearStage a p
  | _, _ => s

/-! ### News from other blocks -/

/-- A lid of the opened lids has changed (R144 to R150, R155); other lids change nothing (R151). -/
def State.lidNews (s : State) (a : Arm) (p : Fin 20) : State :=
  let c := s.change a
  if c.opened.contains p then
    match (s.pocket p).lid with
    | .closed => (s.dropOpened a p).send (.testStage a)
    | .opened => s.send (.testStage a)
    | .jammed =>
      let s := s.dropOpened a p
      if c.state.afterGrant then s.faultChange a .lidJammed
      else if c.state = .reconciling ∧ c.wait ≠ .identity then s.changeDoubleFault a
      else s
    | _ => s
  else s

/-- A pocket that changed before its transfer (R151). -/
def State.pocketFault (s : State) (a : Arm) : State :=
  if (s.change a).state = .waitingRack then s.endChange a .pocketChanged else s.faultChange a .pocketChanged

/-- A change of observed occupancy (R145, R148, R151). -/
def State.occupancyNews (s : State) (a : Arm) (p : Fin 20) : State :=
  let occupied := (s.pocket p).occupied
  match (s.change a).state with
  | .waitingRack =>
    if occupied ∧ s.stowPocket a = some p ∨ !occupied ∧ s.targetPocket a = some p then s.pocketFault a else s
  | .stowApproach | .stowOpen => if occupied ∧ s.stowPocket a = some p then s.pocketFault a else s
  | .fetchApproach | .fetchOpen => if !occupied ∧ s.targetPocket a = some p then s.pocketFault a else s
  | .stowRelease | .fetchPick => s.send (.testStage a)
  | _ => s

/-- "Lapsed" from the arbiter (R151). -/
def State.takeLapse (s : State) (a : Arm) : State :=
  if (s.change a).state.afterGrant then s.faultChange a .grantLapsed else s

/-- "Locked out" from the arbiter (R141, R151). -/
def State.takeLockout (s : State) (a : Arm) : State :=
  if (s.change a).state = .waitingRack then s.endChange a .rackLocked
  else if (s.change a).state.afterGrant then s.faultChange a .rackLocked
  else s

/-- An expiry of the step timer (R138, R144 to R150, R155). -/
def State.stepExpiry (s : State) (a : Arm) : State :=
  if (s.change a).timer.isSome ∧ !s.frz then
    let s := s.stopTimer a
    if (s.change a).state = .reconciling then s.changeDoubleFault a
    else if (s.change a).state.afterGrant then s.faultChange a .timeout
    else s
  else s

/-! ### The head and the identity reader (R136, R137, R149, R156, R158) -/

/-- The head outside a change (R158). -/
def State.headEvent (s : State) (a : Arm) : State :=
  match (s.head a).modulePresent, (s.head a).state with
  | false, .tip => (((s.moduleLost a).state).headBecomes a .empty).addCause a .collision
  | false, .foreignModule _ => s.headBecomes a .empty
  | false, .identifying => (s.abandonRead a).headBecomes a .empty
  | true, .empty =>
    (s.headBecomes a .identifying).setHead a { (s.headBecomes a .identifying).head a with attempt := some 1 }
  | _, _ => s

/-- The debounced module-present has changed (R145, R148, R149, R151, R156, R158). -/
def State.moduleChanged (s : State) (a : Arm) : State :=
  let c := s.change a
  let active := (s.head a).modulePresent
  match c.state with
  | .idle => s.headEvent a
  | .waitingRack =>
    if !active ∧ c.stowing.isSome then (s.endChange a .noModule).headEvent a
    else if active ∧ c.stowing.isNone then (s.endChange a .extraModule).headEvent a
    else s
  | .stowApproach | .stowOpen | .fetchClear | .fetchIdentify => if active then s else s.faultChange a .noModule
  | .stowRelease | .fetchPick => s.send (.testStage a)
  | .stowClear | .fetchApproach | .fetchOpen => if active then s.faultChange a .extraModule else s
  | .reconciling =>
    if !active ∧ (s.head a).attempt.isSome then
      ((((s.abandonRead a).moduleLost a).state).headBecomes a .empty).resolveAndEnd a
    else s

/-- The module-present input has held a new level for 20 ms (R136). -/
def State.moduleDebounced (s : State) (a : Arm) : State :=
  let h := s.head a
  if h.moduleInput = h.modulePresent then s
  else (s.setHead a { h with modulePresent := h.moduleInput }).moduleChanged a

/-- FETCH_IDENTIFY: the read gave an ID (R149). -/
def State.identityRead (s : State) (a : Arm) (id : Word) : State :=
  match (s.change a).target with
  | none => s.faultChange a .wrongModule
  | some i =>
    if (s.activeTip i).any fun t => t.moduleId == id then
      let r := s.identityMatched a i
      if r.yes then
        (r.state.sendReport a (s.change a).current false false).enterStage a .fetchClear
          (some s.sequencer.approachTimeout)
      else r.state.faultChange a .noModule
    else s.faultChange a .wrongModule

/-- A read ends with an ID, or with "no ID" (R137, R149, R156, R158). -/
def State.readEnds (s : State) (a : Arm) (id : Option Word) : State :=
  let s := s.abandonRead a
  match (s.change a).state with
  | .fetchIdentify =>
    match id with
    | some id => s.identityRead a id
    | none => s.faultChange a .noId
  | .reconciling => ((s.identityReport a id).state).resolveAndEnd a
  | _ => (s.identityReport a id).state

/-- An attempt has failed: the next begins, or the third ends the read (R137). -/
def State.attemptFails (s : State) (a : Arm) (n : Nat) : State :=
  if n < Config.identityAttempts then s.setHead a { s.head a with attempt := some (n + 1) } else s.readEnds a none

/-- A complete reply on the head identity line (R137). -/
def State.identityAnswer (s : State) (a : Arm) (id : Word) (correct : Bool) : State :=
  match (s.head a).attempt with
  | none => s
  | some n => if correct then s.readEnds a (some id) else s.attemptFails a n

/-- No reply within 10 ms of the command (R137). -/
def State.attemptTimeout (s : State) (a : Arm) : State :=
  match (s.head a).attempt with
  | none => s
  | some n => s.attemptFails a n

/-! ### Requests -/

def ChangeState.code : ChangeState → Byte
  | .idle => 0
  | .waitingRack => 1
  | .stowApproach => 2
  | .stowOpen => 3
  | .stowRelease => 4
  | .stowClear => 5
  | .fetchApproach => 6
  | .fetchOpen => 7
  | .fetchPick => 8
  | .fetchIdentify => 9
  | .fetchClear => 10
  | .reconciling => 11

def ChangeResult.code : ChangeResult → Byte
  | .completed => 0
  | .nothingToDo => 1
  | .aborted => 2
  | .grantLapsed => 3
  | .rackLocked => 4
  | .lidJammed => 5
  | .dockLeft => 6
  | .timeout => 7
  | .wrongModule => 8
  | .noId => 9
  | .noModule => 10
  | .extraModule => 11
  | .pocketChanged => 12

/-- CHANGE on an arm that is not IDLE (R139). -/
def stageChange (a : Arm) (r : ChangeRequest) (s : State) : Reply :=
  if (s.change a).staged.isSome then refuse .full s
  else
    { status := .staged, payload := [],
      state := s.setChange a { s.change a with staged := some r, stagedOutcome := .none } }

/-- CHANGE on an IDLE arm (R140, R141). -/
def startChange (a : Arm) (r : ChangeRequest) (s : State) : Reply :=
  match s.validate a r with
  | .refused st => refuse st s
  | .nothingToDo => accept [ChangeResult.nothingToDo.code] (s.completeAtOnce a)
  | .passes =>
    let s := s.acceptChange a r
    accept [(s.change a).state.code] s

/-- R139. -/
def changeReq (arm target allow : Byte) (s : State) : Reply :=
  match sideArg arm, optionalArg tipArg target, yesNoArg allow with
  | some a, some t, some v =>
    if s.absentArm a then refuse .notPresent s
    else if (s.change a).busy then stageChange a { target := t, allow := v } s
    else startChange a { target := t, allow := v } s
  | _, _, _ => refuse .badArgument s

/-- R153, after the argument checks. -/
def changeAbortBody (a : Arm) (s : State) : Reply :=
  match (s.change a).state with
  | .idle => { status := .nothing, payload := [], state := s }
  | .waitingRack => accept [] (s.endChange a .aborted)
  | .reconciling => refuse .wrongState s
  | _ => accept [] (s.faultChange a .aborted)

def changeAbortReq (arm : Byte) (s : State) : Reply :=
  match sideArg arm with
  | none => refuse .badArgument s
  | some a => if s.absentArm a then refuse .notPresent s else changeAbortBody a s

def StagedOutcome.code : StagedOutcome → Byte
  | .none => 0
  | .started => 1
  | .refusedAtStart _ => 2
  | .nothingToDo => 3
  | .discarded => 4

/-- The refusal status REFUSED_AT_START carries (R135), 0 with the other outcomes (R202). -/
def StagedOutcome.refusal : StagedOutcome → Byte
  | .refusedAtStart st => st.code
  | _ => 0

/-- The staged outcome may be "none", so a presence byte precedes its code and its refusal status (R135, R202). DESIGN
CHOICE (log 11): "none" keeps its place in R135's list, so that STARTED has code 1. -/
def StagedOutcome.bytes (o : StagedOutcome) : List Byte :=
  presence 2 (fun o : StagedOutcome => [o.code, o.refusal]) (if o = .none then Option.none else some o)

def HeadState.code : HeadState → Byte
  | .empty => 0
  | .tip => 1
  | .identifying => 2
  | .foreignModule _ => 3

def HeadState.id : HeadState → Option Word
  | .foreignModule id => id
  | _ => none

/-- The head record of CHANGE_READ. DESIGN CHOICE (log 11): R202 has FOREIGN's module ID follow the code, and puts a
presence byte before a field that may be "unknown"; here the presence byte stands between the code and the ID. So are
the bytes of the mark and of the level of module-present (log 11). -/
def Head.bytes (h : Head) : List Byte :=
  [h.state.code] ++ presence 4 wordBytes h.state.id ++ [markByte h.allowUnqualified, pinByte h.modulePresent,
    yesNo h.attempt.isSome]

/-- The arguments of the staged request of arm `a` as CHANGE gives them (R139): arm, target with NONE as 0xFF, and the
allow-unqualified option. That the arm stands among them is DEDUCED from "with its arguments" (R159; log 11). -/
def ChangeRequest.bytes (r : ChangeRequest) (a : Arm) : List Byte :=
  [armByte a, (r.target.map fun i => byteOf i.val).getD 0xFF, yesNo r.allow]

/-- The change record of arm `a` (R159). Fault result and double are given while RECONCILING. -/
def Change.bytes (c : Change) (a : Arm) : List Byte :=
  let reconciling := c.state = .reconciling
  [c.state.code] ++ presence 1 numberByte c.target ++ presence 1 numberByte c.stowing ++ presence 1 numberByte c.current
  ++ [yesNo c.allow] ++ listBytes numberByte c.opened ++ [yesNo c.stowClose] ++ timerBytes c.timer
  ++ presence 1 (fun r => [r.code]) (if reconciling then c.faultResult else none)
  ++ presence 1 (fun d => [yesNo d]) (if reconciling then some c.double else none)
  ++ presence 2 (fun r => [r.1.code, markByte r.2]) c.last ++ presence 3 (fun r => ChangeRequest.bytes r a) c.staged
  ++ c.stagedOutcome.bytes

def changeReadBody (a : Arm) (s : State) : Reply := accept ((s.change a).bytes a ++ (s.head a).bytes) s

def changeReadReq (arm : Byte) (s : State) : Reply :=
  match sideArg arm with
  | none => refuse .badArgument s
  | some a => if s.absentArm a then refuse .notPresent s else changeReadBody a s

end Sys2Proof.Machine
end

