-- ==== Sys2Proof/Machine/Settle.lean ====
section
/-! DEFINITION. The messages between blocks taken by their receivers: first in, first out, within the step that sends
them (log 5). -/

namespace Sys2Proof.Machine

/-- Both change sequencers are handed a change of a lid or of an occupancy, arm 0 first (spec 07, R115, R121). -/
def State.tellBoth (s : State) (f : State → Arm → State) : State := f (f s .zero) .one

/-- A message is taken by its receiver. -/
def State.takeMessage (s : State) : Message → State
  | .granted a => s.takeGrant a
  | .lapsed a => s.takeLapse a
  | .lockedOut a => s.takeLockout a
  | .grantee g => s.takeGrantee g
  | .lidChanged p => s.tellBoth fun s a => s.lidNews a p
  | .occupancyChanged p => s.tellBoth fun s a => s.occupancyNews a p
  | .testStage a => s.advance a

/-- At most `n` messages are taken, in the order in which they were sent; what would be beyond is dropped (log 5), so
that no message outlives the step that sends it. -/
def State.settleN : Nat → State → State
  | 0, s => { s with mail := [] }
  | n + 1, s =>
    match s.mail with
    | [] => s
    | m :: rest => State.settleN n (({ s with mail := rest } : State).takeMessage m)

/-- The bound on the messages of one step; no step the spec describes comes near it. -/
def settleBound : Nat := 256

def State.settle (s : State) : State := s.settleN settleBound

end Sys2Proof.Machine
end

