-- ==== Sys2Proof/WellFormed.lean ====
section
/-! DEFINITION. Which commands are well formed: the lists of the attention requests hold at most 14 entries (spec 11,
R201), the three rows about frames that are no request carry a frame the link can judge so (R197), and a COLLECT has a
whole byte. Every other operand is of a type that holds only what the frame or the wiring can carry. -/

namespace Sys2Proof

/-- A frame other than COLLECT: the frames that can end while a request executes beside the poll of the link state
(R197, R199; log 4). A frame without a whole byte is ignored. -/
def discardable (bytes : List Byte) : Bool := bytes.head? != some 0x02

def Instr.wellFormed : Instr → Bool
  | .badFrame bytes => judgeFrame bytes == .bad
  | .unknownRequestCode bytes => judgeFrame bytes == .unknownCode
  | .discardedRequest bytes => discardable bytes
  | .collect n => n != 0
  | .attnFlags named => decide (named.length ≤ 14)
  | .attnConfig entries => decide (entries.length ≤ 14)
  | _ => true

end Sys2Proof
end

