-- ==== Sys2Proof/Machine/Link.lean ====
section
/-! DEFINITION. The link controller (spec 11, sections 11.1 and 11.2): the taking of a request frame, COLLECT, bad and
discarded frames; and the guard every event of the wiring or of the inside passes. -/

namespace Sys2Proof.Machine

/-! ### The bytes sent (R197, R205) -/

def LinkState.code : LinkState → Byte
  | .idle => 0x10
  | .executing _ _ _ => 0x11
  | .responseReady _ _ => 0x12

/-- In a frame whose code is not COLLECT the part sends the link state and then zeros, one byte for each received. -/
def stateFrame (code : Byte) (n : Nat) : List Byte := (code :: List.replicate n 0).take n

def State.setLink (s : State) (l : Link) : State := { s with link := l }

def Link.isExecuting (l : Link) : Bool :=
  match l.state with
  | .executing _ _ _ => true
  | _ => false

/-- The number of bytes of a command's frame. -/
def frameLength (c : Instr) : Nat := ((encodeFrame c).map List.length).getD 0

/-! ### Frames -/

/-- A frame is discarded and counted (R197, case 3). -/
def State.discardFrame (s : State) (n : Nat) : State :=
  s.setLink { s.link with discarded := bump s.link.discarded, sent := stateFrame 0x11 n }

/-- A bad frame drops the waiting response, is answered BAD_FRAME and counted (R197). -/
def State.badFrame (s : State) (n : Nat) : State :=
  s.setLink { s.link with
    state := .responseReady .badFrame [], badFrames := bump s.link.badFrames, sent := stateFrame s.link.state.code n }

/-- An unknown request code is answered BAD_ARGUMENT (R197, case 5). -/
def State.unknownCode (s : State) (n : Nat) : State :=
  s.setLink { s.link with state := .responseReady .badArgument [], sent := stateFrame s.link.state.code n }

/-- A frame of one of the rows about frames that are no request. The bytes decide what the link makes of it (R197). -/
def State.judged (s : State) (bytes : List Byte) (verdict : FrameVerdict) (f : State → State) : State :=
  if judgeFrame bytes = verdict then
    if s.link.isExecuting then s.discardFrame bytes.length else f s
  else s

/-- A COLLECT frame of `n` bytes (R199). DESIGN CHOICE (log 31): the link state at the end of the frame is the one at its
beginning, so no answer is placed while CS_N is active in this frame. -/
def State.collect (s : State) (n : Nat) : State :=
  if n = 0 then s
  else
    match s.link.state with
    | .responseReady st payload =>
      let whole := [(0x12 : Byte), st.code, byteOf payload.length] ++ payload
      s.setLink { s.link with
        state := if payload.length + 3 ≤ n then .idle else s.link.state,
        sent := (whole ++ List.replicate n 0).take n }
    | st => s.setLink { s.link with sent := stateFrame st.code n }

/-! ### Requests (R196, R198) -/

/-- The answer of the owning block is placed in the response buffer. DESIGN CHOICE (log 31): it is placed between two frames,
the frame of the request having sent the link state `s` was in throughout. -/
def State.respond (s : State) (c : Instr) (r : Reply) : State :=
  r.state.setLink { r.state.link with
    state := .responseReady r.status r.payload, sent := stateFrame s.link.state.code (frameLength c) }

/-- A DISCARDED_REQUEST waits in the queue before the next request frame: a frame ends while the request executes that
was taken before it, and until the last such frame the request stays in execution (log 3). -/
def lateFrameWaits : List Instr → Bool
  | [] => false
  | .discardedRequest _ :: _ => true
  | c :: rest => if (encodeRequest c).isSome then false else lateFrameWaits rest

/-- The link places the request in the request buffer and enters EXECUTING, which drops a waiting response (R198). -/
def State.beginExecuting (s : State) (c : Instr) : State :=
  let r := (encodeRequest c).getD (0, [])
  s.setLink { s.link with
    state := .executing r.1 r.2 none, sent := stateFrame s.link.state.code (frameLength c) }

/-- A well-formed request frame. In IDLE and RESPONSE_READY the link takes it, and the owning block answers it at once
unless frames end while it executes (R198; log 3); in EXECUTING the frame is discarded (R197). A part without power takes
no input (R210). -/
def State.request (s : State) (c : Instr) (body : State → Reply) : State :=
  if !s.powered then s
  else if s.link.isExecuting then s.discardFrame (frameLength c)
  else if lateFrameWaits s.pending then s.beginExecuting c
  else s.respond c (body s)

/-! ### Events -/

/-- An event reaches a running part; an input of an arm that is not present is ignored (spec 02, R38; spec 11, R210). -/
def State.event (s : State) (f : State → State) : State := if s.powered then f s else s

def State.armEvent (s : State) (a : Arm) (f : State → State) : State :=
  if s.powered ∧ s.present a then f s else s

/-- The outcome of a command: the part never stops. -/
def done (s : State) : Host.Outcome State Fault Refusal := .next s

/-- A report or a command whose receiver answers "applied" or "refused", or with another pair of words. -/
def State.answered (r : Applied) (yes no : Answer) : State := r.state.setAnswer (if r.yes then yes else no)

end Sys2Proof.Machine
end

