-- ==== Sys2Proof/Machine/AttentionCommands.lean ====
section
/-! DEFINITION. The commands of the attention unit: its requests and the raise report (spec 10). -/

namespace Sys2Proof.Machine

/-- The frame of an attention request with a list of any length. -/
def listFrame (c : Instr) : List Byte := (encodeFrame c).getD []

/-- A list above 14 entries makes a bad frame (spec 11, R201). -/
def State.longList (s : State) (c : Instr) : State :=
  s.event fun s => s.judged (listFrame c) .bad fun s => s.badFrame (listFrame c).length

/-- ATTN_FLAGS (spec 10, R187). A list above 14 entries is a bad frame (spec 11, R201). -/
def execAttnFlags (named : List Byte) (s : State) : Host.Outcome State Fault Refusal :=
  done (if named.length ≤ 14 then s.request (.attnFlags named) (attnFlagsReq named) else s.longList (.attnFlags named))

/-- ATTN_CONFIG (spec 10, R188, R189). A list above 14 entries is a bad frame (spec 11, R201). -/
def execAttnConfig (entries : List AttnEntry) (s : State) : Host.Outcome State Fault Refusal :=
  done (if entries.length ≤ 14 then s.request (.attnConfig entries) (attnConfigReq entries)
    else s.longList (.attnConfig entries))

/-- ATTN_TAKE (spec 10, R190, R191). -/
def execAttnTake (s : State) : Host.Outcome State Fault Refusal :=
  done (s.request .attnTake attnTakeReq)

/-- ATTN_RELEASE (spec 10, R192). -/
def execAttnRelease (s : State) : Host.Outcome State Fault Refusal :=
  done (s.request .attnRelease attnReleaseReq)

/-- RAISE_REPORT: a block raises a source (spec 10, R184). -/
def execRaiseReport (src : AttnSource) (s : State) : Host.Outcome State Fault Refusal :=
  done (s.event fun s => s.raise src)

end Sys2Proof.Machine
end

