-- ==== Sys2Proof/Machine/AxisUnit.lean ====
section
/-! DEFINITION. The axis unit (spec 02): counting, axis faults, the reference search, the guard state, and the requests
AXIS_HOME, ARM_SETUP and POSITION_READ. -/

namespace Sys2Proof.Machine

/-! ### Counting (R26 to R29) -/

/-- The place of a phase in the forward sequence (R26). -/
def phaseIndex : Phase → Nat
  | .p0 => 0
  | .p1 => 1
  | .p2 => 2
  | .p3 => 3

/-- A phase taken against the phase held (R26). -/
inductive PhaseStep where
  | same
  | forward
  | backward
  | twoAway
deriving DecidableEq, Repr

def phaseStep (held taken : Phase) : PhaseStep :=
  match (phaseIndex taken + 4 - phaseIndex held) % 4 with
  | 0 => .same
  | 1 => .forward
  | 2 => .twoAway
  | _ => .backward

/-- The change of the count by a step of one phase (R26). -/
def stepCount (d : Direction) (forward : Bool) : Int :=
  match d, forward with
  | .normal, true => 1
  | .normal, false => -1
  | .reversed, true => -1
  | .reversed, false => 1

/-- An axis after the sampler has taken a phase: the record, and what came of it. -/
inductive AxisEvent where
  | none
  | counted
  | faulted
deriving DecidableEq, Repr

def AxisRecord.faultWith (r : AxisRecord) (c : FaultCause) : AxisRecord := { r with state := .fault c }

/-- A count step (R26), or an over-range that leaves the count at the limit (R28). -/
def AxisRecord.count1 (r : AxisRecord) (d : Int) : AxisRecord × AxisEvent :=
  let n := r.count + d
  if saturates n then (({ r with count := saturate n } : AxisRecord).faultWith .overrange, .faulted)
  else ({ r with count := n }, .counted)

/-- The sampler takes a phase (R26 to R29). The first phase after power-on or RESTART is held without a step (R39, R40).
In FAULT the phase held follows and nothing is counted (R29). -/
def AxisRecord.take (r : AxisRecord) (p : Phase) : AxisRecord × AxisEvent :=
  let held := { r with phase := some p }
  match r.phase with
  | none => (held, .none)
  | some h =>
    if r.isFaulted then (held, .none)
    else
      match phaseStep h p with
      | .same => (held, .none)
      | .forward => held.count1 (stepCount r.direction true)
      | .backward => held.count1 (stepCount r.direction false)
      | .twoAway => (held.faultWith .quadrature, .faulted)

def State.axis (s : State) (a : Arm) (i : Axis) : AxisRecord := (s.arms.get a).axes.get i

def State.setAxis (s : State) (a : Arm) (i : Axis) (r : AxisRecord) : State :=
  s.setArm a { s.arms.get a with axes := (s.arms.get a).axes.set i r }

/-- A guard state that goes from REFERENCED to BLIND is told to the zone monitor and the change sequencer; one that
becomes REFERENCED brings a check-point formation (R35). `was` is the guard state before. -/
def State.guardChange (s : State) (a : Arm) (was : Bool) : State :=
  match was, s.referenced a with
  | true, false => s.goBlind a
  | false, true => s.askFormation a
  | _, _ => s

/-- An axis enters FAULT: the cause AXIS_FAULT, the AXIS source, and the arm BLIND (R27, R28). -/
def State.axisFault (s : State) (a : Arm) (was : Bool) : State :=
  ((s.addCause a .axisFault).raise (.axis a)).guardChange a was

/-- A phase of the channels of an axis (R26). -/
def State.takePhase (s : State) (a : Arm) (i : Axis) (p : Phase) : State :=
  let was := s.referenced a
  let (r, event) := (s.axis a i).take p
  let s := s.setAxis a i r
  match event with
  | .none => s
  | .counted => if was then s.askFormation a else s
  | .faulted => s.axisFault a was

/-! ### Reference search (R30, R31) -/

/-- A reference mark (R31). -/
def State.takeMark (s : State) (a : Arm) (i : Axis) : State :=
  let was := s.referenced a
  match (s.axis a i).state with
  | .seeking v =>
    ((s.setAxis a i { s.axis a i with count := v, state := .referenced }).raise (.axis a)).guardChange a was
  | _ => s

/-- AXIS_HOME as accepted (R30). -/
def State.home (s : State) (a : Arm) (i : Axis) (v : Int) : State :=
  let was := s.referenced a
  (s.setAxis a i { s.axis a i with state := .seeking v }).guardChange a was

def AxisState.code : AxisState → Byte
  | .unreferenced => 0
  | .seeking _ => 1
  | .referenced => 2
  | .fault _ => 3

def axisHomeReq (arm axis : Byte) (reference : Word) (s : State) : Reply :=
  match sideArg arm, axisArg axis with
  | some a, some i =>
    if s.absentArm a then refuse .notPresent s
    else
      let s := s.home a i (lengthArg reference)
      { status := okOr (lengthClamped reference), payload := [(s.axis a i).state.code], state := s }
  | _, _ => refuse .badArgument s

/-! ### Arm setup (R33, R34) -/

def Direction.code : Direction → Byte
  | .normal => 0
  | .reversed => 1

/-- The stored setup record: origin offsets, directions and fixed points. -/
def ArmAxes.setupBytes (r : ArmAxes) : List Byte :=
  pointBytes r.origin ++ axesBytes (fun x : AxisRecord => [x.direction.code]) r.axes
  ++ axesBytes (fun x : AxisRecord => intBytes x.s0) r.axes

def AxisRecord.setup (r : AxisRecord) (direction : Direction) (s0 : Int) : AxisRecord := { r with direction, s0 }

def ArmAxes.setup (r : ArmAxes) (origin : Point) (direction : Axes Direction) (s0 : Point) : ArmAxes :=
  { origin,
    axes := ⟨r.axes.x.setup direction.x s0.x, r.axes.y.setup direction.y s0.y, r.axes.z.setup direction.z s0.z⟩ }

/-- ARM_SETUP as accepted: a change of an origin offset or an s0 of a REFERENCED arm is a motion event (R34). -/
def State.setupArm (s : State) (a : Arm) (origin : Point) (direction : Axes Direction) (s0 : Point) : State :=
  let old := s.arms.get a
  let moved := origin ≠ old.origin ∨ s0 ≠ old.axes.map AxisRecord.s0
  let s := s.setArm a (old.setup origin direction s0)
  if moved ∧ s.referenced a then s.askFormation a else s

def directionsArg (d : Axes Byte) : Option (Axes Direction) :=
  match directionArg d.x, directionArg d.y, directionArg d.z with
  | some x, some y, some z => some ⟨x, y, z⟩
  | _, _, _ => none

def armSetupReq (arm : Byte) (origin : Axes Word) (direction : Axes Byte) (s0 : Axes Word) (s : State) : Reply :=
  match sideArg arm, directionsArg direction with
  | some a, some d =>
    if s.absentArm a then refuse .notPresent s
    else
      let s := s.setupArm a (pointArg origin) d (pointArg s0)
      { status := okOr (pointClamped origin || pointClamped s0), payload := (s.arms.get a).setupBytes, state := s }
  | _, _ => refuse .badArgument s

/-! ### Reading an arm (R37, R94) -/

def FaultCause.code : FaultCause → Byte
  | .quadrature => 0
  | .overrange => 1

def AxisState.reference : AxisState → Option Int
  | .seeking v => some v
  | _ => none

def AxisState.cause : AxisState → Option FaultCause
  | .fault c => some c
  | _ => none

def AxisRecord.bytes (r : AxisRecord) : List Byte :=
  intBytes r.count ++ [r.state.code, r.direction.code] ++ intBytes r.s0 ++ presence 4 intBytes r.state.reference
  ++ presence 1 (fun c => [c.code]) r.state.cause

/-- The positions of a REFERENCED arm, formed from the counts as they stand (R37, R94). DESIGN CHOICE (log 11): one presence
byte for the reference point with its marks, and one for the tip point with its marks and number. -/
def State.positionBytes (s : State) (a : Arm) : List Byte :=
  let q := (s.gather a).checkPoints (s.arms.get a).counts
  if s.referenced a then
    [1] ++ pointBytes q.reference ++ [q.referenceMarks.byte]
    ++ presence 14 (fun t : TipPoint => pointBytes t.position ++ [t.marks.byte] ++ numberByte t.number) q.tip
  else List.replicate 29 0

/-- R37. Guard state: 0 REFERENCED, 1 BLIND. -/
def positionReadBody (a : Arm) (s : State) : Reply :=
  let r := s.arms.get a
  accept (axesBytes AxisRecord.bytes r.axes ++ pointBytes r.origin ++ [if s.referenced a then 0 else 1]
    ++ s.positionBytes a) s

def positionReadReq (arm : Byte) (s : State) : Reply :=
  match sideArg arm with
  | none => refuse .badArgument s
  | some a => if s.absentArm a then refuse .notPresent s else positionReadBody a s

end Sys2Proof.Machine
end

