-- ==== Sys2Proof/Machine/AxisCommands.lean ====
section
/-! DEFINITION. The commands of the axis unit (spec 02). -/

namespace Sys2Proof.Machine

/-- AXIS_HOME (spec 02, R30). -/
def execAxisHome (arm axis : Byte) (reference : Word) (s : State) : Host.Outcome State Fault Refusal :=
  done (s.request (.axisHome arm axis reference) (axisHomeReq arm axis reference))

/-- ARM_SETUP (spec 02, R33, R34). -/
def execArmSetup (arm : Byte) (origin : Axes Word) (direction : Axes Byte) (s0 : Axes Word)
    (s : State) : Host.Outcome State Fault Refusal :=
  done (s.request (.armSetup arm origin direction s0) (armSetupReq arm origin direction s0))

/-- POSITION_READ (spec 02, R37). -/
def execPositionRead (arm : Byte) (s : State) : Host.Outcome State Fault Refusal :=
  done (s.request (.positionRead arm) (positionReadReq arm))

/-- QUADRATURE_PHASE: the sampler of an axis takes a phase (spec 02, R26 to R29). -/
def execQuadraturePhase (a : Arm) (i : Axis) (p : Phase) (s : State) : Host.Outcome State Fault Refusal :=
  done (s.armEvent a fun s => s.takePhase a i p)

/-- REFERENCE_MARK: the reference mark of an axis (spec 02, R31). -/
def execReferenceMark (a : Arm) (i : Axis) (s : State) : Host.Outcome State Fault Refusal :=
  done (s.armEvent a fun s => s.takeMark a i)

end Sys2Proof.Machine
end

