-- ==== Sys2Proof/Machine/ChangeCommands.lean ====
section
/-! DEFINITION. The commands of the change sequencer: its requests, the messages of the arbiter, the step timer, the
head inputs and the identity reader (spec 08). -/

namespace Sys2Proof.Machine

/-- The module-present input takes a level (R136). -/
def State.moduleEdge (s : State) (a : Arm) (level : Bool) : State :=
  s.setHead a { s.head a with moduleInput := level }

/-- CHANGE (spec 08, R139 to R142). -/
def execChange (arm target allow : Byte) (s : State) : Host.Outcome State Fault Refusal :=
  done (s.event fun s => (s.request (.change arm target allow) (changeReq arm target allow)).settle)

/-- CHANGE_ABORT (spec 08, R153). -/
def execChangeAbort (arm : Byte) (s : State) : Host.Outcome State Fault Refusal :=
  done (s.event fun s => (s.request (.changeAbort arm) (changeAbortReq arm)).settle)

/-- CHANGE_READ (spec 08, R159). -/
def execChangeRead (arm : Byte) (s : State) : Host.Outcome State Fault Refusal :=
  done (s.request (.changeRead arm) (changeReadReq arm))

/-- GRANTED_MESSAGE: the change sequencer takes "granted" (spec 08, R141, R142). -/
def execGrantedMessage (a : Arm) (s : State) : Host.Outcome State Fault Refusal :=
  done (s.armEvent a fun s => (s.takeGrant a).settle)

/-- LAPSED_MESSAGE: the change sequencer takes "lapsed" (spec 08, R151). -/
def execLapsedMessage (a : Arm) (s : State) : Host.Outcome State Fault Refusal :=
  done (s.armEvent a fun s => (s.takeLapse a).settle)

/-- LOCKED_OUT_MESSAGE: the change sequencer takes "locked out" (spec 08, R141, R151). -/
def execLockedOutMessage (a : Arm) (s : State) : Host.Outcome State Fault Refusal :=
  done (s.armEvent a fun s => (s.takeLockout a).settle)

/-- STEP_TIMER_EXPIRY: the step timer of a change expires (spec 08, R138). -/
def execStepTimerExpiry (a : Arm) (s : State) : Host.Outcome State Fault Refusal :=
  done (s.armEvent a fun s => (s.stepExpiry a).settle)

/-- MODULE_PRESENT_EDGE: the module-present input takes a level; its debounce starts afresh (spec 08, R136). -/
def execModulePresentEdge (a : Arm) (level : Bool) (s : State) : Host.Outcome State Fault Refusal :=
  done (s.armEvent a fun s => s.moduleEdge a level)

/-- MODULE_PRESENT_CHANGE: the module-present input has held a new level for 20 ms (spec 08, R136, R158). -/
def execModulePresentChange (a : Arm) (s : State) : Host.Outcome State Fault Refusal :=
  done (s.armEvent a fun s => (s.moduleDebounced a).settle)

/-- IDENTITY_REPLY: a complete reply arrives on the head identity line (spec 08, R137). -/
def execIdentityReply (a : Arm) (moduleId : Word) (checkCorrect : Bool)
    (s : State) : Host.Outcome State Fault Refusal :=
  done (s.armEvent a fun s => (s.identityAnswer a moduleId checkCorrect).settle)

/-- IDENTITY_ATTEMPT_TIMEOUT: an attempt of an identity read has had no reply within 10 ms (spec 08, R137). -/
def execIdentityAttemptTimeout (a : Arm) (s : State) : Host.Outcome State Fault Refusal :=
  done (s.armEvent a fun s => (s.attemptTimeout a).settle)

end Sys2Proof.Machine
end

