-- ==== Sys2Proof/Machine/CompensationCommands.lean ====
section
/-! DEFINITION. The commands of the compensation engine (spec 04, spec 05). -/

namespace Sys2Proof.Machine

/-- GROUP_READ (spec 05, R72). -/
def execGroupRead (s : State) : Host.Outcome State Fault Refusal :=
  done (s.request .groupRead groupReadReq)

/-- COMP_SETUP (spec 05, R73). -/
def execCompSetup (alphaS : Two (Axes Word)) (alphaW : Word) (w0 : Axes Word)
    (s : State) : Host.Outcome State Fault Refusal :=
  done (s.request (.compSetup alphaS alphaW w0) (compSetupReq alphaS alphaW w0))

/-- COMP_READ (spec 05, R74). -/
def execCompRead (s : State) : Host.Outcome State Fault Refusal :=
  done (s.request .compRead compReadReq)

/-- CONVERT (spec 05, R95). -/
def execConvert (arm : Byte) (s : State) : Host.Outcome State Fault Refusal :=
  done (s.request (.convert arm) (convertReq arm))

/-- CHECK_POINT_FORMATION: the compensation engine takes a check-point formation that has been asked for (spec 05,
R92, R93). -/
def execCheckPointFormation (a : Arm) (s : State) : Host.Outcome State Fault Refusal :=
  done (s.armEvent a fun s => (s.form a).settle)

end Sys2Proof.Machine
end

