-- ==== Sys2Proof/Machine/LibraryRequests.lean ====
section
/-! DEFINITION. The requests of the probe library: TIP_WRITE, TIP_QUALIFY, TIP_UNQUALIFY, TIP_READ, TIP_FIND,
TIP_RETIRE and TIP_PURGE (spec 01, sections 1.2 to 1.5). -/

namespace Sys2Proof.Machine

/-- Where a module is placed by its home pocket's debounced occupancy (R8). -/
def State.locationByPocket (s : State) (p : Fin 20) : Location :=
  if (s.pocket p).occupied then .inPocket else .missing

/-! ### TIP_WRITE -/

/-- Another ACTIVE record has the module ID or the home pocket (R4). -/
def State.duplicates (s : State) (i : Fin 64) (id : Word) (p : Fin 20) : Bool :=
  (List.finRange 64).any fun j => j != i && (s.activeTip j).any fun t => t.moduleId == id || t.home == p

/-- Both arms' heads are FOREIGN with the module ID (R7, test 5). -/
def State.bothForeign (s : State) (id : Word) : Bool :=
  s.present .one && (s.head .zero).state == .foreignModule (some id)
    && (s.head .one).state == .foreignModule (some id)

/-- A record is placed on an arm by a granted claim, or by its home pocket (R8, R9). -/
def State.placeTip (s : State) (i : Fin 64) (t : Tip) (claimed : Option Arm) : State :=
  match claimed with
  | some a => (s.loseMounted a (some i)).setTip i (.active { t with location := .onArm a })
  | none =>
    let loc := s.locationByPocket t.home
    let s := s.setTip i (.active { t with location := loc })
    if loc = .inPocket then s.clearForeign t.home else s

def State.tipWriteReply (s : State) (i : Fin 64) : Reply :=
  match s.activeTip i with
  | some t => accept ([byteOf i.val, 1] ++ t.location.bytes) s
  | none => accept [byteOf i.val, 0, 0, 0] s

/-- TIP_WRITE on a VACANT slot (R8). -/
def State.createTip (s : State) (i : Fin 64) (id : Word) (cls : TipClass) (p : Fin 20) : State :=
  let (claimed, s) := s.registrationClaim id
  s.placeTip i { moduleId := id, cls, home := p, location := .missing, entries := .both none } claimed

/-- TIP_WRITE on an ACTIVE record (R9). -/
def State.rewriteTip (s : State) (i : Fin 64) (t : Tip) (id : Word) (cls : TipClass) (p : Fin 20) : State :=
  let newId := id != t.moduleId
  let newHome := p != t.home
  let entries := if newId then .both none else t.entries
  let u : Tip := { t with moduleId := id, cls, home := p, entries }
  if newId && t.location == .missing then
    let (claimed, s) := s.registrationClaim id
    s.placeTip i u claimed
  else if newHome then
    let s := s.placeTip i u none
    if t.location = .inPocket ∧ s.locationByPocket p = .missing then s.raise .tip else s
  else s.setTip i (.active u)

/-- R7, after the argument checks. -/
def tipWriteBody (i : Fin 64) (id : Word) (cls : TipClass) (p : Fin 20) (s : State) : Reply :=
  match s.library.tips[i] with
  | .retired _ => refuse .wrongState s
  | .vacant =>
    if (s.pocket p).state = .vacant then refuse .notFound s
    else if s.duplicates i id p then refuse .duplicate s
    else if s.bothForeign id then refuse .duplicate s
    else (s.createTip i id cls p).tipWriteReply i
  | .active t =>
    if (s.pocket p).state = .vacant then refuse .notFound s
    else if (id ≠ t.moduleId ∨ p ≠ t.home)
        ∧ (t.location ≠ .inPocket ∧ t.location ≠ .missing ∨ s.tipNamed i) then refuse .inUse s
    else if s.duplicates i id p then refuse .duplicate s
    else if t.location = .missing ∧ id ≠ t.moduleId ∧ s.bothForeign id then refuse .duplicate s
    else (s.rewriteTip i t id cls p).tipWriteReply i

/-- R6. -/
def tipWriteReq (tip : Byte) (id : Word) (cls home : Byte) (s : State) : Reply :=
  match tipArg tip, classArg cls, pocketArg home with
  | some i, some c, some p => tipWriteBody i id c p s
  | _, _, _ => refuse .badArgument s

/-! ### TIP_QUALIFY -/

/-- The value of HEAD(arm) (R10). -/
def State.headValue (s : State) (a : Arm) : Option Int := (s.scanner.groups.head.get a).state.value

/-- R11. -/
def qualifyOffset (dx dy dz : Word) : Point :=
  (⟨dx, dy, dz⟩ : Axes Word).map fun w => clamp (-Config.offsetMax) Config.offsetMax w.toInt

def qualifyClamped (dx dy dz r : Word) : Bool :=
  ((⟨dx, dy, dz⟩ : Axes Word).map fun w => outside (-Config.offsetMax) Config.offsetMax w.toInt).any
    || outside 0 Config.radiusMax r.toInt

def qualifyStore (i : Fin 64) (t : Tip) (a : Arm) (e : Entry) (clamped : Bool) (s : State) : Reply :=
  { status := okOr clamped, payload := [byteOf i.val, armByte a] ++ entryBlock (some e),
    state := s.setTip i (.active { t with entries := t.entries.set a (some e) }) }

/-- R10 and R11, after the argument checks; `temp` is none for "current head group". -/
def tipQualifyBody (i : Fin 64) (a : Arm) (dx dy dz r : Word) (temp : Option Word) (s : State) : Reply :=
  match s.activeTip i with
  | none => refuse .wrongState s
  | some t =>
    if t.location = .inTransit .zero ∨ t.location = .inTransit .one then refuse .inUse s
    else
      let offset := qualifyOffset dx dy dz
      let radius := clamp 0 Config.radiusMax r.toInt
      match temp with
      | some w =>
        qualifyStore i t a
          { offset, radius, temperature := clamp 0 Config.temperatureMax w.toInt, state := .qualified }
          (qualifyClamped dx dy dz r || outside 0 Config.temperatureMax w.toInt) s
      | none =>
        match s.headValue a with
        | none => refuse .wrongState s
        | some v =>
          qualifyStore i t a { offset, radius, temperature := v, state := .qualified } (qualifyClamped dx dy dz r) s

/-- R6. Temperature source: 0 explicit value, 1 current head group. -/
def tipQualifyReq (tip arm : Byte) (dx dy dz r : Word) (source : Byte) (temp : Word) (s : State) : Reply :=
  match tipArg tip, sideArg arm, yesNoArg source with
  | some i, some a, some current =>
    if s.absentArm a then refuse .notPresent s
    else tipQualifyBody i a dx dy dz r (if current then none else some temp) s
  | _, _, _ => refuse .badArgument s

/-! ### TIP_UNQUALIFY -/

/-- R12, after the argument checks. -/
def tipUnqualifyBody (i : Fin 64) (a : Arm) (s : State) : Reply :=
  match s.activeTip i with
  | none => refuse .wrongState s
  | some t =>
    if t.location = .onArm a ∨ t.location = .inTransit a ∨ s.tipTargetOf a i then refuse .inUse s
    else
      match t.entries.get a with
      | none => { status := .nothing, payload := [], state := s }
      | some _ => accept [] (s.setTip i (.active { t with entries := t.entries.set a none }))

/-- R6. -/
def tipUnqualifyReq (tip arm : Byte) (s : State) : Reply :=
  match tipArg tip, sideArg arm with
  | some i, some a => if s.absentArm a then refuse .notPresent s else tipUnqualifyBody i a s
  | _, _ => refuse .badArgument s

/-! ### TIP_READ and TIP_FIND -/

/-- R13. -/
def tipReadReq (tip : Byte) (s : State) : Reply :=
  match tipArg tip with
  | some i => accept (tipRecord i s.library.tips[i]) s
  | none => refuse .badArgument s

/-- A pattern of TIP_FIND; an absent field is "any" (R14). -/
structure Pattern where
  state : Option (Fin 3)
  cls : Option TipClass
  loc : Option (Fin 4)
  entry : Two (Option Bool)
  quality : Two (Option EntryState)
deriving DecidableEq, Repr

/-- A given field agrees with the record's value; a field not given agrees with any. -/
def given {α : Type} [DecidableEq α] (field : Option α) (v : α) : Bool :=
  match field with
  | none => true
  | some w => decide (w = v)

/-- The entry fields of a pattern for one arm against the record's entry (R14). -/
def Pattern.entryMatches (q : Pattern) (a : Arm) (e : Option Entry) : Bool :=
  given (q.entry.get a) e.isSome
    && match q.quality.get a with
       | none => true
       | some st => e.any fun e => e.state == st

def Pattern.fieldsMatch (q : Pattern) (t : Tip) : Bool :=
  given q.cls t.cls && (match q.loc with
    | none => true
    | some k => decide (byteOf k.val = t.location.code))
    && q.entryMatches .zero (t.entries.get .zero) && q.entryMatches .one (t.entries.get .one)

/-- Every field but the record state is "any". -/
def Pattern.fieldsAny (q : Pattern) : Bool :=
  q.cls.isNone && q.loc.isNone && q.entry.zero.isNone && q.entry.one.isNone && q.quality.zero.isNone
    && q.quality.one.isNone

/-- R14. -/
def Pattern.accepts (q : Pattern) (slot : TipSlot) : Bool :=
  match slot with
  | .vacant => q.state == some 0 && q.fieldsAny
  | .active t => given q.state 1 && q.fieldsMatch t
  | .retired t => given q.state 2 && q.fieldsMatch t

/-- R15. -/
def State.findTips (s : State) (q : Pattern) (cursor : Option (Fin 64)) : List (Fin 64) :=
  (List.finRange 64).filter fun i =>
    (match cursor with
      | none => true
      | some c => decide (c < i)) && q.accepts s.library.tips[i]

/-- The first eight tip numbers found and the "more" mark, 1 when set (R15; log 11). -/
def tipFindBody (q : Pattern) (cursor : Option (Fin 64)) (s : State) : Reply :=
  let found := s.findTips q cursor
  accept (listBytes numberByte (found.take Config.findMax) ++ [markByte (decide (Config.findMax < found.length))]) s

/-- The pattern the bytes of a TIP_FIND give (R14, R201). -/
def patternArg (state cls loc entry0 quality0 entry1 quality1 : Byte) : Option Pattern := do
  let state ← optionalArg tipStateArg state
  let cls ← optionalArg classArg cls
  let loc ← optionalArg locationKindArg loc
  let e0 ← optionalArg yesNoArg entry0
  let q0 ← optionalArg entryStateArg quality0
  let e1 ← optionalArg yesNoArg entry1
  let q1 ← optionalArg entryStateArg quality1
  return { state, cls, loc, entry := ⟨e0, e1⟩, quality := ⟨q0, q1⟩ }

/-- R6: a field of arm 1 given in a one-arm build is refused NOT_PRESENT. -/
def tipFindReq (state cls loc entry0 quality0 entry1 quality1 cursor : Byte) (s : State) : Reply :=
  match patternArg state cls loc entry0 quality0 entry1 quality1, optionalArg tipArg cursor with
  | some q, some c =>
    if s.oneArm ∧ (q.entry.one.isSome ∨ q.quality.one.isSome) then refuse .notPresent s else tipFindBody q c s
  | _, _ => refuse .badArgument s

/-! ### TIP_RETIRE and TIP_PURGE -/

/-- R16, after the argument checks. -/
def tipRetireBody (i : Fin 64) (s : State) : Reply :=
  match s.activeTip i with
  | none => refuse .wrongState s
  | some t =>
    if t.location ≠ .inPocket ∧ t.location ≠ .missing ∨ s.tipNamed i then refuse .inUse s
    else accept [] (s.setTip i (.retired t))

def tipRetireReq (tip : Byte) (s : State) : Reply :=
  match tipArg tip with
  | some i => tipRetireBody i s
  | none => refuse .badArgument s

/-- R17. -/
def tipPurgeBody (i : Fin 64) (s : State) : Reply :=
  match s.library.tips[i] with
  | .retired _ => accept [] (s.setTip i .vacant)
  | _ => refuse .wrongState s

def tipPurgeReq (tip : Byte) (s : State) : Reply :=
  match tipArg tip with
  | some i => tipPurgeBody i s
  | none => refuse .badArgument s

end Sys2Proof.Machine
end

