-- ==== Sys2Proof/Machine/LibraryCommands.lean ====
section
/-! DEFINITION. The commands of the probe library: its requests, the reports of the change sequencer, the registration
claim, and the two reports of the rack controller (spec 01). -/

namespace Sys2Proof.Machine

/-- The answer to a registration claim (R8). -/
def claimAnswer : Option Arm → Answer
  | some a => .claimGranted a
  | none => .claimRefused

/-- A report of the rack controller about a home pocket. A VACANT pocket is not compared, so none comes from it
(spec 07, R114). -/
def State.homeReport (s : State) (p : Fin 20) (r : Applied) : State :=
  if (s.pocket p).state = .vacant then s else State.answered r .applied .refused

/-- TIP_WRITE (spec 01, R6 to R9). -/
def execTipWrite (tip : Byte) (moduleId : Word) (cls home : Byte) (s : State) : Host.Outcome State Fault Refusal :=
  done (s.request (.tipWrite tip moduleId cls home) (tipWriteReq tip moduleId cls home))

/-- TIP_QUALIFY (spec 01, R10, R11). -/
def execTipQualify (tip arm : Byte) (dx dy dz r : Word) (source : Byte) (temp : Word)
    (s : State) : Host.Outcome State Fault Refusal :=
  done (s.request (.tipQualify tip arm dx dy dz r source temp) (tipQualifyReq tip arm dx dy dz r source temp))

/-- TIP_UNQUALIFY (spec 01, R12). -/
def execTipUnqualify (tip arm : Byte) (s : State) : Host.Outcome State Fault Refusal :=
  done (s.request (.tipUnqualify tip arm) (tipUnqualifyReq tip arm))

/-- TIP_READ (spec 01, R13). -/
def execTipRead (tip : Byte) (s : State) : Host.Outcome State Fault Refusal :=
  done (s.request (.tipRead tip) (tipReadReq tip))

/-- TIP_FIND (spec 01, R14, R15). -/
def execTipFind (state cls loc entry0 quality0 entry1 quality1 cursor : Byte)
    (s : State) : Host.Outcome State Fault Refusal :=
  done (s.request (.tipFind state cls loc entry0 quality0 entry1 quality1 cursor)
      (tipFindReq state cls loc entry0 quality0 entry1 quality1 cursor))

/-- TIP_RETIRE (spec 01, R16). -/
def execTipRetire (tip : Byte) (s : State) : Host.Outcome State Fault Refusal :=
  done (s.request (.tipRetire tip) (tipRetireReq tip))

/-- TIP_PURGE (spec 01, R17). -/
def execTipPurge (tip : Byte) (s : State) : Host.Outcome State Fault Refusal :=
  done (s.request (.tipPurge tip) (tipPurgeReq tip))

/-- REGISTRATION_CLAIM: the library makes a registration claim; the change sequencer answers it (spec 01, R8). -/
def execRegistrationClaim (moduleId : Word) (s : State) : Host.Outcome State Fault Refusal :=
  done (s.event fun s => (s.registrationClaim moduleId).2.setAnswer (claimAnswer (s.registrationClaim moduleId).1))

/-- STOW_RELEASE_BEGINS: the library takes "stow release begins" (spec 01, R18). -/
def execStowReleaseBegins (a : Arm) (tip : Fin 64) (s : State) : Host.Outcome State Fault Refusal :=
  done (s.armEvent a fun s => State.answered (s.stowReleaseBegins a tip) .applied .refused)

/-- STOW_TRANSFER_COMPLETE: the library takes "stow transfer complete" (spec 01, R18). -/
def execStowTransferComplete (a : Arm) (tip : Fin 64) (s : State) : Host.Outcome State Fault Refusal :=
  done (s.armEvent a fun s => State.answered (s.stowTransferComplete a tip) .applied .refused)

/-- PICK_BEGINS: the library takes "pick begins" (spec 01, R18). -/
def execPickBegins (a : Arm) (tip : Fin 64) (s : State) : Host.Outcome State Fault Refusal :=
  done (s.armEvent a fun s => State.answered (s.pickBegins a tip) .applied .refused)

/-- IDENTITY_MATCHED: the library takes "identity matched" (spec 01, R18). -/
def execIdentityMatched (a : Arm) (tip : Fin 64) (s : State) : Host.Outcome State Fault Refusal :=
  done (s.armEvent a fun s => State.answered (s.identityMatched a tip) .applied .refused)

/-- TRANSIT_RESOLVED: the library takes "transit resolved" (spec 01, R18). -/
def execTransitResolved (a : Arm) (tip : Fin 64) (occupied : Bool) (s : State) : Host.Outcome State Fault Refusal :=
  done (s.armEvent a fun s => State.answered (s.transitResolved a tip occupied) .applied .refused)

/-- IDENTITY_REPORT: the library takes an identity report (spec 01, R19). -/
def execIdentityReport (a : Arm) (moduleId : Option Word) (s : State) : Host.Outcome State Fault Refusal :=
  done (s.armEvent a fun s => State.answered (s.identityReport a moduleId) .matched .notMatched)

/-- MODULE_LOST: the library takes "module lost" (spec 01, R19). -/
def execModuleLost (a : Arm) (s : State) : Host.Outcome State Fault Refusal :=
  done (s.armEvent a fun s => State.answered (s.moduleLost a) .applied .refused)

/-- HOME_POCKET_SEEN_EMPTY: the library takes "home pocket seen empty", and the rack controller its answer (spec 01,
R20, R118). -/
def execHomePocketSeenEmpty (p : Fin 20) (s : State) : Host.Outcome State Fault Refusal :=
  done (s.event fun s => s.homeReport p (s.seenEmpty p))

/-- HOME_POCKET_SEEN_OCCUPIED: the library takes "home pocket seen occupied", and the rack controller its answer
(spec 01, R20, R118). -/
def execHomePocketSeenOccupied (p : Fin 20) (s : State) : Host.Outcome State Fault Refusal :=
  done (s.event fun s => s.homeReport p (s.seenOccupied p))

end Sys2Proof.Machine
end

