-- ==== Sys2Proof/Machine/Scanner.lean ====
section
/-! DEFINITION. The thermal scanner (spec 03): the outcome of a transaction, the sensor records, the passes of a sweep
and the line checks on the two strings, the sweep end, the scan timer, and the scanner's requests. -/

namespace Sys2Proof.Machine

/-! ### The outcome of a transaction (R41, R42, R49) -/

/-- How a transaction ends on its line: without a reply, or with a code, a ready mark and a parity mark (R41). -/
inductive LineEnd where
  | silent
  | reply (code : BitVec 16) (ready parity : Bool)
deriving DecidableEq, Repr

/-- R42, with the converted value of a reading that has one. -/
inductive Reading where
  | noReply
  | badParity
  | notReady
  | outOfRange (v : Int)
  | good (v : Int)
deriving DecidableEq, Repr

def setBits (code : BitVec 16) : Nat := (List.range 16).countP fun i => code.getLsbD i

/-- The number of set bits among code, ready mark and parity mark is even (R41). -/
def parityRight (code : BitVec 16) (ready parity : Bool) : Bool :=
  (setBits code + ready.toNat + parity.toNat) % 2 == 0

/-- R49. -/
def convertCode (code : BitVec 16) (trim : Int) : Int := roundDiv (code.toInt * 125) 8 + trim

def classify (trim : Int) : LineEnd → Reading
  | .silent => .noReply
  | .reply code ready parity =>
    if !parityRight code ready parity then .badParity
    else if !ready then .notReady
    else
      let v := convertCode code trim
      if outside 0 Config.temperatureMax v then .outOfRange v else .good v

/-- The class in the outcome window; NOT_READY is not entered (R42). -/
def Reading.judged : Reading → Option Judged
  | .good _ => some .good
  | .notReady => none
  | _ => some .bad

/-- The converted value a reading carries (R49). -/
def Reading.value : Reading → Option Int
  | .good v | .outOfRange v => some v
  | _ => none

/-! ### The sensor record (R50 to R53) -/

/-- The sweep reads ACTIVE and FAILED records (R43). -/
def Sensor.readable (r : Sensor) : Bool := r.state != .retired

/-- R50. -/
def filterStep (shift : Nat) (filtered : Option Int) (v : Int) : Int :=
  match filtered with
  | none => v
  | some f => f + roundDiv (v - f) (2 ^ shift)

/-- Last converted value and filtered value after a reading (R49, R50). -/
def Sensor.value (r : Sensor) (x : Reading) : Sensor :=
  match x with
  | .good v => { r with last := some v, filtered := some (filterStep r.shift r.filtered v) }
  | .outOfRange v => { r with last := some v }
  | _ => r

/-- The newest entry joins; beyond `w` entries the oldest leaves (R52). -/
def pushWindow (w : Nat) (l : List Judged) (o : Judged) : List Judged := (l ++ [o]).drop ((l ++ [o]).length - w)

def badEntries (l : List Judged) : Nat := l.countP (· == .bad)

/-- The state after an append: FAILED by K BAD entries (R52), ACTIVE again by W GOOD ones (R53). -/
def windowState (w k : Nat) (st : SensorState) (l : List Judged) : SensorState :=
  match st with
  | .active => if k ≤ badEntries l then .failed else .active
  | .failed => if l.length = w ∧ badEntries l = 0 then .active else .failed
  | .retired => .retired

/-- An outcome enters the window (R52, R53). -/
def Sensor.enter (r : Sensor) (w k : Nat) (o : Judged) : Sensor :=
  let l := pushWindow w r.window o
  { r with window := l, badCount := if o = .bad then bump r.badCount else r.badCount,
           state := windowState w k r.state l }

/-- A sweep's reading of a record (R49 to R53). -/
def Sensor.take (r : Sensor) (w k : Nat) (x : Reading) : Sensor :=
  match x.judged with
  | some o => (r.value x).enter w k o
  | none => r.value x

def State.sensor (s : State) (g : Strg) (i : Fin 16) : Option Sensor := (s.scanner.sensors.get g)[i]

def State.string (s : State) (g : Strg) : StringControl := s.scanner.strings.get g

/-- A sweep's transaction has ended: the record at its address takes the reading unless it is stale (R43, R52). SENSOR is
raised when the record becomes FAILED. -/
def State.sweepReading (s : State) (g : Strg) (t : Transaction) (e : LineEnd) : State :=
  match s.sensor g t.address with
  | none => s
  | some r =>
    if t.stale ∨ !r.readable then s
    else
      let c := s.string g
      let r' := r.take c.windowLength c.faultCount (classify r.trim e)
      let s := s.setSensor g t.address (some r')
      if r.state = .active ∧ r'.state = .failed then s.raise .sensor else s

/-! ### Line checks (R61 to R63) -/

/-- A reading of a running check (R62). -/
def LineCheck.note (c : LineCheck) (i : Fin 16) (registered : Bool) (x : Reading) : LineCheck :=
  if registered then
    if x.judged = some .bad then { c with failedPasses := upd c.failedPasses i (c.failedPasses[i] + 1) } else c
  else if x.judged = some .good then { c with answered := upd c.answered i true }
  else c

/-- The lowest address whose count of failed passes is not 0 (R62). -/
def LineCheck.firstFailing (c : LineCheck) : Option (Fin 16) := (List.finRange 16).find? fun i => c.failedPasses[i] != 0

/-- The check goes on to its next address, to its next pass, or ends DONE or FAILED (R62, R63). -/
def LineCheck.advance (c : LineCheck) (i : Fin 16) : LineCheck :=
  if h : i.val + 1 < 16 then { c with next := ⟨i.val + 1, h⟩ }
  else
    let c := { c with next := 0, completed := c.completed + 1 }
    if c.requested ≤ c.completed then { c with state := if c.firstFailing.isSome then .failed else .done } else c

def State.setCheck (s : State) (g : Strg) (c : LineCheck) : State := s.setString g { s.string g with check := c }

/-- A line check's transaction has ended (R62). LINE_CHECK is raised when the check ends (R63). -/
def State.checkReading (s : State) (g : Strg) (t : Transaction) (e : LineEnd) : State :=
  let c := (s.string g).check
  let record := (s.sensor g t.address).filter Sensor.readable
  let x := classify ((record.map Sensor.trim).getD 0) e
  let c' := (c.note t.address record.isSome x).advance t.address
  let s := s.setCheck g c'
  if c'.state = .running then s else s.raise .lineCheck

/-! ### Transactions (R54, R60, R62, R65) -/

/-- The lowest readable address above the last one read in this sweep (R54). -/
def State.nextAddress (s : State) (g : Strg) (last : Option (Fin 16)) : Option (Fin 16) :=
  (List.finRange 16).find? fun i =>
    (match last with
      | none => true
      | some l => decide (l < i)) && (s.sensor g i).any Sensor.readable

/-- No transaction begins while FRZ is active (R60) or before the limit after RESTART has passed (R65). -/
def State.mayBegin (s : State) (g : Strg) : Bool := !s.frz && !(s.string g).limit

def State.begin (s : State) (g : Strg) (i : Fin 16) (owner : Owner) (pass : Pass) : State :=
  s.setString g { s.string g with transaction := some { address := i, owner, stale := false }, pass }

/-- A running check on a string whose pass has ended begins its next transaction (R61, R62). -/
def State.kickCheck (s : State) (g : Strg) : State :=
  let c := s.string g
  if c.check.state = .running ∧ s.mayBegin g then s.begin g c.check.next .lineCheck .ended else s

/-- A string without a transaction goes on: its pass chooses the next address, or ends when none remains (R54); a string
without a pass serves its line check. -/
def State.kick (s : State) (g : Strg) : State :=
  let c := s.string g
  if c.transaction.isSome then s
  else
    match c.pass with
    | .ended => s.kickCheck g
    | .reading last =>
      match s.nextAddress g last with
      | none => (s.setString g { c with pass := .ended }).kickCheck g
      | some i => if s.mayBegin g then s.begin g i .sweep (.reading (some i)) else s

/-! ### The sweep (R54, R55, R57, R67) -/

/-- The filtered values of a group's contributing set on one string (R67). -/
def contributionsOn (v : Vector (Option Sensor) 16) (g : TempGroup) : List Int :=
  v.toList.filterMap fun r => r.bind fun r =>
    if r.state = .active ∧ r.binding = some g then r.filtered else none

def State.contributions (s : State) (g : TempGroup) : List Int :=
  contributionsOn s.scanner.sensors.zero g ++ contributionsOn s.scanner.sensors.one g

/-- The mean of the contributing set, rounded (R67). -/
def candidate (l : List Int) : Option Int := if l.isEmpty then none else some (roundDiv l.sum l.length)

/-- The groups that become HELD at this sweep end (R68). -/
def State.newlyHeld (s : State) : List TempGroup :=
  allGroups.filter fun g => (s.scanner.groups.get g).state.isLive && (s.contributions g).isEmpty

/-- The groups that age after this sweep end: those that become LIVE age no longer, and those that become HELD have their
next full second last (R68, R69; log 9). -/
def State.ageingNext (s : State) : List (List TempGroup) :=
  ((s.scanner.ageing.map fun batch => batch.filter fun g => (s.contributions g).isEmpty) ++ [s.newlyHeld]).filter
    fun batch => !batch.isEmpty

/-- Step 1 of the sweep-end processing (R67, R68, R69). -/
def State.formGroups (s : State) : State :=
  (s.setGroups (s.scanner.groups.mapAll fun g r =>
    let l := s.contributions g
    { state := r.state.sweepEnd (candidate l), contributors := l.length })).setAgeing s.ageingNext

def State.setScan (s : State) (st : ScanState) (timer : Timer) : State :=
  { s with scanner := { s.scanner with state := st, timer } }

/-- The scan transition at a sweep end (R57). -/
def State.scanTransition (s : State) : State :=
  if s.scanner.state = .sweeping ∧ s.scanner.mode = .continuous then s.setScan .waiting s.scanner.timer
  else s.setScan .stopped none

/-- The sweep-end processing (R55). -/
def State.sweepEnd (s : State) : State := ((s.formGroups.recompute).driftAge).scanTransition

def State.sweepInFlight (s : State) : Bool := s.scanner.state == .sweeping || s.scanner.state == .stopping

/-- A sweep ends when both of its passes have ended (R55). -/
def State.endIfSwept (s : State) : State :=
  if s.sweepInFlight ∧ (s.string .zero).pass = .ended ∧ (s.string .one).pass = .ended then s.sweepEnd else s

/-- A string goes on, and the sweep ends if that was its last pass. -/
def State.goOn (s : State) (g : Strg) : State := (s.kick g).endIfSwept

/-- A sweep's pass starts on a string; it ends at once while the string's line check is RUNNING (R54). -/
def State.startPass (s : State) (g : Strg) : State :=
  let c := s.string g
  if c.check.state = .running then s else s.setString g { c with pass := .reading none }

/-- A sweep begins on both strings (R54, R56, R58). -/
def State.beginSweep (s : State) (timer : Timer) : State :=
  let s := s.setScan .sweeping timer
  ((((s.startPass .zero).startPass .one).kick .zero).kick .one).endIfSwept

/-- The transaction of a string ends (R41). -/
def State.transactionEnds (s : State) (g : Strg) (e : LineEnd) : State :=
  match (s.string g).transaction with
  | none => s
  | some t =>
    let s := s.setString g { s.string g with transaction := none }
    let s := match t.owner with
      | .sweep => s.sweepReading g t e
      | .lineCheck => s.checkReading g t e
    s.goOn g

/-- An expiry of the scan timer (R58), which does not run while FRZ is active (R60). -/
def State.scanExpiry (s : State) : State :=
  if s.scanner.timer.isSome ∧ !s.frz then
    let timer := some s.scanner.period
    if s.scanner.state = .waiting ∧ s.scanner.mode = .continuous then s.beginSweep timer
    else
      let s := s.setScan s.scanner.state timer
      if s.scanner.state = .sweeping ∧ s.scanner.mode = .continuous then
        { s with scanner := { s.scanner with overruns := bump s.scanner.overruns } }
      else s
  else s

/-- FRZ becomes inactive: each pass and check that waited begins its next transaction (R60). -/
def State.thaw (s : State) : State :=
  (((({ s with frz := false } : State).kick .zero).kick .one)).endIfSwept

/-- The 9 ms limit of a transaction abandoned by RESTART has passed (R65). -/
def State.limitEnds (s : State) (g : Strg) : State := (s.setString g { s.string g with limit := false }).goOn g

/-! ### Requests: sensors (R44 to R48) -/

/-- R46. -/
def capacity : TempGroup → Nat
  | .workpiece => 8
  | _ => 4

def namesArmOne : TempGroup → Bool
  | .scale .one _ | .head .one => true
  | _ => false

/-- Whether a record is a member of the group (R46). -/
def memberOf (r : Option Sensor) (g : TempGroup) : Bool := r.any fun r => r.binding == some g && r.readable

/-- The capacity test (R46). -/
def State.groupFull (s : State) (r : Option Sensor) (binding : Option TempGroup) : Bool :=
  binding.any fun g => !memberOf r g && decide (capacity g ≤ s.members g)

/-- A sweep's transaction in flight at the address becomes stale (R43). -/
def State.makeTransactionStale (s : State) (g : Strg) (i : Fin 16) : State :=
  match (s.string g).transaction with
  | some t =>
    if t.address = i ∧ t.owner = .sweep then
      s.setString g { s.string g with transaction := some { t with stale := true } }
    else s
  | none => s

/-- A record registered afresh (R44). -/
def Sensor.fresh (binding : Option TempGroup) (trim : Int) (shift : Nat) : Sensor :=
  { state := .active, binding, trim, shift, last := none, filtered := none, window := [], badCount := 0 }

/-- A registered record changed (R45). -/
def Sensor.rewrite (r : Sensor) (binding : Option TempGroup) (trim : Int) (shift : Nat) : Sensor :=
  if trim = r.trim then { r with binding, shift }
  else { r with binding, trim, shift, last := none, filtered := none }

/-- SENSOR_WRITE as accepted (R44, R45). -/
def State.writeSensor (s : State) (g : Strg) (i : Fin 16) (binding : Option TempGroup) (trim : Int) (shift : Nat) :
    State :=
  match (s.sensor g i).filter Sensor.readable with
  | some r => s.setSensor g i (some (r.rewrite binding trim shift))
  | none => (s.setSensor g i (some (Sensor.fresh binding trim shift))).makeTransactionStale g i

def trimArg (w : Word) : Int := clamp (-Config.trimMax) Config.trimMax w.toInt

def shiftArg (b : Byte) : Nat := min b.toNat Config.shiftMax

def sensorWriteBody (g : Strg) (i : Fin 16) (binding : Option TempGroup) (trim : Word) (shift : Byte) (s : State) :
    Reply :=
  if s.oneArm ∧ binding.any namesArmOne then refuse .notPresent s
  else if s.groupFull (s.sensor g i) binding then refuse .full s
  else
    let s := s.writeSensor g i binding (trimArg trim) (shiftArg shift)
    { status := okOr (outside (-Config.trimMax) Config.trimMax trim.toInt || decide (Config.shiftMax < shift.toNat)),
      payload := sensorRecord g i (s.sensor g i), state := s }

def sensorWriteReq (string address binding : Byte) (trim : Word) (shift : Byte) (s : State) : Reply :=
  match sideArg string, addressArg address, groupArg binding with
  | some g, some i, some b => sensorWriteBody g i b trim shift s
  | _, _, _ => refuse .badArgument s

/-- R47. -/
def sensorRetireReq (string address : Byte) (s : State) : Reply :=
  match sideArg string, addressArg address with
  | some g, some i =>
    match (s.sensor g i).filter Sensor.readable with
    | none => refuse .wrongState s
    | some r =>
      accept [] ((s.setSensor g i (some { r with state := .retired, binding := none })).makeTransactionStale g i)
  | _, _ => refuse .badArgument s

/-- R48. -/
def sensorReadReq (string address clear : Byte) (s : State) : Reply :=
  match sideArg string, addressArg address, yesNoArg clear with
  | some g, some i, some c =>
    let r := s.sensor g i
    accept (sensorRecord g i r) (if c then s.setSensor g i (r.map fun r => { r with badCount := 0 }) else s)
  | _, _, _ => refuse .badArgument s

/-! ### Requests: the scan (R56, R59) -/

def ScanState.code : ScanState → Byte
  | .stopped => 0
  | .sweeping => 1
  | .waiting => 2
  | .stopping => 3

def ScanMode.code : ScanMode → Byte
  | .continuous => 0
  | .single => 1
  | .stop => 2

/-- The byte of a check state. DESIGN CHOICE (log 11): neither section 11.3 nor a rule lists the check states in an order;
this is the order in which the table of R61 reaches them. -/
def CheckState.code : CheckState → Byte
  | .idle => 0
  | .running => 1
  | .done => 2
  | .failed => 3

/-- The table of R56, with the mode and the period already stored. -/
def State.scanCommand (s : State) (m : ScanMode) : State :=
  let started := some s.scanner.period
  match s.scanner.state, m with
  | .stopped, .continuous | .stopped, .single => s.beginSweep started
  | .stopped, .stop => s
  | .sweeping, .continuous | .sweeping, .single => s
  | .sweeping, .stop => s.setScan .stopping none
  | .waiting, .continuous => s
  | .waiting, .single => s.beginSweep s.scanner.timer
  | .waiting, .stop => s.setScan .stopped none
  | .stopping, .continuous | .stopping, .single => s.setScan .sweeping started
  | .stopping, .stop => s

def clampNat (lo hi n : Nat) : Nat := max lo (min hi n)

/-- R56; `period` is none when it was omitted. -/
def scanControlBody (m : ScanMode) (period : Option Word) (s : State) : Reply :=
  let stored := (period.map fun w => clampNat 100 60000 w.toNat).getD s.scanner.period
  let clamped := period.any fun w => clampNat 100 60000 w.toNat != w.toNat
  let s := ({ s with scanner := { s.scanner with mode := m, period := stored } } : State).scanCommand m
  { status := okOr clamped, payload := [s.scanner.state.code, s.scanner.mode.code] ++ natBytes s.scanner.period,
    state := s }

def scanControlReq (mode given : Byte) (period : Word) (s : State) : Reply :=
  match scanModeArg mode, yesNoArg given with
  | some m, some g => scanControlBody m (if g then some period else none) s
  | _, _ => refuse .badArgument s

def StringControl.scanBytes (c : StringControl) : List Byte :=
  natBytes c.windowLength ++ natBytes c.faultCount ++ [c.check.state.code]

/-- R59. -/
def scanReadReq (s : State) : Reply :=
  let r := s.scanner
  accept ([r.state.code, r.mode.code] ++ natBytes r.period ++ timerBytes r.timer ++ [yesNo s.frz] ++ twoBytes r.overruns
    ++ r.strings.zero.scanBytes ++ r.strings.one.scanBytes) s

/-! ### Requests: line checks (R61, R63) -/

/-- LINE_CHECK as accepted (R61). A pass that waits between transactions ends at once. -/
def State.startCheck (s : State) (g : Strg) (passes : Nat) : State :=
  let c := s.string g
  let check : LineCheck := { LineCheck.reset with state := .running, requested := passes }
  let pass := if c.transaction.isSome then c.pass else .ended
  (s.setString g { c with check, pass }).goOn g

def lineCheckReq (string passes : Byte) (s : State) : Reply :=
  match sideArg string with
  | none => refuse .badArgument s
  | some g =>
    if (s.string g).check.state = .running then refuse .inUse s
    else
      { status := okOr (clampNat 1 16 passes.toNat != passes.toNat), payload := [],
        state := s.startCheck g (clampNat 1 16 passes.toNat) }

/-- The check record (R63). DESIGN CHOICE (log 11): the first failing address and its count, absent together (R61), take one
presence byte. -/
def LineCheck.bytes (c : LineCheck) : List Byte :=
  [c.state.code, byteOf c.completed, byteOf c.requested]
  ++ presence 3 (fun i : Fin 16 => numberByte i ++ twoBytes c.failedPasses[i]) c.firstFailing
  ++ listBytes numberByte ((List.finRange 16).filter fun i => c.answered[i])

def lineCheckReadReq (string : Byte) (s : State) : Reply :=
  match sideArg string with
  | some g => accept (s.string g).check.bytes s
  | none => refuse .badArgument s

/-! ### Settings of the strings (R51) -/

/-- The outcome windows of a string are emptied. -/
def State.emptyWindows (s : State) (g : Strg) : State :=
  { s with scanner := { s.scanner with
      sensors := s.scanner.sensors.set g
        ((s.scanner.sensors.get g).map fun r => r.map fun r => { r with window := [] }) } }

/-- W and K of a string are stored; a change of either empties the windows of the string (R51). -/
def State.setWindow (s : State) (g : Strg) (w k : Nat) : State :=
  let c := s.string g
  let t := s.setString g { c with windowLength := w, faultCount := k }
  if w = c.windowLength ∧ k = c.faultCount then t else t.emptyWindows g

end Sys2Proof.Machine
end

