-- ==== Sys2Proof/Machine/Power.lean ====
section
/-! DEFINITION. Power-on, start-up (spec 11, R210) and RESTART (R211): the values each block takes, as its chapter
states them. -/

namespace Sys2Proof.Machine

/-! ### Power-on (R210) -/

/-- A lid motion is abandoned, and the drive is off. -/
def Pocket.unpowered (r : Pocket) : Pocket := { r with drive := false, timer := none }

def StringControl.unpowered (c : StringControl) : StringControl := { c with transaction := none, pass := .ended }

/-- The computations asked for and the records returned are abandoned. -/
def TouchRecord.unpowered (t : TouchRecord) : TouchRecord := { t with requests := [], returned := [] }

def Head.unpowered (h : Head) : Head := { h with attempt := none }

/-- Power-on begins: every lid drive is off, and what is in flight is abandoned. -/
def State.powerDown (s : State) : State :=
  { s with
    powered := false
    scanner := { s.scanner with strings := s.scanner.strings.map StringControl.unpowered }
    comp := { s.comp with formationDue := .both [] }
    touch := s.touch.map TouchRecord.unpowered
    rack := { s.rack with pockets := s.rack.pockets.map Pocket.unpowered }
    sequencer := { s.sequencer with head := s.sequencer.head.map Head.unpowered }
    link := { s.link with state := .idle, sent := [] }
    mail := [] }

/-! ### Start-up (R210) -/

/-- The trigger state from the level of the input (spec 06, R112). -/
def triggerFrom (level : Bool) : TriggerState := if level then .waitRelease else .idle

/-- A lid's state from its sense (spec 07, R133). -/
def lidFrom (sense : Bool) : LidState := if sense then .jammed else .closed

/-- R133. -/
def Pocket.start (occupied sense : Bool) : Pocket :=
  { Pocket.reset with occupied, occupancyInput := occupied, sense, senseInput := sense, lid := lidFrom sense }

/-- A head with its module-present level: EMPTY, and IDENTIFYING with a read begun when a module is present (spec 08,
R160, R161). -/
def Head.start (level : Bool) : Head :=
  { state := if level then .identifying else .empty, allowUnqualified := false, modulePresent := level,
    moduleInput := level, attempt := if level then some 1 else none }

def HoldRecord.absent : HoldRecord := { HoldRecord.reset with causes := Causes.none }

/-- The axes of an arm after start-up, with the phases of their channels taken (R39). -/
def ArmAxes.start (phase : Axes Phase) : ArmAxes :=
  { ArmAxes.reset with axes := phase.map fun p => { AxisRecord.reset with phase := some p } }

/-- The part after start-up, with the strap and the input levels taken. The inputs of arm 1 are ignored in a one-arm
build (R38). The commands that wait outside the part go on waiting. -/
def State.startUp (s : State) (l : Inputs) : State :=
  let arm1 := l.twoArm
  { State.reset with
    oneArm := !l.twoArm
    frz := l.frz
    arms := ⟨ArmAxes.start l.phase.zero, if arm1 then ArmAxes.start l.phase.one else ArmAxes.reset⟩
    touch := ⟨{ TouchRecord.reset with input := l.trigger.zero, trigger := triggerFrom l.trigger.zero },
              { TouchRecord.reset with input := arm1 && l.trigger.one, trigger := triggerFrom (arm1 && l.trigger.one) }⟩
    rack := { Rack.reset with pockets := Vector.ofFn fun p => Pocket.start l.occupied[p] l.lidOpen[p] }
    sequencer := { Sequencer.reset with
      head := ⟨Head.start l.modulePresent.zero, Head.start (arm1 && l.modulePresent.one)⟩ }
    zones := { ZoneMonitor.reset with
      hold := ⟨HoldRecord.reset, if arm1 then HoldRecord.reset else HoldRecord.absent⟩ }
    pending := s.pending }

/-! ### RESTART (R211) -/

/-- Spec 02, R40. -/
def AxisRecord.restart (r : AxisRecord) : AxisRecord := { r with count := 0, state := .unreferenced, phase := none }

/-- Spec 02, R40. The axis records of an absent arm keep their power-on values (R38). -/
def State.restartArm (s : State) (a : Arm) : ArmAxes :=
  let r := s.arms.get a
  if s.absentArm a then r else { r with axes := r.axes.map AxisRecord.restart }

/-- Spec 03, R65. -/
def Sensor.restart (r : Sensor) : Sensor := { r with last := none, filtered := none, window := [], badCount := 0 }

/-- Spec 03, R65. The limit runs for a transaction abandoned now, or goes on. DESIGN CHOICE (log 13): "still carrying a
reply" is taken of every abandoned transaction, also of one whose reply has not begun. -/
def StringControl.restart (c : StringControl) : StringControl :=
  { c with transaction := none, limit := c.limit || c.transaction.isSome, pass := .ended, check := LineCheck.reset }

/-- Spec 03, R65; spec 04, R81. -/
def Scanner.restart (r : Scanner) : Scanner :=
  { r with sensors := r.sensors.map fun v => v.map (Option.map Sensor.restart),
           strings := r.strings.map StringControl.restart, state := .stopped, mode := .stop, timer := none,
           overruns := 0, groups := Groups.reset, ageing := [] }

/-- Spec 04, R81; spec 05, R97. -/
def Compensation.restart (r : Compensation) : Compensation :=
  { r with factors := Factors.reset, formationDue := .both [] }

/-- Spec 06, R113. -/
def TouchRecord.restart (t : TouchRecord) : TouchRecord :=
  { TouchRecord.reset with input := t.input, trigger := triggerFrom t.input, qualificationTime := t.qualificationTime }

/-- Spec 07, R134: a lid that is not JAMMED takes its state from the sense. -/
def Pocket.restartLid (r : Pocket) : LidState := if r.lid = .jammed then .jammed else lidFrom r.senseInput

/-- Spec 07, R134. -/
def Pocket.restart (r : Pocket) : Pocket :=
  { r with
    state := if r.lid ≠ .jammed ∧ r.restartLid = .jammed ∧ r.state = .enabled then .disabled else r.state
    occupied := r.occupancyInput, sense := r.senseInput, lid := r.restartLid, drive := false, timer := none,
    restartCompare := r.state != .vacant }

/-- Spec 07, R134. -/
def Rack.restart (r : Rack) : Rack :=
  { r with pockets := r.pockets.map Pocket.restart, reports := .both PocketReport.reset, arbiter := .free, queue := [],
           grantTimer := none }

/-- Spec 08, R161. -/
def Sequencer.restart (r : Sequencer) : Sequencer :=
  { r with change := .both Change.reset, head := r.head.map fun h => Head.start h.moduleInput }

def Zone.unclaimed (z : Zone) : Zone := { z with kind := if z.kind.isShared then .shared none else z.kind }

/-- Spec 09, R182. -/
def HoldRecord.restart : HoldRecord := { HoldRecord.reset with causes := { Causes.none with restart := true } }

/-- Spec 09, R182. -/
def ZoneMonitor.restart (r : ZoneMonitor) (oneArm : Bool) : ZoneMonitor :=
  { table := r.table.map (Option.map Zone.unclaimed), grantee := none,
    hold := ⟨HoldRecord.restart, if oneArm then HoldRecord.absent else HoldRecord.restart⟩ }

/-- Spec 10, R195. -/
def Attention.restart (r : Attention) : Attention :=
  { sources := r.sources.map fun x => { x with flag := false }, stack := [] }

/-- Every block applies its restart values, and messages and computations in flight are dropped. The link's part is
`State.restart`. -/
def State.restartBlocks (s : State) : State :=
  { s with
    library := s.library.restart
    arms := ⟨s.restartArm .zero, s.restartArm .one⟩
    scanner := s.scanner.restart
    comp := s.comp.restart
    touch := s.touch.map TouchRecord.restart
    rack := s.rack.restart
    sequencer := s.sequencer.restart
    zones := s.zones.restart s.oneArm
    attention := s.attention.restart
    mail := []
    answer := none }

/-- The link takes a RESTART: a request in execution is abandoned or a waiting response dropped, both counters are 0, and
the link is EXECUTING (R211). -/
def State.beginRestart (s : State) : State :=
  (s.setLink { s.link with badFrames := 0, discarded := 0 }).beginExecuting .restart

/-- RESTART as the blocks answer it together: OK with length 0 (R211). -/
def restartReq (s : State) : Reply := accept [] s.restartBlocks

/-- A RESTART taken and answered at once (R211). -/
def State.restart (s : State) : State :=
  let s := s.setLink { s.link with badFrames := 0, discarded := 0 }
  s.respond .restart (restartReq s)

/-- The link is executing a RESTART. -/
def Link.executingRestart (l : Link) : Bool :=
  match l.state with
  | .executing code _ _ => code == 0x03
  | _ => false

/-- A well-formed RESTART frame, taken in every link state but EXECUTING a RESTART (R197, case 3; R211). -/
def State.takeRestart (s : State) : State :=
  if s.link.executingRestart then s.discardFrame (frameLength .restart)
  else if lateFrameWaits s.pending then s.beginRestart
  else s.restart

end Sys2Proof.Machine
end

