-- ==== Sys2Proof/Machine/Settings.lean ====
section
/-! DEFINITION. The requests every block shares in: IDENTIFY, COUNTERS_READ, SETTING_WRITE and SETTING_READ (spec 11,
R203, R204, R212, R213). -/

namespace Sys2Proof.Machine

/-- The settings table (R204). -/
inductive Setting where
  | driftWindow
  | windowLength (g : Strg)
  | faultCount (g : Strg)
  | holdLimit
  | qualificationTime (a : Arm)
  | lidTimeout
  | grantTimeout
  | approachTimeout
  | transferTimeout
deriving DecidableEq, Repr

def settingArg (b : Byte) : Option Setting :=
  match b.toNat with
  | 1 => some .driftWindow
  | 2 => some (.windowLength .zero)
  | 3 => some (.faultCount .zero)
  | 4 => some (.windowLength .one)
  | 5 => some (.faultCount .one)
  | 6 => some .holdLimit
  | 7 => some (.qualificationTime .zero)
  | 8 => some (.qualificationTime .one)
  | 9 => some .lidTimeout
  | 10 => some .grantTimeout
  | 11 => some .approachTimeout
  | 12 => some .transferTimeout
  | _ => none

/-- A setting of arm 1 in a one-arm build (R203, R204). -/
def State.settingAbsent (s : State) : Setting → Bool
  | .qualificationTime a => s.absentArm a
  | _ => false

/-- The range of a setting; that of a fault count goes up to the W of its string (R204). -/
def State.settingRange (s : State) : Setting → Nat × Nat
  | .driftWindow => (0, 10000)
  | .windowLength _ => (1, 32)
  | .faultCount g => (1, (s.string g).windowLength)
  | .holdLimit => (1, 3600)
  | .qualificationTime _ => (1, 250)
  | .lidTimeout => (100, 5000)
  | .grantTimeout => (1000, 600000)
  | .approachTimeout => (1000, 600000)
  | .transferTimeout => (1000, 60000)

def State.settingValue (s : State) : Setting → Nat
  | .driftWindow => s.library.driftWindow.toNat
  | .windowLength g => (s.string g).windowLength
  | .faultCount g => (s.string g).faultCount
  | .holdLimit => s.scanner.holdLimit
  | .qualificationTime a => (s.touch.get a).qualificationTime
  | .lidTimeout => s.rack.lidTimeout
  | .grantTimeout => s.rack.grantTimeout
  | .approachTimeout => s.sequencer.approachTimeout
  | .transferTimeout => s.sequencer.transferTimeout

/-- The owning block stores a value of the range. A W below the present K lowers K (spec 03, R51); a lowered hold limit
makes the groups it reaches STALE (spec 04, R70). -/
def State.storeSetting (s : State) (k : Setting) (n : Nat) : State :=
  match k with
  | .driftWindow => { s with library := { s.library with driftWindow := n } }
  | .windowLength g => s.setWindow g n (min (s.string g).faultCount n)
  | .faultCount g => s.setWindow g (s.string g).windowLength n
  | .holdLimit =>
    let s : State := { s with scanner := { s.scanner with holdLimit := n } }
    s.makeStale s.groupDue
  | .qualificationTime a => s.setTouch a { s.touch.get a with qualificationTime := n }
  | .lidTimeout => { s with rack := { s.rack with lidTimeout := n } }
  | .grantTimeout => { s with rack := { s.rack with grantTimeout := n } }
  | .approachTimeout => { s with sequencer := { s.sequencer with approachTimeout := n } }
  | .transferTimeout => { s with sequencer := { s.sequencer with transferTimeout := n } }

/-- The value stored for the signed value of a request (R203). -/
def State.settingClamp (s : State) (k : Setting) (w : Word) : Nat :=
  (clamp (s.settingRange k).1 (s.settingRange k).2 w.toInt).toNat

/-- A W written below the string's present K lowers K, which counts as a clamp (spec 03, R51). -/
def State.lowersFaultCount (s : State) (k : Setting) (n : Nat) : Bool :=
  match k with
  | .windowLength g => decide (n < (s.string g).faultCount)
  | _ => false

/-- R203, after the argument checks. -/
def settingWriteBody (number : Byte) (k : Setting) (w : Word) (s : State) : Reply :=
  let n := s.settingClamp k w
  let t := s.storeSetting k n
  { status := okOr (decide ((n : Int) ≠ w.toInt) || s.lowersFaultCount k n),
    payload := number :: natBytes (t.settingValue k), state := t }

def settingWriteReq (number : Byte) (value : Word) (s : State) : Reply :=
  match settingArg number with
  | none => refuse .badArgument s
  | some k => if s.settingAbsent k then refuse .notPresent s else settingWriteBody number k value s

/-- R204. -/
def settingReadReq (number : Byte) (s : State) : Reply :=
  match settingArg number with
  | none => refuse .badArgument s
  | some k =>
    if s.settingAbsent k then refuse .notPresent s else accept (number :: natBytes (s.settingValue k)) s

/-- R212. -/
def identifyReq (s : State) : Reply := accept [0x00, 0xA3, 0x03, 0x64, 0x42, if s.oneArm then 1 else 2] s

/-- The counters COUNTERS_READ clears: the two of the link, the scan overruns, and three of each arm (R213). -/
def State.clearCounters (s : State) : State :=
  { s with
    link := { s.link with badFrames := 0, discarded := 0 }
    scanner := { s.scanner with overruns := 0 }
    touch := s.touch.map TouchRecord.clearCounters }

/-- R213. -/
def countersReadReq (clear : Byte) (s : State) : Reply :=
  match yesNoArg clear with
  | none => refuse .badArgument s
  | some c =>
    accept (twoBytes s.link.badFrames ++ twoBytes s.link.discarded ++ twoBytes s.scanner.overruns
      ++ s.touchSnapshot .zero ++ s.touchSnapshot .one) (if c then s.clearCounters else s)

end Sys2Proof.Machine
end

