-- ==== Sys2Proof/Machine/Requests.lean ====
section
/-! DEFINITION. A request in execution (spec 11, R196 to R198, R211): which block's answer belongs to which request, the
taking of the request in the request buffer, the placing of its answer, and the frames that end meanwhile. -/

namespace Sys2Proof.Machine

/-- What the owning block does with a request and answers (R198, R202); none for a command that is no request. -/
def requestBody : Instr → Option (State → Reply)
  | .identify => some identifyReq
  | .restart => some restartReq
  | .countersRead clear => some (countersReadReq clear)
  | .settingWrite number value => some (settingWriteReq number value)
  | .settingRead number => some (settingReadReq number)
  | .tipWrite tip moduleId cls home => some (tipWriteReq tip moduleId cls home)
  | .tipQualify tip arm dx dy dz r source temp => some (tipQualifyReq tip arm dx dy dz r source temp)
  | .tipUnqualify tip arm => some (tipUnqualifyReq tip arm)
  | .tipRead tip => some (tipReadReq tip)
  | .tipFind state cls loc entry0 quality0 entry1 quality1 cursor =>
    some (tipFindReq state cls loc entry0 quality0 entry1 quality1 cursor)
  | .tipRetire tip => some (tipRetireReq tip)
  | .tipPurge tip => some (tipPurgeReq tip)
  | .axisHome arm axis reference => some (axisHomeReq arm axis reference)
  | .armSetup arm origin direction s0 => some (armSetupReq arm origin direction s0)
  | .positionRead arm => some (positionReadReq arm)
  | .sensorWrite string address binding trim shift => some (sensorWriteReq string address binding trim shift)
  | .sensorRetire string address => some (sensorRetireReq string address)
  | .sensorRead string address clear => some (sensorReadReq string address clear)
  | .scanControl mode present period => some (scanControlReq mode present period)
  | .scanRead => some scanReadReq
  | .lineCheck string passes => some (lineCheckReq string passes)
  | .lineCheckRead string => some (lineCheckReadReq string)
  | .groupRead => some groupReadReq
  | .compSetup alphaS alphaW w0 => some (compSetupReq alphaS alphaW w0)
  | .compRead => some compReadReq
  | .convert arm => some (convertReq arm)
  | .probeArm arm value => some (probeArmReq arm value)
  | .touchTake arm => some (touchTakeReq arm)
  | .pocketWrite pocket state present0 box0 present1 box1 =>
    some (pocketWriteReq pocket state present0 box0 present1 box1)
  | .pocketClearForeign pocket => some (pocketClearForeignReq pocket)
  | .pocketRead pocket => some (pocketReadReq pocket)
  | .rackUnlock => some rackUnlockReq
  | .rackRead => some rackReadReq
  | .change arm target allow => some (changeReq arm target allow)
  | .changeAbort arm => some (changeAbortReq arm)
  | .changeRead arm => some (changeReadReq arm)
  | .zoneWrite zone kind arm box margin => some (zoneWriteReq zone kind arm box margin)
  | .zoneSuspend zone => some (zoneSuspendReq zone)
  | .zoneResume zone => some (zoneResumeReq zone)
  | .zoneDelete zone => some (zoneDeleteReq zone)
  | .zoneRead zone => some (zoneReadReq zone)
  | .holdRelease arm => some (holdReleaseReq arm)
  | .holdRead arm => some (holdReadReq arm)
  | .attnFlags named => some (attnFlagsReq named)
  | .attnConfig entries => some (attnConfigReq entries)
  | .attnTake => some attnTakeReq
  | .attnRelease => some attnReleaseReq
  | _ => none

/-- The owning block takes the request in the request buffer: its effects are done, and its answer waits for the link
(R198). -/
def State.takeExecuting (s : State) (code : Byte) (payload : List Byte) : State :=
  match (decodePayload code payload).bind requestBody with
  | none => s
  | some body =>
    let r := body s
    (r.state.setLink { r.state.link with state := .executing code payload (some (r.status, r.payload)) }).settle

/-- The link places an answer in the response buffer and enters RESPONSE_READY (R198). -/
def State.placeAnswer (s : State) : State :=
  match s.link.state with
  | .executing _ _ (some (st, payload)) => s.setLink { s.link with state := .responseReady st payload }
  | _ => s

/-- After a frame that ended in EXECUTING: a request not yet taken is taken by its block, and unless another such frame
waits the answer is placed (log 3). -/
def State.progress (s : State) : State :=
  let t := match s.link.state with
    | .executing code payload none => s.takeExecuting code payload
    | _ => s
  if lateFrameWaits s.pending then t else t.placeAnswer

/-- What the link makes of a frame that ends in EXECUTING a request of this code (R197, cases 1 to 3; R199; R211). -/
def State.judgeLate (s : State) (code : Byte) (bytes : List Byte) : State :=
  if bytes = [] then s
  else if bytes.head? = some 0x02 then s.collect bytes.length
  else if bytes = [0x03, 0x00] ∧ code ≠ 0x03 then s.beginRestart
  else s.discardFrame bytes.length

/-- A frame that ended while a request was in execution. In another link state it is no such frame (logs 4 and 7). -/
def State.lateFrame (s : State) (bytes : List Byte) : State :=
  match s.link.state with
  | .executing code _ _ => (s.judgeLate code bytes).progress
  | _ => s

end Sys2Proof.Machine
end

