-- ==== Sys2Proof/Machine/LinkCommands.lean ====
section
/-! DEFINITION. The commands of the link and of the supply: power-on, start-up, frames that are no request of a block,
COLLECT, and the requests that concern several blocks (spec 11). -/

namespace Sys2Proof.Machine

/-- POWER_ON: the supply falls below the threshold or RESET_N becomes active (spec 11, R210). -/
def execPowerOn (s : State) : Host.Outcome State Fault Refusal :=
  done (s.powerDown)

/-- START_UP: start-up begins and ends (spec 11, R210). -/
def execStartUp (levels : Inputs) (s : State) : Host.Outcome State Fault Refusal :=
  done (s.startUp levels)

/-- BAD_FRAME: a frame with a wrong length (spec 11, R197). -/
def execBadFrame (bytes : List Byte) (s : State) : Host.Outcome State Fault Refusal :=
  done (s.event fun s => s.judged bytes .bad fun s => s.badFrame bytes.length)

/-- UNKNOWN_REQUEST_CODE: a frame whose code is not in the catalogue (spec 11, R197). -/
def execUnknownRequestCode (bytes : List Byte) (s : State) : Host.Outcome State Fault Refusal :=
  done (s.event fun s => s.judged bytes .unknownCode fun s => s.unknownCode bytes.length)

/-- DISCARDED_REQUEST: a frame that ends while a request is in execution (spec 11, R197, case 3; R211). -/
def execDiscardedRequest (bytes : List Byte) (s : State) : Host.Outcome State Fault Refusal :=
  done (s.event fun s => s.lateFrame bytes)

/-- IDENTIFY (spec 11, R212). -/
def execIdentify (s : State) : Host.Outcome State Fault Refusal :=
  done (s.request .identify identifyReq)

/-- COLLECT: a COLLECT frame (spec 11, R199). -/
def execCollect (n : Nat) (s : State) : Host.Outcome State Fault Refusal :=
  done (s.event fun s => s.collect n)

/-- RESTART: a RESTART frame (spec 11, R211). -/
def execRestart (s : State) : Host.Outcome State Fault Refusal :=
  done (s.event fun s => s.takeRestart)

/-- COUNTERS_READ (spec 11, R213). -/
def execCountersRead (clear : Byte) (s : State) : Host.Outcome State Fault Refusal :=
  done (s.request (.countersRead clear) (countersReadReq clear))

/-- SETTING_WRITE (spec 11, R203). -/
def execSettingWrite (number : Byte) (value : Word) (s : State) : Host.Outcome State Fault Refusal :=
  done (s.request (.settingWrite number value) (settingWriteReq number value))

/-- SETTING_READ (spec 11, R204). -/
def execSettingRead (number : Byte) (s : State) : Host.Outcome State Fault Refusal :=
  done (s.request (.settingRead number) (settingReadReq number))

end Sys2Proof.Machine
end

