-- ==== Sys2Proof/Machine/RackCommands.lean ====
section
/-! DEFINITION. The commands of the rack controller: its requests, the pocket inputs, the lid commands, the change
pocket report, and the reports the arbiter takes (spec 07). -/

namespace Sys2Proof.Machine

/-- An input of a pocket takes a level (R115). -/
def State.pocketEdge (s : State) (p : Fin 20) (input : PocketInput) (level : Bool) : State :=
  match input with
  | .occupancy => s.setPocket p { s.pocket p with occupancyInput := level }
  | .lidSense => s.setPocket p { s.pocket p with senseInput := level }

/-- POCKET_WRITE (spec 07, R119). -/
def execPocketWrite (pocket state present0 : Byte) (box0 : Axes Bounds) (present1 : Byte) (box1 : Axes Bounds)
    (s : State) : Host.Outcome State Fault Refusal :=
  done (s.event fun s =>
    (s.request (.pocketWrite pocket state present0 box0 present1 box1)
      (pocketWriteReq pocket state present0 box0 present1 box1)).settle)

/-- POCKET_CLEAR_FOREIGN (spec 07, R120). -/
def execPocketClearForeign (pocket : Byte) (s : State) : Host.Outcome State Fault Refusal :=
  done (s.request (.pocketClearForeign pocket) (pocketClearForeignReq pocket))

/-- POCKET_READ (spec 07, R120). -/
def execPocketRead (pocket : Byte) (s : State) : Host.Outcome State Fault Refusal :=
  done (s.request (.pocketRead pocket) (pocketReadReq pocket))

/-- RACK_UNLOCK (spec 07, R132). -/
def execRackUnlock (s : State) : Host.Outcome State Fault Refusal :=
  done (s.request .rackUnlock rackUnlockReq)

/-- RACK_READ (spec 07, R132). -/
def execRackRead (s : State) : Host.Outcome State Fault Refusal :=
  done (s.request .rackRead rackReadReq)

/-- POCKET_INPUT_EDGE: an input of a pocket takes a level; its debounce starts afresh (spec 07, R115). -/
def execPocketInputEdge (p : Fin 20) (input : PocketInput) (level : Bool)
    (s : State) : Host.Outcome State Fault Refusal :=
  done (s.event fun s => s.pocketEdge p input level)

/-- OBSERVED_OCCUPANCY_CHANGE: the occupancy input of a pocket has held a new level for 20 ms (spec 07, R115, R117). -/
def execObservedOccupancyChange (p : Fin 20) (s : State) : Host.Outcome State Fault Refusal :=
  done (s.event fun s => (s.occupancyChange p).settle)

/-- LID_SENSE_CHANGE: the lid-open sense of a pocket has held a new level for 20 ms (spec 07, R115, R124). -/
def execLidSenseChange (p : Fin 20) (s : State) : Host.Outcome State Fault Refusal :=
  done (s.event fun s => (s.senseChange p).settle)

/-- LID_TIMER_EXPIRY: the lid timer of a pocket expires (spec 07, R124). -/
def execLidTimerExpiry (p : Fin 20) (s : State) : Host.Outcome State Fault Refusal :=
  done (s.event fun s => (s.lidExpiry p).settle)

/-- OPEN_COMMAND: the rack controller takes an open command (spec 07, R122). -/
def execOpenCommand (a : Arm) (p : Fin 20) (s : State) : Host.Outcome State Fault Refusal :=
  done (s.armEvent a fun s => ((s.openLid a p).2.setAnswer (s.openLid a p).1).settle)

/-- CLOSE_COMMAND: the rack controller takes a close command (spec 07, R123). -/
def execCloseCommand (a : Arm) (p : Fin 20) (s : State) : Host.Outcome State Fault Refusal :=
  done (s.armEvent a fun s => ((s.closeLid p).2.setAnswer (s.closeLid p).1).settle)

/-- CHANGE_POCKET_REPORT: the rack controller takes a change pocket report (spec 07, R117). -/
def execChangePocketReport (a : Arm) (pocket : Option (Fin 20)) (suppressed stow : Bool)
    (s : State) : Host.Outcome State Fault Refusal :=
  done (s.armEvent a fun s => (s.takeReport a { pocket, suppressed, stow }).settle)

/-- RACK_REQUEST: the arbiter takes a rack request (spec 07, R128). -/
def execRackRequest (a : Arm) (s : State) : Host.Outcome State Fault Refusal :=
  done (s.armEvent a fun s => ((s.rackRequest a).2.setAnswer (s.rackRequest a).1).settle)

/-- ENTRY_REPORT: the arbiter takes an entry report (spec 07, R129). -/
def execEntryReport (a : Arm) (s : State) : Host.Outcome State Fault Refusal :=
  done (s.armEvent a fun s => s.rackEntry a)

/-- EXIT_REPORT: the arbiter takes an exit report (spec 07, R130). -/
def execExitReport (a : Arm) (s : State) : Host.Outcome State Fault Refusal :=
  done (s.armEvent a fun s => (s.rackExit a).settle)

/-- CHANGE_ENDED_REPORT: the arbiter takes a change-ended report (spec 07, R130). -/
def execChangeEndedReport (a : Arm) (s : State) : Host.Outcome State Fault Refusal :=
  done (s.armEvent a fun s => (s.rackChangeEnded a).settle)

/-- GRANT_TIMER_EXPIRY: the grant timer expires (spec 07, R129). -/
def execGrantTimerExpiry (s : State) : Host.Outcome State Fault Refusal :=
  done (s.event fun s => (s.grantExpiry).settle)

/-- DOUBLE_FAULT_REPORT: the arbiter takes a double-fault report (spec 07, R131). -/
def execDoubleFaultReport (a : Arm) (s : State) : Host.Outcome State Fault Refusal :=
  done (s.armEvent a fun s => (s.doubleFault a).settle)

/-- RESTART_COMPARISON: the occupancy input of a pocket has held one level for 20 ms after RESTART (spec 07, R134). -/
def execRestartComparison (p : Fin 20) (s : State) : Host.Outcome State Fault Refusal :=
  done (s.event fun s => (s.restartCompareAt p).settle)

end Sys2Proof.Machine
end

