-- ==== Sys2Proof/Machine/ScannerCommands.lean ====
section
/-! DEFINITION. The commands of the thermal scanner: its requests, the ends of transactions, the scan timer, FRZ and
the hold ages (spec 03, spec 04). -/

namespace Sys2Proof.Machine

/-- FRZ becomes active (R60). The timers that stand are left to their owners. -/
def State.freeze (s : State) : State := { s with frz := true }

/-- A full second after the sweep end of the groups next in turn has passed: their hold ages increase by one, and their
next full second comes after those of all the others (spec 04, R69; log 9). -/
def State.ageGroups (s : State) : State :=
  match s.scanner.ageing with
  | [] => s
  | batch :: later =>
    (s.setGroups (s.scanner.groups.mapAll fun g r =>
      if batch.contains g then { r with state := r.state.older } else r)).setAgeing (later ++ [batch])

/-- A HELD group whose age has reached the hold limit becomes STALE (spec 04, R69). -/
def State.staleGroup (s : State) (g : TempGroup) : State :=
  if s.groupDue g then s.makeStale fun x => x == g else s

/-- SENSOR_WRITE (spec 03, R44 to R46). -/
def execSensorWrite (string address binding : Byte) (trim : Word) (shift : Byte)
    (s : State) : Host.Outcome State Fault Refusal :=
  done (s.request (.sensorWrite string address binding trim shift) (sensorWriteReq string address binding trim shift))

/-- SENSOR_RETIRE (spec 03, R47). -/
def execSensorRetire (string address : Byte) (s : State) : Host.Outcome State Fault Refusal :=
  done (s.request (.sensorRetire string address) (sensorRetireReq string address))

/-- SENSOR_READ (spec 03, R48). -/
def execSensorRead (string address clear : Byte) (s : State) : Host.Outcome State Fault Refusal :=
  done (s.request (.sensorRead string address clear) (sensorReadReq string address clear))

/-- SCAN_CONTROL (spec 03, R56). -/
def execScanControl (mode present : Byte) (period : Word) (s : State) : Host.Outcome State Fault Refusal :=
  done (s.request (.scanControl mode present period) (scanControlReq mode present period))

/-- SCAN_READ (spec 03, R59). -/
def execScanRead (s : State) : Host.Outcome State Fault Refusal :=
  done (s.request .scanRead scanReadReq)

/-- LINE_CHECK (spec 03, R61). -/
def execLineCheck (string passes : Byte) (s : State) : Host.Outcome State Fault Refusal :=
  done (s.request (.lineCheck string passes) (lineCheckReq string passes))

/-- LINE_CHECK_READ (spec 03, R63). -/
def execLineCheckRead (string : Byte) (s : State) : Host.Outcome State Fault Refusal :=
  done (s.request (.lineCheckRead string) (lineCheckReadReq string))

/-- TRANSACTION_END: a transaction ends with a reply (spec 03, R41, R42). -/
def execTransactionEnd (g : Strg) (code : BitVec 16) (ready parity : Bool)
    (s : State) : Host.Outcome State Fault Refusal :=
  done (s.event fun s => s.transactionEnds g (.reply code ready parity))

/-- REPLY_TIMEOUT: the data line has stayed idle for 8 ms after the address (spec 03, R41, R42). -/
def execReplyTimeout (g : Strg) (s : State) : Host.Outcome State Fault Refusal :=
  done (s.event fun s => s.transactionEnds g .silent)

/-- SCAN_TIMER_EXPIRY: the scan timer expires (spec 03, R58). -/
def execScanTimerExpiry (s : State) : Host.Outcome State Fault Refusal :=
  done (s.event fun s => s.scanExpiry)

/-- FRZ_ACTIVE: FRZ becomes active (spec 03, R60). -/
def execFrzActive (s : State) : Host.Outcome State Fault Refusal :=
  done (s.event fun s => s.freeze)

/-- FRZ_INACTIVE: FRZ becomes inactive (spec 03, R60). -/
def execFrzInactive (s : State) : Host.Outcome State Fault Refusal :=
  done (s.event fun s => s.thaw)

/-- HOLD_AGE_TICK: a full second of real time has passed since the sweep end at which groups became HELD, or since their
last full second (spec 04, R69). -/
def execHoldAgeTick (s : State) : Host.Outcome State Fault Refusal :=
  done (s.event fun s => s.ageGroups)

/-- GROUP_STALE: the hold age of a group has reached the hold limit (spec 04, R69). -/
def execGroupStale (g : TempGroup) (s : State) : Host.Outcome State Fault Refusal :=
  done (s.event fun s => s.staleGroup g)

/-- RESTART_TRANSACTION_LIMIT_END: the 9 ms limit of a transaction abandoned by RESTART has passed (spec 03, R65). -/
def execRestartTransactionLimitEnd (g : Strg) (s : State) : Host.Outcome State Fault Refusal :=
  done (s.event fun s => s.limitEnds g)

end Sys2Proof.Machine
end

