-- ==== Sys2Proof/Machine/TouchCommands.lean ====
section
/-! DEFINITION. The commands of the touch unit (spec 06). -/

namespace Sys2Proof.Machine

/-- PROBE_ARM (spec 06, R100). -/
def execProbeArm (arm value : Byte) (s : State) : Host.Outcome State Fault Refusal :=
  done (s.request (.probeArm arm value) (probeArmReq arm value))

/-- TOUCH_TAKE (spec 06, R110). -/
def execTouchTake (arm : Byte) (s : State) : Host.Outcome State Fault Refusal :=
  done (s.request (.touchTake arm) (touchTakeReq arm))

/-- TRIGGER_LEADING_EDGE: a leading edge of the trigger input (spec 06, R102). -/
def execTriggerLeadingEdge (a : Arm) (s : State) : Host.Outcome State Fault Refusal :=
  done (s.armEvent a fun s => s.triggerEdge a)

/-- TRIGGER_RELEASE: a release of the trigger (spec 06, R103, R104). -/
def execTriggerRelease (a : Arm) (s : State) : Host.Outcome State Fault Refusal :=
  done (s.armEvent a fun s => s.triggerRelease a)

/-- QUALIFICATION_TIME_END: the qualification timer reaches the qualification time (spec 06, R103, R105). -/
def execQualificationTimeEnd (a : Arm) (s : State) : Host.Outcome State Fault Refusal :=
  done (s.armEvent a fun s => s.acceptTouch a)

/-- TOUCH_COMPUTATION: the compensation engine takes a touch computation (spec 06, R96). -/
def execTouchComputation (a : Arm) (s : State) : Host.Outcome State Fault Refusal :=
  done (s.armEvent a fun s => s.computeTouch a)

/-- POINT_RECORD_RETURN: a point record returns to the touch unit (spec 06, R109). -/
def execPointRecordReturn (a : Arm) (s : State) : Host.Outcome State Fault Refusal :=
  done (s.armEvent a fun s => s.placePoint a)

end Sys2Proof.Machine
end

