-- ==== Sys2Proof/Machine/ZoneCommands.lean ====
section
/-! DEFINITION. The commands of the zone monitor: its requests, the addition of a hold cause, and the grantee notice
(spec 09). -/

namespace Sys2Proof.Machine

/-- An arm named as grantee is present (spec 02, R38). -/
def State.noticeGrantee (s : State) (g : Option Arm) : State :=
  if g.all s.present then s.takeGrantee g else s

/-- ZONE_WRITE (spec 09, R175, R176). -/
def execZoneWrite (zone kind arm : Byte) (box : Axes Bounds) (margin : Word)
    (s : State) : Host.Outcome State Fault Refusal :=
  done (s.event fun s =>
    (s.request (.zoneWrite zone kind arm box margin) (zoneWriteReq zone kind arm box margin)).settle)

/-- ZONE_SUSPEND (spec 09, R177). -/
def execZoneSuspend (zone : Byte) (s : State) : Host.Outcome State Fault Refusal :=
  done (s.request (.zoneSuspend zone) (zoneSuspendReq zone))

/-- ZONE_RESUME (spec 09, R178). -/
def execZoneResume (zone : Byte) (s : State) : Host.Outcome State Fault Refusal :=
  done (s.event fun s => (s.request (.zoneResume zone) (zoneResumeReq zone)).settle)

/-- ZONE_DELETE (spec 09, R179). -/
def execZoneDelete (zone : Byte) (s : State) : Host.Outcome State Fault Refusal :=
  done (s.request (.zoneDelete zone) (zoneDeleteReq zone))

/-- ZONE_READ (spec 09, R180). -/
def execZoneRead (zone : Byte) (s : State) : Host.Outcome State Fault Refusal :=
  done (s.request (.zoneRead zone) (zoneReadReq zone))

/-- HOLD_RELEASE (spec 09, R172). -/
def execHoldRelease (arm : Byte) (s : State) : Host.Outcome State Fault Refusal :=
  done (s.event fun s => (s.request (.holdRelease arm) (holdReleaseReq arm)).settle)

/-- HOLD_READ (spec 09, R174). -/
def execHoldRead (arm : Byte) (s : State) : Host.Outcome State Fault Refusal :=
  done (s.request (.holdRead arm) (holdReadReq arm))

/-- HOLD_CAUSE_ADDITION: a block asks the zone monitor to add a hold cause (spec 09, R170). -/
def execHoldCauseAddition (a : Arm) (c : HoldCause) (s : State) : Host.Outcome State Fault Refusal :=
  done (s.armEvent a fun s => s.addCause a c)

/-- GRANTEE_NOTICE: the arbiter tells the zone monitor the grantee (spec 09, R168). -/
def execGranteeNotice (g : Option Arm) (s : State) : Host.Outcome State Fault Refusal :=
  done (s.event fun s => (s.noticeGrantee g).settle)

end Sys2Proof.Machine
end

