-- ==== Sys2Proof/Machine/Dispatch.lean ====
section
/-! DEFINITION. The dispatch: one arm for each row of the table, each a call of the command's meaning. -/

namespace Sys2Proof.Machine

/-- The effect of a command on everything but the queue. -/
def exec (i : Instr) (s : State) : Host.Outcome State Fault Refusal :=
  match i with
  | .powerOn => Sys2Proof.Machine.execPowerOn s
  | .startUp levels => Sys2Proof.Machine.execStartUp levels s
  | .badFrame bytes => Sys2Proof.Machine.execBadFrame bytes s
  | .unknownRequestCode bytes => Sys2Proof.Machine.execUnknownRequestCode bytes s
  | .discardedRequest bytes => Sys2Proof.Machine.execDiscardedRequest bytes s
  | .identify => Sys2Proof.Machine.execIdentify s
  | .collect n => Sys2Proof.Machine.execCollect n s
  | .restart => Sys2Proof.Machine.execRestart s
  | .countersRead clear => Sys2Proof.Machine.execCountersRead clear s
  | .settingWrite number value => Sys2Proof.Machine.execSettingWrite number value s
  | .settingRead number => Sys2Proof.Machine.execSettingRead number s
  | .tipWrite tip moduleId cls home => Sys2Proof.Machine.execTipWrite tip moduleId cls home s
  | .tipQualify tip arm dx dy dz r source temp => Sys2Proof.Machine.execTipQualify tip arm dx dy dz r source temp s
  | .tipUnqualify tip arm => Sys2Proof.Machine.execTipUnqualify tip arm s
  | .tipRead tip => Sys2Proof.Machine.execTipRead tip s
  | .tipFind state cls loc entry0 quality0 entry1 quality1 cursor => Sys2Proof.Machine.execTipFind state cls loc entry0 quality0 entry1 quality1 cursor s
  | .tipRetire tip => Sys2Proof.Machine.execTipRetire tip s
  | .tipPurge tip => Sys2Proof.Machine.execTipPurge tip s
  | .axisHome arm axis reference => Sys2Proof.Machine.execAxisHome arm axis reference s
  | .armSetup arm origin direction s0 => Sys2Proof.Machine.execArmSetup arm origin direction s0 s
  | .positionRead arm => Sys2Proof.Machine.execPositionRead arm s
  | .sensorWrite string address binding trim shift => Sys2Proof.Machine.execSensorWrite string address binding trim shift s
  | .sensorRetire string address => Sys2Proof.Machine.execSensorRetire string address s
  | .sensorRead string address clear => Sys2Proof.Machine.execSensorRead string address clear s
  | .scanControl mode present period => Sys2Proof.Machine.execScanControl mode present period s
  | .scanRead => Sys2Proof.Machine.execScanRead s
  | .lineCheck string passes => Sys2Proof.Machine.execLineCheck string passes s
  | .lineCheckRead string => Sys2Proof.Machine.execLineCheckRead string s
  | .groupRead => Sys2Proof.Machine.execGroupRead s
  | .compSetup alphaS alphaW w0 => Sys2Proof.Machine.execCompSetup alphaS alphaW w0 s
  | .compRead => Sys2Proof.Machine.execCompRead s
  | .convert arm => Sys2Proof.Machine.execConvert arm s
  | .probeArm arm value => Sys2Proof.Machine.execProbeArm arm value s
  | .touchTake arm => Sys2Proof.Machine.execTouchTake arm s
  | .pocketWrite pocket state present0 box0 present1 box1 => Sys2Proof.Machine.execPocketWrite pocket state present0 box0 present1 box1 s
  | .pocketClearForeign pocket => Sys2Proof.Machine.execPocketClearForeign pocket s
  | .pocketRead pocket => Sys2Proof.Machine.execPocketRead pocket s
  | .rackUnlock => Sys2Proof.Machine.execRackUnlock s
  | .rackRead => Sys2Proof.Machine.execRackRead s
  | .change arm target allow => Sys2Proof.Machine.execChange arm target allow s
  | .changeAbort arm => Sys2Proof.Machine.execChangeAbort arm s
  | .changeRead arm => Sys2Proof.Machine.execChangeRead arm s
  | .zoneWrite zone kind arm box margin => Sys2Proof.Machine.execZoneWrite zone kind arm box margin s
  | .zoneSuspend zone => Sys2Proof.Machine.execZoneSuspend zone s
  | .zoneResume zone => Sys2Proof.Machine.execZoneResume zone s
  | .zoneDelete zone => Sys2Proof.Machine.execZoneDelete zone s
  | .zoneRead zone => Sys2Proof.Machine.execZoneRead zone s
  | .holdRelease arm => Sys2Proof.Machine.execHoldRelease arm s
  | .holdRead arm => Sys2Proof.Machine.execHoldRead arm s
  | .attnFlags named => Sys2Proof.Machine.execAttnFlags named s
  | .attnConfig entries => Sys2Proof.Machine.execAttnConfig entries s
  | .attnTake => Sys2Proof.Machine.execAttnTake s
  | .attnRelease => Sys2Proof.Machine.execAttnRelease s
  | .quadraturePhase a axis p => Sys2Proof.Machine.execQuadraturePhase a axis p s
  | .referenceMark a axis => Sys2Proof.Machine.execReferenceMark a axis s
  | .checkPointFormation a => Sys2Proof.Machine.execCheckPointFormation a s
  | .transactionEnd g code ready parity => Sys2Proof.Machine.execTransactionEnd g code ready parity s
  | .replyTimeout g => Sys2Proof.Machine.execReplyTimeout g s
  | .scanTimerExpiry => Sys2Proof.Machine.execScanTimerExpiry s
  | .frzActive => Sys2Proof.Machine.execFrzActive s
  | .frzInactive => Sys2Proof.Machine.execFrzInactive s
  | .holdAgeTick => Sys2Proof.Machine.execHoldAgeTick s
  | .groupStale g => Sys2Proof.Machine.execGroupStale g s
  | .triggerLeadingEdge a => Sys2Proof.Machine.execTriggerLeadingEdge a s
  | .triggerRelease a => Sys2Proof.Machine.execTriggerRelease a s
  | .qualificationTimeEnd a => Sys2Proof.Machine.execQualificationTimeEnd a s
  | .touchComputation a => Sys2Proof.Machine.execTouchComputation a s
  | .pointRecordReturn a => Sys2Proof.Machine.execPointRecordReturn a s
  | .holdCauseAddition a c => Sys2Proof.Machine.execHoldCauseAddition a c s
  | .raiseReport src => Sys2Proof.Machine.execRaiseReport src s
  | .pocketInputEdge p input level => Sys2Proof.Machine.execPocketInputEdge p input level s
  | .observedOccupancyChange p => Sys2Proof.Machine.execObservedOccupancyChange p s
  | .lidSenseChange p => Sys2Proof.Machine.execLidSenseChange p s
  | .lidTimerExpiry p => Sys2Proof.Machine.execLidTimerExpiry p s
  | .openCommand a p => Sys2Proof.Machine.execOpenCommand a p s
  | .closeCommand a p => Sys2Proof.Machine.execCloseCommand a p s
  | .changePocketReport a pocket suppressed stow => Sys2Proof.Machine.execChangePocketReport a pocket suppressed stow s
  | .rackRequest a => Sys2Proof.Machine.execRackRequest a s
  | .entryReport a => Sys2Proof.Machine.execEntryReport a s
  | .exitReport a => Sys2Proof.Machine.execExitReport a s
  | .changeEndedReport a => Sys2Proof.Machine.execChangeEndedReport a s
  | .grantTimerExpiry => Sys2Proof.Machine.execGrantTimerExpiry s
  | .doubleFaultReport a => Sys2Proof.Machine.execDoubleFaultReport a s
  | .granteeNotice g => Sys2Proof.Machine.execGranteeNotice g s
  | .grantedMessage a => Sys2Proof.Machine.execGrantedMessage a s
  | .lapsedMessage a => Sys2Proof.Machine.execLapsedMessage a s
  | .lockedOutMessage a => Sys2Proof.Machine.execLockedOutMessage a s
  | .stepTimerExpiry a => Sys2Proof.Machine.execStepTimerExpiry a s
  | .modulePresentEdge a level => Sys2Proof.Machine.execModulePresentEdge a level s
  | .modulePresentChange a => Sys2Proof.Machine.execModulePresentChange a s
  | .identityReply a moduleId checkCorrect => Sys2Proof.Machine.execIdentityReply a moduleId checkCorrect s
  | .identityAttemptTimeout a => Sys2Proof.Machine.execIdentityAttemptTimeout a s
  | .registrationClaim moduleId => Sys2Proof.Machine.execRegistrationClaim moduleId s
  | .stowReleaseBegins a tip => Sys2Proof.Machine.execStowReleaseBegins a tip s
  | .stowTransferComplete a tip => Sys2Proof.Machine.execStowTransferComplete a tip s
  | .pickBegins a tip => Sys2Proof.Machine.execPickBegins a tip s
  | .identityMatched a tip => Sys2Proof.Machine.execIdentityMatched a tip s
  | .transitResolved a tip occupied => Sys2Proof.Machine.execTransitResolved a tip occupied s
  | .identityReport a moduleId => Sys2Proof.Machine.execIdentityReport a moduleId s
  | .moduleLost a => Sys2Proof.Machine.execModuleLost a s
  | .homePocketSeenEmpty p => Sys2Proof.Machine.execHomePocketSeenEmpty p s
  | .homePocketSeenOccupied p => Sys2Proof.Machine.execHomePocketSeenOccupied p s
  | .restartComparison p => Sys2Proof.Machine.execRestartComparison p s
  | .restartTransactionLimitEnd g => Sys2Proof.Machine.execRestartTransactionLimitEnd g s

end Sys2Proof.Machine
end

