-- ==== Sys2Proof/Safety.lean ====
section
/-! DEFINITION. What counts as a safe part: the laws the spec gives for the records of each block, as properties of a
state. Each is a property that every step is claimed to keep. -/

namespace Sys2Proof.Machine

/-- The part has power and the link is not EXECUTING, so that a request frame is taken (spec 11, R196, R210), and no frame
waits that ends while the request executes, so that it is answered within its step (log 3). -/
def State.takesRequests (s : State) : Prop :=
  s.powered = true ∧ s.link.isExecuting = false ∧ lateFrameWaits s.pending = false

/-- The part has power and the arm is present: an event of the arm is taken (spec 02, R38; spec 11, R210). -/
def State.serves (s : State) (a : Arm) : Prop := s.powered = true ∧ s.present a = true

/-- No message between blocks waits. -/
def State.quiet (s : State) : Prop := s.mail = []

/-- The rack stands idle: no message waits, no change is in progress or has a lid open, no lid is driven, and no arm has the
RACK zone in its inside set. -/
def State.calm (s : State) : Prop :=
  s.quiet ∧ (∀ a : Arm, (s.change a).state = .idle ∧ (s.change a).opened = []) ∧
  (∀ p : Fin 20, (s.pocket p).drive = false) ∧
  ∀ (a : Arm) (z : Fin 16), s.zoneIsRack z = true → (s.zones.hold.get a).inside[z] = false

/-! ### The library (spec 01, R4, R5) -/

/-- No two ACTIVE records carry one module ID or one home pocket, and at most one is ON_ARM of an arm. -/
def LibraryLaw (s : State) : Prop :=
  (∀ (i j : Fin 64) (t u : Tip), s.library.tips[i] = .active t → s.library.tips[j] = .active u → i ≠ j →
    t.moduleId ≠ u.moduleId ∧ t.home ≠ u.home) ∧
  ∀ (a : Arm) (i j : Fin 64) (t u : Tip), s.library.tips[i] = .active t → s.library.tips[j] = .active u →
    t.location = .onArm a → u.location = .onArm a → i = j

/-! ### The axis unit (spec 00, section 5; spec 02, R25, R33) -/

def IsLength (v : Int) : Prop := -Config.lengthMax ≤ v ∧ v ≤ Config.lengthMax

def AxisLaw (r : AxisRecord) : Prop :=
  IsLength r.count ∧ IsLength r.s0 ∧ ∀ v, r.state = .seeking v → IsLength v

/-- Every count, reference value, fixed point and origin offset is a length. -/
def CountLaw (s : State) : Prop :=
  ∀ (a : Arm) (i : Axis), AxisLaw (s.axis a i) ∧ IsLength ((s.arms.get a).origin.get i)

/-! ### The factors (spec 04, R73, R78) -/

/-- Every coefficient lies in 0 to 5,000 cppm (R73), and the seven factors in force are those of the coefficients and of
the groups as they stand (R78). -/
def FactorLaw (s : State) : Prop :=
  (∀ (a : Arm) (i : Axis), 0 ≤ (s.comp.coefficients.scale.get a).get i ∧
    (s.comp.coefficients.scale.get a).get i ≤ 5000) ∧
  0 ≤ s.comp.coefficients.workpiece ∧ s.comp.coefficients.workpiece ≤ 5000 ∧
  s.comp.factors = formFactors s.comp.coefficients s.scanner.groups

/-! ### Positions (spec 05, R83 to R92) -/

/-- The record in the slot is the mounted tip of the arm, or the slot is none and no record is (spec 01, R5). -/
def Mounted (s : State) (a : Arm) (tip : Option (Fin 64)) : Prop :=
  ∀ i : Fin 64, tip = some i ↔ ∃ t : Tip, s.library.tips[i] = .active t ∧ t.location = .onArm a

/-- The entry used: that of the mounted tip for the arm (R83). -/
def EntryUsed (s : State) (a : Arm) (tip : Option (Fin 64)) (e : Option Entry) : Prop :=
  (tip = none → e = none) ∧ ∀ (i : Fin 64) (t : Tip), tip = some i → s.library.tips[i] = .active t → e = t.entries.get a

/-- A stage value brought within the limits (R89). -/
def limited (v : Int) : Int := max (-2147483647) (min 2147483647 v)

/-- The stages of one axis: the exact values of the scale, tip and room stages, each from the limited value of the one
before (R85, R86, R87). -/
def scaleExact (s : State) (a : Arm) (p : Point) (i : Axis) : Int :=
  p.get i + roundDiv ((p.get i - (s.axis a i).s0) * ((s.comp.factors.scale.get a).get i).value) 1000000000

def tipExact (s : State) (a : Arm) (p : Point) (e : Option Entry) (i : Axis) : Int :=
  limited (scaleExact s a p i) + (match e with
    | some e => e.offset.get i
    | none => 0)

def roomExact (s : State) (a : Arm) (p : Point) (e : Option Entry) (i : Axis) : Int :=
  limited (tipExact s a p e i) + (s.arms.get a).origin.get i

/-- The reference point: the tip stage left out (R92). -/
def referenceExact (s : State) (a : Arm) (p : Point) (i : Axis) : Int :=
  limited (scaleExact s a p i) + (s.arms.get a).origin.get i

def workpieceExact (s : State) (a : Arm) (p : Point) (e : Option Entry) (i : Axis) : Int :=
  let u := limited (roomExact s a p e i)
  u - roundDiv ((u - s.comp.coefficients.w0.get i) * s.comp.factors.workpiece.value) 1000000000

/-- One of the three scale factors of the arm, or the workpiece factor, carries a mark (R91). -/
def FactorMarked (s : State) (a : Arm) (mark : FactorMarks → Bool) : Prop :=
  (∃ i : Axis, mark ((s.comp.factors.scale.get a).get i).marks = true) ∨ mark s.comp.factors.workpiece.marks = true

/-- The point record of the arm for the counts `p` by all five stages, without a touch number (R83 to R91). -/
def IsPoint (s : State) (a : Arm) (p : Point) (tip : Option (Fin 64)) (e : Option Entry) (q : PointRecord) : Prop :=
  q.arm = a ∧ q.tip = tip ∧ q.raw = p ∧ q.touchNumber = none ∧
  (∀ i : Axis, q.coordinates.get i = limited (workpieceExact s a p e i)) ∧
  q.radius = (match e with
    | some e => e.radius
    | none => 0) ∧
  (q.marks.suspect = true ↔ ∃ x, e = some x ∧ x.state = .suspect) ∧ (q.marks.unqualified = true ↔ e = none) ∧
  (q.marks.held = true ↔ FactorMarked s a FactorMarks.held) ∧
  (q.marks.stale = true ↔ FactorMarked s a FactorMarks.stale) ∧
  (q.marks.uncompensated = true ↔ FactorMarked s a FactorMarks.uncompensated) ∧
  (q.marks.tempClamped = true ↔ FactorMarked s a FactorMarks.tempClamped) ∧
  (q.marks.clamped = true ↔ ∃ i : Axis, limited (scaleExact s a p i) ≠ scaleExact s a p i ∨
    limited (tipExact s a p e i) ≠ tipExact s a p e i ∨ limited (roomExact s a p e i) ≠ roomExact s a p e i ∨
    limited (workpieceExact s a p e i) ≠ workpieceExact s a p e i)

/-- The mark set of a check point: the four marks of the three scale factors of the arm, and no workpiece mark (R92). -/
def AreCheckMarks (s : State) (a : Arm) (m : Marks) : Prop :=
  let scale (mark : FactorMarks → Bool) : Prop := ∃ i : Axis, mark ((s.comp.factors.scale.get a).get i).marks = true
  (m.held = true ↔ scale FactorMarks.held) ∧ (m.stale = true ↔ scale FactorMarks.stale) ∧
  (m.uncompensated = true ↔ scale FactorMarks.uncompensated) ∧ (m.tempClamped = true ↔ scale FactorMarks.tempClamped) ∧
  m.unqualified = false

/-- The check points of the arm for the counts `p`, with their mark sets (R92). -/
def AreCheckPoints (s : State) (a : Arm) (p : Point) (tip : Option (Fin 64)) (e : Option Entry) (q : CheckPoints) :
    Prop :=
  (∀ i : Axis, q.reference.get i = limited (referenceExact s a p i)) ∧ AreCheckMarks s a q.referenceMarks ∧
  q.referenceMarks.suspect = false ∧
  (q.referenceMarks.clamped = true ↔ ∃ i : Axis, limited (scaleExact s a p i) ≠ scaleExact s a p i ∨
    limited (referenceExact s a p i) ≠ referenceExact s a p i) ∧
  (e = none → q.tip = none) ∧
  ∀ x, e = some x → ∃ t : TipPoint, q.tip = some t ∧ tip = some t.number ∧ t.radius = x.radius ∧
    (∀ i : Axis, t.position.get i = limited (roomExact s a p e i)) ∧ AreCheckMarks s a t.marks ∧
    (t.marks.suspect = true ↔ x.state = .suspect) ∧
    (t.marks.clamped = true ↔ ∃ i : Axis, limited (scaleExact s a p i) ≠ scaleExact s a p i ∨
      limited (tipExact s a p e i) ≠ tipExact s a p e i ∨ limited (roomExact s a p e i) ≠ roomExact s a p e i)

/-- A formation of check points has been asked for and the arm is REFERENCED, so that a CHECK_POINT_FORMATION hands on the
reference point `q` (R92, R93). -/
def FormsReference (s : State) (a : Arm) (q : Point) : Prop :=
  s.comp.formationDue.get a ≠ [] ∧ (∀ i : Axis, (s.axis a i).state = .referenced) ∧
  ∀ i : Axis, q.get i = limited (referenceExact s a ⟨(s.axis a .x).count, (s.axis a .y).count, (s.axis a .z).count⟩ i)

/-! ### Inside a zone (spec 09, R164) -/

/-- A position lies in a box grown by `m` on every side, both bounds of each axis belonging to it. -/
def InGrown (b : Box) (m : Int) (p : Point) : Prop := ∀ i : Axis, b.lo.get i - m ≤ p.get i ∧ p.get i ≤ b.hi.get i + m

/-- An arm with these check points is inside the zone: its reference point by the margin, or its tip point by the margin
and the radius handed with it. -/
def Inside (r : Zone) (q : CheckPoints) : Prop :=
  InGrown r.box r.margin q.reference ∨ ∃ t, q.tip = some t ∧ InGrown r.box (r.margin + t.radius) t.position

/-! ### Hold ages (spec 04, R68, R69) -/

/-- The groups that age are the HELD and the STALE ones (R69), each in one batch of groups, and no batch is empty. -/
def AgeLaw (s : State) : Prop :=
  (∀ g : TempGroup, g ∈ s.scanner.ageing.flatten ↔
    ∃ v n, (s.scanner.groups.get g).state = .held v n ∨ (s.scanner.groups.get g).state = .stale v n) ∧
  s.scanner.ageing.flatten.Nodup ∧ [] ∉ s.scanner.ageing

/-! ### Dock boxes (spec 08, R143) -/

/-- The reference point `q` lies in the dock box of the pocket for the arm. -/
def InDock (s : State) (a : Arm) (p : Fin 20) (q : Point) : Prop :=
  ∃ b, (s.pocket p).dock.get a = some b ∧ InGrown b 0 q

/-- The arm has not left the dock box of the pocket: its last reference point, if it has one, lies in the box. -/
def NotDeparted (s : State) (a : Arm) (p : Fin 20) : Prop := ∀ q, (s.change a).lastReference = some q → InDock s a p q

/-! ### Probing (spec 06, R100, R101; spec 09, R170) -/

/-- Probing is armed only on an arm without a hold and without a change in progress. -/
def ProbingLaw (s : State) : Prop :=
  ∀ a : Arm, (s.touch.get a).armed = true →
    (s.zones.hold.get a).causes = Causes.none ∧ (s.change a).state = .idle

/-! ### The rack (spec 07) -/

/-- A lid drive is on only while the rack is granted to an arm whose last report names the pocket (R126); while the part
has power, it is on exactly at a lid that is OPENING or OPEN (R121); a lid timer runs only in OPENING and CLOSING, and while the part has power in
both (R121); and a pocket with a JAMMED lid is not ENABLED (R125). -/
def LidLaw (s : State) : Prop :=
  ∀ p : Fin 20,
    ((s.pocket p).drive = true →
      (∃ (a : Arm) (acknowledged inside ended : Bool), s.rack.arbiter = .granted a acknowledged inside ended ∧
        (s.report a).pocket = some p) ∧ ((s.pocket p).lid = .opening ∨ (s.pocket p).lid = .opened)) ∧
    (s.powered = true → (s.pocket p).lid = .opening ∨ (s.pocket p).lid = .opened → (s.pocket p).drive = true) ∧
    ((s.pocket p).timer.isSome = true → (s.pocket p).lid = .opening ∨ (s.pocket p).lid = .closing) ∧
    (s.powered = true → (s.pocket p).lid = .opening ∨ (s.pocket p).lid = .closing → (s.pocket p).timer.isSome = true) ∧
    ((s.pocket p).lid = .jammed → (s.pocket p).state ≠ .enabled)

/-- The queue holds an arm at most once and the grantee only when its change has ended (R127); it is empty in FREE (R128)
and in LOCKED_OUT (R131); and the grant timer runs only while a grant is not acknowledged (R128, R129). -/
def ArbiterLaw (s : State) : Prop :=
  s.rack.queue.Nodup ∧
  (s.rack.arbiter = .free ∨ s.rack.arbiter = .lockedOut → s.rack.queue = []) ∧
  (∀ (a : Arm) (acknowledged inside : Bool), s.rack.arbiter = .granted a acknowledged inside false →
    a ∉ s.rack.queue) ∧
  (s.rack.grantTimer.isSome = true →
    ∃ (a : Arm) (inside ended : Bool), s.rack.arbiter = .granted a false inside ended)

/-! ### Zones and holds (spec 09) -/

/-- The table holds at most one zone of kind RACK (R175), and a SUSPENDED zone has no claimant (R177). -/
def ZoneLaw (s : State) : Prop :=
  (∀ z w : Fin 16, s.zoneIsRack z = true → s.zoneIsRack w = true → z = w) ∧
  ∀ (z : Fin 16) (r : Zone), s.zone z = some r → r.suspended = true → r.kind.claimant = none

/-- The commands that may take a cause out of a hold cause set: HOLD_RELEASE, RESTART and start-up (R172, R181, R182), and
a frame after which the HOLD_RELEASE or RESTART in execution is taken by its blocks, or which is itself a RESTART taken
in EXECUTING (R198, R211; log 3). -/
def endsHolds (s : State) (c : Instr) : Bool :=
  match c with
  | .holdRelease _ | .restart | .startUp _ => true
  | .discardedRequest bytes =>
    match s.link.state with
    | .executing code _ answer => bytes == [0x03, 0x00] || (answer.isNone && (code == 0x85 || code == 0x03))
    | _ => false
  | _ => false

/-! ### Attention (spec 10) -/

/-- The service stack holds at most three levels, 1 to 3, each above the one below it (R185, R190, R191), and in a
one-arm build the flags of the arm-1 sources are clear (R184). -/
def AttentionLaw (s : State) : Prop :=
  s.attention.stack.Pairwise (· > ·) ∧ (∀ l ∈ s.attention.stack, 0 < l) ∧ s.attention.stack.length ≤ 3 ∧
  (s.oneArm = true → ∀ src : AttnSource, sourceArm src = some .one →
    s.attention.sources[sourceIndex src].flag = false)

/-- All the laws together. -/
def Lawful (s : State) : Prop :=
  LibraryLaw s ∧ CountLaw s ∧ FactorLaw s ∧ AgeLaw s ∧ ProbingLaw s ∧ LidLaw s ∧ ArbiterLaw s ∧ ZoneLaw s ∧ AttentionLaw s

/-! ### Requests (spec 11, R198, R200) -/

/-- The statuses of the refusal class (R200). -/
def Status.refusal : Status → Bool
  | .ok | .clamped | .staged | .nothing => false
  | _ => true

/-- Two states agree in everything but the link. -/
def SameButLink (s t : State) : Prop := ({ t with link := s.link } : State) = s

end Sys2Proof.Machine
end

