-- ==== Sys2Proof/Certificates/Slice0/Obligations.lean ====
section
/-! DEFINITION. The statements for the provers: what the numbered rules of spec/ say each command does, over every state
and every operand. A statement that rests on a choice of the model says so and names the log entry. The names `refused`,
`answers` and the like are bound inside each statement. -/

open Sys2Proof Sys2Proof.Machine

/-! ### The queue, the power and the link (spec 11) -/

/-- A step takes the command at the front of the queue and runs it with the queue's rest. -/
def Obligations.StepRunsFrontCommand : Prop :=
  ∀ (c : Instr) (rest : List Instr) (s : State), s.pending = c :: rest →
    step s = exec c { s with pending := rest }

/-- On an empty queue a millisecond passes: the scan, grant, lid and step timers lose one while FRZ is inactive, a
qualification timer gains 1,000 µs up to its qualification time whatever FRZ is, and nothing else changes. The model's
choice (log 8); that the four timers stop during FRZ (R60, R121, R127, R138) and the qualification timer does not (R99)
is the spec's. -/
def Obligations.EmptyQueueStepRunsTimers : Prop :=
  ∀ s : State, s.pending = [] →
    (s.powered = true → ∃ t : State, step s = .next t ∧
      (∀ a : Arm, t.touch.get a = { s.touch.get a with
        trigger := match (s.touch.get a).trigger with
          | .qualifying p n k => .qualifying p n (min (k + 1000) n)
          | st => st }) ∧
      (s.frz = true → { t with touch := s.touch } = s) ∧
      (s.frz = false →
        t.scanner = { s.scanner with timer := s.scanner.timer.map (· - 1) } ∧
        t.rack.grantTimer = s.rack.grantTimer.map (· - 1) ∧
        (∀ p : Fin 20, t.pocket p = { s.pocket p with timer := (s.pocket p).timer.map (· - 1) }) ∧
        (∀ a : Arm, t.change a = { s.change a with timer := (s.change a).timer.map (· - 1) }) ∧
        { t with scanner := s.scanner, touch := s.touch, rack := s.rack, sequencer := s.sequencer } = s ∧
        { t.rack with grantTimer := s.rack.grantTimer, pockets := s.rack.pockets } = s.rack ∧
        { t.sequencer with change := s.sequencer.change } = s.sequencer)) ∧
    (s.powered = false → step s = .next s)

/-- While the power is off, no command but power-on and start-up changes anything (R210). Power-on: the drives are
off, RDY and ATTN inactive, both HOLD outputs active, and what is in flight is abandoned (R210). That the records
stand until start-up is the model's choice (log 12). -/
def Obligations.PowerStopsAndAbandons : Prop :=
  (∀ (c : Instr) (s : State), s.powered = false → c ≠ .powerOn → (∀ l : Inputs, c ≠ .startUp l) → exec c s = .next s) ∧
  (∀ s : State, ∃ t : State, exec .powerOn s = .next t ∧ t.powered = false ∧
     (∀ p : Fin 20, t.pocket p = { s.pocket p with drive := false, timer := none }) ∧
     t.rdyActive = false ∧ t.attnActive = false ∧ (∀ a : Arm, t.holdActive a = true) ∧
     (∀ g : Strg, t.string g = { s.string g with transaction := none, pass := .ended }) ∧
     (∀ a : Arm, t.head a = { s.head a with attempt := none }) ∧
     (∀ a : Arm, t.comp.formationDue.get a = [] ∧ (t.touch.get a).requests = [] ∧ (t.touch.get a).returned = []) ∧
     t.link.state = .idle ∧ t.mail = [] ∧
     t.library = s.library ∧ t.arms = s.arms ∧ t.zones = s.zones ∧ t.attention = s.attention ∧ t.frz = s.frz ∧
     t.oneArm = s.oneArm ∧ t.pending = s.pending)

/-- The values after start-up of the library, the axis unit, the scanner, the groups and factors, the touch unit and
the attention unit, the link being IDLE with counters 0 (R23, R39, R64, R80, R97, R112, R194, R210). The values after
start-up of the rack controller, the change sequencer and the zone monitor (R133, R160, R181, R210). State.reset is
what start-up leaves of a two-arm build with every channel at P0 and every other input inactive. The strap, the phases
and the levels are the model's choice (log 1). -/
def Obligations.StartUpValues : Prop :=
  (∀ (s : State) (l : Inputs), ∃ t : State, exec (.startUp l) s = .next t ∧
     t.powered = true ∧ t.oneArm = !l.twoArm ∧ t.frz = l.frz ∧ t.pending = s.pending ∧ t.mail = [] ∧
     (∀ i : Fin 64, t.library.tips[i] = .vacant) ∧ t.library.driftWindow = 2000 ∧
     (∀ a : Arm, (t.arms.get a).origin = ⟨0, 0, 0⟩ ∧
       ∀ i : Axis, (t.axis a i).count = 0 ∧ (t.axis a i).state = .unreferenced ∧ (t.axis a i).direction = .normal ∧
         (t.axis a i).s0 = 0 ∧ (t.present a = true → (t.axis a i).phase = some ((l.phase.get a).get i))) ∧
     (∀ (g : Strg) (i : Fin 16), t.sensor g i = none) ∧
     (∀ g : Strg, (t.string g).windowLength = 8 ∧ (t.string g).faultCount = 3 ∧ (t.string g).transaction = none ∧
       (t.string g).check.state = .idle) ∧
     t.scanner.state = .stopped ∧ t.scanner.period = 1000 ∧ t.scanner.timer = none ∧ t.scanner.overruns = 0 ∧
     t.scanner.holdLimit = 600 ∧
     (∀ g : TempGroup, t.scanner.groups.get g = { state := .empty, contributors := 0 }) ∧ t.scanner.ageing = [] ∧
     (∀ (a : Arm) (i : Axis), (t.comp.coefficients.scale.get a).get i = 1150 ∧
       (t.comp.factors.scale.get a).get i = Factor.uncompensated) ∧
     t.comp.coefficients.workpiece = 1150 ∧ t.comp.coefficients.w0 = ⟨0, 0, 0⟩ ∧
     t.comp.factors.workpiece = Factor.uncompensated ∧
     (∀ a : Arm, (t.touch.get a).armed = false ∧ (t.touch.get a).qualificationTime = 20 ∧ (t.touch.get a).slot = none ∧
       (t.touch.get a).nextNumber = 0 ∧ (t.touch.get a).bounces = 0 ∧ (t.touch.get a).strays = 0 ∧
       (t.touch.get a).overruns = 0 ∧
       (t.touch.get a).trigger = (if t.present a && l.trigger.get a then .waitRelease else .idle)) ∧
     (∀ i : Fin 14, t.attention.sources[i] = { flag := false, enable := false, level := 0 }) ∧ t.attention.stack = [] ∧
     t.link.state = .idle ∧ t.link.badFrames = 0 ∧ t.link.discarded = 0) ∧
  (∀ (s : State) (l : Inputs), ∃ t : State, exec (.startUp l) s = .next t ∧
     (∀ p : Fin 20, (t.pocket p).state = .vacant ∧ (t.pocket p).dock = ⟨none, none⟩ ∧
       (t.pocket p).foreignMark = false ∧ (t.pocket p).occupied = l.occupied[p] ∧ (t.pocket p).sense = l.lidOpen[p] ∧
       (t.pocket p).lid = (if l.lidOpen[p] then .jammed else .closed) ∧ (t.pocket p).drive = false ∧
       (t.pocket p).timer = none) ∧
     t.rack.lidTimeout = 1500 ∧ (∀ a : Arm, (t.report a).pocket = none) ∧ t.rack.arbiter = .free ∧ t.rack.queue = [] ∧
     t.rack.grantTimer = none ∧ t.rack.grantTimeout = 60000 ∧
     (∀ a : Arm, (t.change a).state = .idle ∧ (t.change a).staged = none ∧ (t.change a).last = none ∧
       (t.head a).modulePresent = (t.present a && l.modulePresent.get a) ∧
       (t.head a).state = (if t.present a && l.modulePresent.get a then .identifying else .empty) ∧
       (t.head a).attempt = (if t.present a && l.modulePresent.get a then some 1 else none)) ∧
     t.sequencer.approachTimeout = 30000 ∧ t.sequencer.transferTimeout = 10000 ∧
     (∀ z : Fin 16, t.zone z = none) ∧ t.zones.grantee = none ∧
     (∀ a : Arm, (t.zones.hold.get a).causes = (if t.present a then Causes.none.add .powerOn else Causes.none) ∧
       (∀ z : Fin 16, (t.zones.hold.get a).violated[z] = false ∧ (t.zones.hold.get a).permit[z] = false ∧
         (t.zones.hold.get a).inside[z] = false) ∧
       t.holdActive a = t.present a)) ∧
  (∀ s : State, s.pending = [] →
     exec (.startUp { twoArm := true, frz := false, phase := ⟨⟨.p0, .p0, .p0⟩, ⟨.p0, .p0, .p0⟩⟩,
                      trigger := ⟨false, false⟩, modulePresent := ⟨false, false⟩, occupied := Vector.replicate 20 false, lidOpen := Vector.replicate 20 false }) s =
       .next State.reset)

/-- RESTART in the library, the axis unit, the scanner, the groups, the factors and the touch unit: records and
settings are kept, and what is measured or in flight is not (R24, R40, R65, R81, R97, R113, R211). RESTART in the rack
controller, the change sequencer, the zone monitor and the attention unit (R134, R161, R182, R195). The axis records of
an absent arm keep their values (R38). It is taken also in EXECUTING another request, which is abandoned; while a
RESTART executes it is discarded (R211). That an axis holds no channel phase until it has taken one is deduced (log 2).
No frame waits that ends while it executes, so that its step answers it: the model's choice (log 3). -/
def Obligations.RestartValues : Prop :=
  (∀ s : State, s.powered = true → s.link.executingRestart = false → lateFrameWaits s.pending = false →
     ∃ t : State, exec .restart s = .next t ∧ t.link.state = .responseReady .ok [] ∧ t.link.badFrames = 0 ∧ t.link.discarded = 0 ∧ t.mail = [] ∧
     t.powered = true ∧ t.oneArm = s.oneArm ∧ t.frz = s.frz ∧ t.pending = s.pending ∧
     (∀ i : Fin 64, t.library.tips[i] =
       match s.library.tips[i] with
       | .active u =>
         match u.location with
         | .onArm _ | .inTransit _ => .active { u with location := .missing }
         | _ => .active u
       | slot => slot) ∧
     t.library.driftWindow = s.library.driftWindow ∧
     (∀ a : Arm, (t.arms.get a).origin = (s.arms.get a).origin ∧
       ∀ i : Axis, t.axis a i =
         if s.present a then { s.axis a i with count := 0, state := .unreferenced, phase := none } else s.axis a i) ∧
     (∀ (g : Strg) (i : Fin 16), t.sensor g i =
       (s.sensor g i).map fun r => { r with last := none, filtered := none, window := [], badCount := 0 }) ∧
     (∀ g : Strg, (t.string g).windowLength = (s.string g).windowLength ∧
       (t.string g).faultCount = (s.string g).faultCount ∧ (t.string g).transaction = none ∧
       (t.string g).pass = .ended ∧ (t.string g).check.state = .idle) ∧
     t.scanner.state = .stopped ∧ t.scanner.mode = .stop ∧ t.scanner.timer = none ∧ t.scanner.overruns = 0 ∧
     t.scanner.period = s.scanner.period ∧ t.scanner.holdLimit = s.scanner.holdLimit ∧
     (∀ g : TempGroup, t.scanner.groups.get g = { state := .empty, contributors := 0 }) ∧ t.scanner.ageing = [] ∧
     t.comp.coefficients = s.comp.coefficients ∧
     (∀ (a : Arm) (i : Axis), (t.comp.factors.scale.get a).get i = Factor.uncompensated) ∧
     t.comp.factors.workpiece = Factor.uncompensated ∧ (∀ a : Arm, t.comp.formationDue.get a = []) ∧
     (∀ a : Arm, t.touch.get a =
       { TouchRecord.reset with
         input := (s.touch.get a).input, qualificationTime := (s.touch.get a).qualificationTime,
         trigger := if (s.touch.get a).input then .waitRelease else .idle })) ∧
  (∀ s : State, s.powered = true →
     (s.link.executingRestart = true → exec .restart s = .next (s.discardFrame 2)) ∧
     (s.link.executingRestart = false → lateFrameWaits s.pending = false → ∃ t : State, exec .restart s = .next t ∧
       t.rack.arbiter = .free ∧ t.rack.queue = [] ∧ t.rack.grantTimer = none ∧
       t.rack.grantTimeout = s.rack.grantTimeout ∧ t.rack.lidTimeout = s.rack.lidTimeout ∧
       (∀ a : Arm, t.report a = { pocket := none, suppressed := false, stow := false }) ∧
       (∀ p : Fin 20, (t.pocket p).dock = (s.pocket p).dock ∧ (t.pocket p).foreignMark = (s.pocket p).foreignMark ∧
         (t.pocket p).occupied = (s.pocket p).occupancyInput ∧ (t.pocket p).sense = (s.pocket p).senseInput ∧
         (t.pocket p).drive = false ∧ (t.pocket p).timer = none ∧
         (t.pocket p).lid =
           (if (s.pocket p).lid = .jammed ∨ (s.pocket p).senseInput = true then .jammed else .closed) ∧
         ((s.pocket p).state ≠ .enabled ∨ (t.pocket p).lid ≠ .jammed → (t.pocket p).state = (s.pocket p).state) ∧
         ((s.pocket p).state = .enabled → (s.pocket p).lid ≠ .jammed → (t.pocket p).lid = .jammed →
           (t.pocket p).state = .disabled)) ∧
       (∀ a : Arm, t.change a = Change.reset ∧ (t.head a).modulePresent = (s.head a).moduleInput ∧
         (t.head a).allowUnqualified = false ∧
         (t.head a).state = (if (s.head a).moduleInput then .identifying else .empty)) ∧
       t.sequencer.approachTimeout = s.sequencer.approachTimeout ∧
       t.sequencer.transferTimeout = s.sequencer.transferTimeout ∧
       (∀ z : Fin 16, t.zone z = (s.zone z).map fun r =>
         { r with kind := match r.kind with
             | .shared _ => .shared none
             | k => k }) ∧
       t.zones.grantee = none ∧
       (∀ a : Arm, (t.zones.hold.get a).causes = (if s.present a then Causes.none.add .restart else Causes.none) ∧
         (t.zones.hold.get a).points = none ∧
         ∀ z : Fin 16, (t.zones.hold.get a).violated[z] = false ∧ (t.zones.hold.get a).permit[z] = false ∧
           (t.zones.hold.get a).inside[z] = false) ∧
       (∀ i : Fin 14, t.attention.sources[i] = { s.attention.sources[i] with flag := false }) ∧
       t.attention.stack = []))

/-- A frame without a byte is ignored; a frame with a wrong length is answered BAD_FRAME and counted; a frame with an
unknown code is answered BAD_ARGUMENT; neither reaches a block (R197, cases 1 and 4 to 6). ATTN_FLAGS or ATTN_CONFIG
with more than fourteen entries spells a bad frame, and is answered as one (R197, R201; log 20). A request frame before
a frame that ends while it executes enters EXECUTING, with RDY inactive (R196, R198); that a DISCARDED_REQUEST in the
queue says so is the model's choice (log 3). In EXECUTING a frame other than COLLECT and an admitted RESTART is
discarded and counted, the part sending the code of EXECUTING and zeros (R197, case 3); the RESTART is taken, and the
request abandoned (R211). After such a frame the block takes a request not yet taken, as it takes one at once, and after
the last the answer is placed (R198; the moments are log 3's). Outside EXECUTING there is no such frame (log 7). -/
def Obligations.MalformedAndDiscardedFramesAreCounted : Prop :=
  (∀ s : State, s.powered = true → s.link.isExecuting = false →
     exec (.badFrame []) s = .next s ∧ exec (.unknownRequestCode []) s = .next s ∧
     (∀ bytes : List Byte, exec (.discardedRequest bytes) s = .next s) ∧
     ∀ (code : Byte) (rest : List Byte), code ≠ 0x02 →
       ((rest = [] ∨ ∃ (len : Byte) (payload : List Byte), rest = len :: payload ∧
           (120 < len.toNat ∨ payload.length ≠ len.toNat ∨
             ∃ rule, catalogue.lookup code.toNat = some rule ∧ rule.allows payload = false)) →
         exec (.badFrame (code :: rest)) s = .next (s.setLink
           { state := .responseReady .badFrame [], badFrames := bump s.link.badFrames, discarded := s.link.discarded,
             sent := s.link.state.code :: List.replicate rest.length 0 })) ∧
       ((∃ (len : Byte) (payload : List Byte), rest = len :: payload ∧ len.toNat ≤ 120 ∧ payload.length = len.toNat ∧
           catalogue.lookup code.toNat = none) →
         exec (.unknownRequestCode (code :: rest)) s = .next (s.setLink
           { state := .responseReady .badArgument [], badFrames := s.link.badFrames, discarded := s.link.discarded,
             sent := s.link.state.code :: List.replicate rest.length 0 }))) ∧
  (∀ s : State, s.powered = true → s.link.isExecuting = false →
     let bad (c : Instr) : Prop := ∃ t : State, exec c s = .next t ∧ t.link.state = .responseReady .badFrame [] ∧
       t.link.badFrames = bump s.link.badFrames ∧ { t with link := s.link } = s
     (∀ named : List Byte, 14 < named.length → bad (.attnFlags named)) ∧
     ∀ entries : List AttnEntry, 14 < entries.length → bad (.attnConfig entries)) ∧
  (∀ (s : State) (c : Instr) (code : Byte) (payload : List Byte), s.powered = true → s.quiet → c.wellFormed = true →
     encodeRequest c = some (code, payload) →
     (s.link.isExecuting = false → lateFrameWaits s.pending = true → ∃ t : State, exec c s = .next t ∧
       t.rdyActive = false ∧ t = s.setLink
         { state := .executing code payload none
           badFrames := if code = 0x03 then 0 else s.link.badFrames
           discarded := if code = 0x03 then 0 else s.link.discarded
           sent := s.link.state.code :: List.replicate (payload.length + 1) 0 }) ∧
     (s.link.isExecuting = true → code ≠ 0x03 ∨ s.link.executingRestart = true → exec c s = .next (s.setLink
       { s.link with discarded := bump s.link.discarded
                     sent := 0x11 :: List.replicate (payload.length + 1) 0 })) ∧
     ∀ body, requestBody c = some body → code ≠ 0x03 → s.takesRequests → (body s).state.quiet →
       exec c s = .next (s.respond c (body s))) ∧
  ∀ (s : State) (code : Byte) (payload : List Byte) (answer : Option (Status × List Byte)), s.powered = true →
    s.link.state = .executing code payload answer →
    let counted (n : Nat) : State := s.setLink
      { s.link with discarded := bump s.link.discarded, sent := 0x11 :: List.replicate n 0 }
    let last : Prop := lateFrameWaits s.pending = false
    (∀ (b : Byte) (rest : List Byte), judgeFrame (b :: rest) = .bad →
      exec (.badFrame (b :: rest)) s = .next (counted rest.length)) ∧
    (∀ (b : Byte) (rest : List Byte), judgeFrame (b :: rest) = .unknownCode →
      exec (.unknownRequestCode (b :: rest)) s = .next (counted rest.length)) ∧
    (∀ (frame : List Byte) (d : State),
      (frame = [] ∧ d = s) ∨
        (∃ (b : Byte) (rest : List Byte), frame = b :: rest ∧ b ≠ 0x02 ∧ (code = 0x03 ∨ frame ≠ [0x03, 0x00]) ∧
          d = counted rest.length) →
      (∀ st p, answer = some (st, p) →
        (¬ last → exec (.discardedRequest frame) s = .next d) ∧
        (last → exec (.discardedRequest frame) s =
          .next (d.setLink { d.link with state := .responseReady st p }))) ∧
      (answer = none → ∀ (c : Instr) (body : State → Reply), decodePayload code payload = some c →
        requestBody c = some body → (body d).state.quiet →
        let link (state : LinkState) : State := (body d).state.setLink { (body d).state.link with state := state }
        (¬ last → exec (.discardedRequest frame) s =
          .next (link (.executing code payload (some ((body d).status, (body d).payload))))) ∧
        (last → exec (.discardedRequest frame) s = .next (link (.responseReady (body d).status (body d).payload))))) ∧
    (code ≠ 0x03 → last → ∃ t : State, exec .restart s = .next t ∧ exec (.discardedRequest [0x03, 0x00]) s = .next t ∧
      t.link.state = .responseReady .ok [] ∧ t.link.badFrames = 0 ∧ t.link.discarded = 0)

/-- COLLECT delivers a waiting response whole or not at all, and in the other link states changes nothing (R199). -/
def Obligations.CollectDeliversAWholeResponse : Prop :=
  ∀ (s : State) (n : Nat), s.powered = true → n ≠ 0 →
    (∀ (st : Status) (payload : List Byte), s.link.state = .responseReady st payload →
      let whole : List Byte := [0x12, st.code, BitVec.ofNat 8 payload.length] ++ payload
      (payload.length + 3 ≤ n → ∃ t : State,
        exec (.collect n) s = .next t ∧ t.rdyActive = false ∧
        t = s.setLink { s.link with state := .idle, sent := whole ++ List.replicate (n - (payload.length + 3)) 0 }) ∧
      (n < payload.length + 3 → exec (.collect n) s = .next (s.setLink { s.link with sent := whole.take n }))) ∧
    ((∀ (st : Status) (payload : List Byte), s.link.state ≠ .responseReady st payload) →
      exec (.collect n) s = .next (s.setLink
        { s.link with sent := s.link.state.code :: List.replicate (n - 1) 0 }))

/-- IDENTIFY answers the vendor, part and revision codes and the strap, before a RESTART and after it, and changes
nothing (R212). COUNTERS_READ answers the counters of the link, the scan and the arms as they stand, and clears them
only when asked (R213). -/
def Obligations.IdentifyAndCountersAreRead : Prop :=
  (∀ s : State, s.takesRequests →
     exec .identify s = .next (s.respond .identify
       { status := .ok, payload := [0x00, 0xA3, 0x03, 0x64, 0x42, if s.oneArm then 1 else 2], state := s }) ∧
     ∀ t : State, exec .restart s = .next t → exec .identify t = .next (t.respond .identify
       { status := .ok, payload := [0x00, 0xA3, 0x03, 0x64, 0x42, if s.oneArm then 1 else 2], state := t })) ∧
  (∀ (s : State) (clear : Byte), s.takesRequests →
     let touch (a : Arm) : List Byte :=
       if s.present a then
         [1, if (s.touch.get a).armed then 1 else 0, (s.touch.get a).trigger.code,
           if (s.touch.get a).slot.isSome then 1 else 0]
         ++ twoBytes (((s.touch.get a).slot.bind PointRecord.touchNumber).getD 0) ++ twoBytes (s.touch.get a).nextNumber
         ++ twoBytes (s.touch.get a).bounces ++ twoBytes (s.touch.get a).strays ++ twoBytes (s.touch.get a).overruns
       else List.replicate 14 0
     let payload := twoBytes s.link.badFrames ++ twoBytes s.link.discarded ++ twoBytes s.scanner.overruns
       ++ touch .zero ++ touch .one
     (1 < clear.toNat → exec (.countersRead clear) s =
       .next (s.respond (.countersRead clear) { status := .badArgument, payload := [], state := s })) ∧
     (clear = 0 → exec (.countersRead clear) s =
       .next (s.respond (.countersRead clear) { status := .ok, payload, state := s })) ∧
     (clear = 1 → ∃ t : State, exec (.countersRead clear) s =
         .next (s.respond (.countersRead clear) { status := .ok, payload, state := t }) ∧
       t = { s with
         link := { s.link with badFrames := 0, discarded := 0 }
         scanner := { s.scanner with overruns := 0 }
         touch := ⟨{ s.touch.zero with bounces := 0, strays := 0, overruns := 0 },
                   { s.touch.one with bounces := 0, strays := 0, overruns := 0 }⟩ }))

/-- The settings table: each number's range and its default (R204). SETTING_WRITE stores the value clamped to the
setting's range and answers it; a W below K lowers K; every other setting keeps its value; and SETTING_READ answers
the value stored (R203, R204). A write that changes the stored W or K of a string empties the outcome windows of that
string and changes nothing else of a record (R51). A hold limit makes every HELD group of at least that age STALE with
its factor, raises GROUP if there is one, and leaves the other groups as they are (R70, R78). -/
def Obligations.SettingsAreClampedStoredAndRead : Prop :=
  ((∀ s : State,
     ((List.range 13).map fun n => (settingArg (BitVec.ofNat 8 n)).map s.settingRange) =
       [none, some (0, 10000), some (1, 32), some (1, (s.string .zero).windowLength), some (1, 32),
        some (1, (s.string .one).windowLength), some (1, 3600), some (1, 250), some (1, 250), some (100, 5000),
        some (1000, 600000), some (1000, 600000), some (1000, 60000)]) ∧
   (∀ b : Byte, 12 < b.toNat → settingArg b = none) ∧
   ((List.range 13).map fun n => (settingArg (BitVec.ofNat 8 n)).map State.reset.settingValue) =
     [none, some 2000, some 8, some 3, some 8, some 3, some 600, some 20, some 20, some 1500, some 60000, some 30000,
      some 10000]) ∧
  (∀ (s : State) (number : Byte) (k : Setting) (w : Word), s.takesRequests → settingArg number = some k →
     s.settingAbsent k = false → 1 ≤ (s.settingRange k).2 → ∃ (t : State) (n : Nat) (clamped : Bool),
       exec (.settingWrite number w) s = .next (s.respond (.settingWrite number w)
         { status := if clamped then .clamped else .ok, payload := number :: natBytes n, state := t }) ∧
       (n : Int) = max ((s.settingRange k).1 : Int) (min ((s.settingRange k).2 : Int) w.toInt) ∧
       (clamped = true ↔ (n : Int) ≠ w.toInt ∨ ∃ g, k = .windowLength g ∧ n < (s.string g).faultCount) ∧
       t.settingValue k = n ∧
       (∀ g, k = .windowLength g → (t.string g).faultCount = min (s.string g).faultCount n) ∧
       (∀ j : Setting, j ≠ k → (∀ g, k = .windowLength g → j ≠ .faultCount g) → t.settingValue j = s.settingValue j) ∧
       t.library.tips = s.library.tips ∧ t.arms = s.arms ∧ t.zones = s.zones ∧ t.link = s.link ∧
       (∀ (g : Strg) (i : Fin 16), t.sensor g i = (s.sensor g i).map fun r =>
         if (k = .windowLength g ∨ k = .faultCount g) ∧
             ((t.string g).windowLength ≠ (s.string g).windowLength ∨ (t.string g).faultCount ≠ (s.string g).faultCount)
         then { r with window := [] } else r) ∧
       (k ≠ .holdLimit → t.scanner.groups = s.scanner.groups ∧ t.comp = s.comp ∧ t.attention = s.attention) ∧
       (k = .holdLimit →
         let due (g : TempGroup) : Prop := ∃ v m, (s.scanner.groups.get g).state = .held v m ∧ n ≤ m
         let stale (f : Factor) : Factor := { value := f.value, marks := { f.marks with held := false, stale := true } }
         (∀ g : TempGroup,
           (∀ v m, (s.scanner.groups.get g).state = .held v m → n ≤ m → t.scanner.groups.get g =
             { state := .stale v m, contributors := (s.scanner.groups.get g).contributors }) ∧
           (¬ due g → t.scanner.groups.get g = s.scanner.groups.get g)) ∧
         (∀ (a : Arm) (i : Axis),
           (due (.scale a i) → (t.comp.factors.scale.get a).get i = stale ((s.comp.factors.scale.get a).get i)) ∧
           (¬ due (.scale a i) → (t.comp.factors.scale.get a).get i = (s.comp.factors.scale.get a).get i)) ∧
         (due .workpiece → t.comp.factors.workpiece = stale s.comp.factors.workpiece) ∧
         (¬ due .workpiece → t.comp.factors.workpiece = s.comp.factors.workpiece) ∧
         ((∃ g, due g) → t.attention.sources[12].flag = true) ∧
         ((∀ g, ¬ due g) → t.comp = s.comp ∧ t.attention = s.attention)) ∧
       (∀ r : State, r.takesRequests → r.settingAbsent k = false →
         exec (.settingRead number) r = .next (r.respond (.settingRead number)
           { status := .ok, payload := number :: natBytes (r.settingValue k), state := r })))

/-- A request that names an arm, a tip, a pocket, a zone or a string by a number outside its range is refused
BAD_ARGUMENT, and one that names arm 1 in a one-arm build NOT_PRESENT; either changes nothing (R30, R33, R37, R47,
R48, R61, R63, R95, R100, R120, R153, R159, R172, R174, R177 to R180). Arguments outside their lists are refused
BAD_ARGUMENT before a record is examined, and an arm-1 argument of the library in a one-arm build NOT_PRESENT:
TIP_QUALIFY, TIP_UNQUALIFY and TIP_FIND (R6, R14, R15), SENSOR_WRITE, SENSOR_RETIRE and SENSOR_READ (R44, R47, R48),
SCAN_CONTROL (R56), POCKET_WRITE (R119), ZONE_WRITE (R175), AXIS_HOME (R30), SETTING_WRITE and SETTING_READ (R203,
R204). -/
def Obligations.ArgumentsOutOfRangeAreRefused : Prop :=
  (∀ (s : State) (n : Byte), s.takesRequests → s.quiet →
     let refused (st : Status) (c : Instr) : Prop := exec c s = .next (s.respond c (refuse st s))
     (1 < n.toNat → (∀ c ∈ [Instr.positionRead n, .convert n, .touchTake n, .changeAbort n, .changeRead n, .holdRelease n,
         .holdRead n, .lineCheckRead n], refused .badArgument c) ∧ (∀ v, refused .badArgument (.probeArm n v)) ∧
       (∀ i w, refused .badArgument (.axisHome n i w)) ∧ (∀ o d z, refused .badArgument (.armSetup n o d z)) ∧
       (∀ p, refused .badArgument (.lineCheck n p)) ∧ (∀ i, refused .badArgument (.sensorRetire n i)) ∧
       ∀ i v, refused .badArgument (.sensorRead n i v)) ∧
     (63 < n.toNat → ∀ c ∈ [Instr.tipRead n, .tipRetire n, .tipPurge n], refused .badArgument c) ∧
     (19 < n.toNat → ∀ c ∈ [Instr.pocketRead n, .pocketClearForeign n], refused .badArgument c) ∧
     (15 < n.toNat → ∀ c ∈ [Instr.zoneRead n, .zoneSuspend n, .zoneResume n, .zoneDelete n], refused .badArgument c) ∧
     (s.oneArm = true → n = 1 → (∀ c ∈ [Instr.positionRead n, .convert n, .touchTake n, .changeAbort n, .changeRead n,
         .holdRelease n, .holdRead n, .probeArm n 0, .probeArm n 1], refused .notPresent c) ∧
       (∀ i w, i.toNat ≤ 2 → refused .notPresent (.axisHome n i w)) ∧
       ∀ (o : Axes Word) (d : Axes Byte) (z : Axes Word), (∀ i, (d.get i).toNat ≤ 1) →
         refused .notPresent (.armSetup n o d z))) ∧
  (∀ s : State, s.takesRequests → s.quiet →
     let refused (st : Status) (c : Instr) : Prop := exec c s = .next (s.respond c (refuse st s))
     let listed (top : Nat) (b : Byte) : Prop := b.toNat ≤ top ∨ b = 0xFF
     (∀ (tip arm : Byte) (dx dy dz r : Word) (source : Byte) (temp : Word),
       let c := Instr.tipQualify tip arm dx dy dz r source temp
       let d := Instr.tipUnqualify tip arm
       (63 < tip.toNat ∨ 1 < arm.toNat → refused .badArgument c ∧ refused .badArgument d) ∧
       (1 < source.toNat → refused .badArgument c) ∧
       (tip.toNat ≤ 63 → arm = 1 → s.oneArm = true → refused .notPresent d ∧ (source.toNat ≤ 1 → refused .notPresent c))) ∧
     (∀ state cls loc e0 q0 e1 q1 cursor : Byte,
       let c := Instr.tipFind state cls loc e0 q0 e1 q1 cursor
       let good : Prop := listed 2 state ∧ listed 3 cls ∧ listed 3 loc ∧ listed 1 e0 ∧ listed 1 q0 ∧ listed 1 e1 ∧
         listed 1 q1 ∧ listed 63 cursor
       (¬ good → refused .badArgument c) ∧
       (good → s.oneArm = true → e1 ≠ 0xFF ∨ q1 ≠ 0xFF → refused .notPresent c)) ∧
     (∀ (string address binding : Byte) (trim : Word) (shift clear : Byte),
       (1 < string.toNat ∨ 15 < address.toNat →
         refused .badArgument (.sensorWrite string address binding trim shift) ∧
         refused .badArgument (.sensorRetire string address) ∧ refused .badArgument (.sensorRead string address clear)) ∧
       (¬ listed 8 binding → refused .badArgument (.sensorWrite string address binding trim shift)) ∧
       (1 < clear.toNat → refused .badArgument (.sensorRead string address clear))) ∧
     (∀ (mode given : Byte) (period : Word), 2 < mode.toNat ∨ 1 < given.toNat →
       refused .badArgument (.scanControl mode given period)) ∧
     (∀ (pocket state g0 : Byte) (box0 : Axes Bounds) (g1 : Byte) (box1 : Axes Bounds),
       19 < pocket.toNat ∨ 1 < g0.toNat ∨ 1 < g1.toNat →
       refused .badArgument (.pocketWrite pocket state g0 box0 g1 box1)) ∧
     (∀ (zone kind arm : Byte) (box : Axes Bounds) (margin : Word), 15 < zone.toNat →
       refused .badArgument (.zoneWrite zone kind arm box margin)) ∧
     (∀ (arm axis : Byte) (v : Word), 2 < axis.toNat → refused .badArgument (.axisHome arm axis v)) ∧
     (∀ (number : Byte) (w : Word),
       (number = 0 ∨ 12 < number.toNat → refused .badArgument (.settingWrite number w) ∧
         refused .badArgument (.settingRead number)) ∧
       (number = 8 → s.oneArm = true → refused .notPresent (.settingWrite number w) ∧
         refused .notPresent (.settingRead number))))

/-- Every well-formed request frame but RESTART, taken while the link is not EXECUTING, is answered: the link is
RESPONSE_READY with the owning block's answer and has sent its state of before. A refusal has length 0 and changes
nothing else (R196, R198, R200). No request changes the queue, the strap, the power or the level of FRZ. That a
request and its answer are one step is the model's choice (log 3). -/
def Obligations.RequestsAreAnsweredAndRefusalsChangeNothing : Prop :=
  ∀ (s : State) (c : Instr), s.takesRequests → s.quiet → c.wellFormed = true → (∃ q, encodeRequest c = some q) →
    c ≠ .restart → ∃ (t : State) (st : Status) (payload : List Byte), exec c s = .next t ∧
      t.link.state = .responseReady st payload ∧
      t.link.sent = (s.link.state.code :: List.replicate (frameLength c - 1) 0) ∧
      t.pending = s.pending ∧ t.oneArm = s.oneArm ∧ t.powered = true ∧ t.frz = s.frz ∧ t.rdyActive = true ∧
      (st.refusal = true → payload = [] ∧ SameButLink s t)

/-- The frame of every well-formed command that has one is read back as the command, and is judged a well-formed
request or a COLLECT (R197, R201, R202, R205). -/
def Obligations.FramesAreReadBack : Prop :=
  ∀ (c : Instr) (f : List Byte), c.wellFormed = true → encodeFrame c = some f →
    decodeFrame f = some c ∧
    judgeFrame f = (match c with
      | .collect _ => .collect
      | _ => .wellFormed)

/-! ### Attention (spec 10) -/

/-- A raise sets the flag of its source and changes nothing else; ATTN is active exactly when a flagged, enabled
source has a level above the service level; in a one-arm build a source of arm 1 is not raised (R184, R186).
ATTN_FLAGS answers the flags as they stand and clears those named, or refuses a number outside 1 to 14 (R187).
ATTN_CONFIG writes the enable and the level of every source it names, all together, and no flag and no stack entry
(R188, R189). The byte of the level of ATTN in both answers, the two-byte set of the flags and the order of the
enables and levels, source by source, are the model's choice (log 11). -/
def Obligations.AttentionIsRaisedReadAndConfigured : Prop :=
  (∀ (s : State) (src : AttnSource), s.powered = true →
     (sourceArm src = some .one → s.oneArm = true → exec (.raiseReport src) s = .next s) ∧
     (¬ (sourceArm src = some .one ∧ s.oneArm = true) → ∃ t : State, exec (.raiseReport src) s = .next t ∧
       t = s.setSource (sourceIndex src) { s.attention.sources[sourceIndex src] with flag := true } ∧
       (t.attnActive = true ↔ ∃ i : Fin 14, t.attention.sources[i].flag = true ∧ t.attention.sources[i].enable = true ∧
         t.attention.stack.headD 0 < t.attention.sources[i].level))) ∧
  (∀ (s : State) (named : List Byte), s.takesRequests →
     (named.length ≤ 14 → (∃ b ∈ named, b = 0 ∨ 14 < b.toNat) → exec (.attnFlags named) s =
       .next (s.respond (.attnFlags named) { status := .badArgument, payload := [], state := s })) ∧
     (named.length ≤ 14 → (∀ b ∈ named, 1 ≤ b.toNat ∧ b.toNat ≤ 14) → ∃ t : State,
       exec (.attnFlags named) s = .next (s.respond (.attnFlags named)
         { status := .ok,
           payload := twoBytes (bitField (s.attention.sources.toList.map SourceRecord.flag))
             ++ [BitVec.ofNat 8 (s.attention.stack.headD 0).val, if t.attnActive then 1 else 0],
           state := t }) ∧
       (∀ i : Fin 14, t.attention.sources[i] =
         { s.attention.sources[i] with
           flag := s.attention.sources[i].flag && !named.any fun b => b.toNat == i.val + 1 }) ∧
       t.attention.stack = s.attention.stack ∧ { t with attention := s.attention } = s)) ∧
  (∀ (s : State) (entries : List AttnEntry), s.takesRequests →
     let legal (e : AttnEntry) : Prop := 1 ≤ e.source.toNat ∧ e.source.toNat ≤ 14 ∧ e.enable.toNat ≤ 1
     (entries.length ≤ 14 → ((∃ e ∈ entries, ¬ legal e) ∨ ¬ (entries.map AttnEntry.source).Nodup) →
       exec (.attnConfig entries) s =
         .next (s.respond (.attnConfig entries) { status := .badArgument, payload := [], state := s })) ∧
     (entries.length ≤ 14 → (∀ e ∈ entries, legal e) → (entries.map AttnEntry.source).Nodup → ∃ t : State,
       exec (.attnConfig entries) s = .next (s.respond (.attnConfig entries)
         { status := if ∃ e ∈ entries, 3 < e.level.toNat then .clamped else .ok,
           payload := t.attention.sources.toList.flatMap (fun r =>
               [if r.enable then 1 else 0, BitVec.ofNat 8 r.level.val])
             ++ BitVec.ofNat 8 s.attention.stack.length :: s.attention.stack.reverse.map (fun l => BitVec.ofNat 8 l.val)
             ++ [if t.attnActive then 1 else 0],
           state := t }) ∧
       (∀ (i : Fin 14) (e : AttnEntry), e ∈ entries → e.source.toNat = i.val + 1 →
         t.attention.sources[i].flag = s.attention.sources[i].flag ∧
         t.attention.sources[i].enable = (e.enable == 1) ∧
         t.attention.sources[i].level.val = min e.level.toNat 3) ∧
       (∀ i : Fin 14, (∀ e ∈ entries, e.source.toNat ≠ i.val + 1) →
         t.attention.sources[i] = s.attention.sources[i]) ∧
       t.attention.stack = s.attention.stack ∧ { t with attention := s.attention } = s))

/-- ATTN_TAKE chooses the source of the highest level among those that qualify, and the lowest number among those of
that level; clears its flag and pushes its level; and without one answers NONE and changes nothing (R190, R191).
ATTN_RELEASE pops the top of the service stack, after which ATTN follows from the level below; on an empty stack it is
refused WRONG_STATE and changes nothing (R192). -/
def Obligations.AttnTakeAndReleaseMoveTheServiceLevel : Prop :=
  (∀ s : State, s.takesRequests →
     let qualifies (i : Fin 14) : Prop := s.attention.sources[i].flag = true ∧ s.attention.sources[i].enable = true ∧
       s.attention.stack.headD 0 < s.attention.sources[i].level
     (∀ i : Fin 14, qualifies i →
       (∀ j : Fin 14, qualifies j → s.attention.sources[j].level < s.attention.sources[i].level ∨
         s.attention.sources[j].level = s.attention.sources[i].level ∧ i ≤ j) →
       exec .attnTake s = .next (s.respond .attnTake
         { status := .ok,
           payload := [BitVec.ofNat 8 (i.val + 1), BitVec.ofNat 8 s.attention.sources[i].level.val],
           state := (s.setSource i { s.attention.sources[i] with flag := false }).setStack
             (s.attention.sources[i].level :: s.attention.stack) })) ∧
     ((∀ i : Fin 14, ¬ qualifies i) → exec .attnTake s = .next (s.respond .attnTake
       { status := .nothing, payload := [BitVec.ofNat 8 (s.attention.stack.headD 0).val], state := s }))) ∧
  (∀ s : State, s.takesRequests →
     (s.attention.stack = [] → exec .attnRelease s =
       .next (s.respond .attnRelease { status := .wrongState, payload := [], state := s })) ∧
     (∀ (top : Fin 4) (rest : List (Fin 4)), s.attention.stack = top :: rest → ∃ t : State,
       exec .attnRelease s = .next (s.respond .attnRelease
         { status := .ok, payload := [BitVec.ofNat 8 (rest.headD 0).val], state := t }) ∧
       t = s.setStack rest ∧
       (t.attnActive = true ↔ ∃ i : Fin 14, s.attention.sources[i].flag = true ∧ s.attention.sources[i].enable = true ∧
         rest.headD 0 < s.attention.sources[i].level)))

/-! ### The probe library (spec 01) -/

/-- The refusals of TIP_WRITE in their order (R6, R7). TIP_WRITE on a VACANT slot: the record is created on the arm
whose FOREIGN head has the ID, or where its home pocket's occupancy puts it (R8). TIP_WRITE on an ACTIVE record: the
class alone with the stored ID and home pocket; a new ID deletes the entries; a new home pocket places the record by
its occupancy; and a new ID for a MISSING record is claimed first, so that the record is on the arm whose FOREIGN head
has it (R9). -/
def Obligations.TipWriteFollowsItsRules : Prop :=
  (∀ (s : State) (tip : Byte) (id : Word) (cls home : Byte), s.takesRequests →
     let refusedWith (st : Status) : Prop :=
       exec (.tipWrite tip id cls home) s = .next (s.respond (.tipWrite tip id cls home) (refuse st s))
     (63 < tip.toNat ∨ 3 < cls.toNat ∨ 19 < home.toNat → refusedWith .badArgument) ∧
     ∀ (i : Fin 64) (p : Fin 20), tip.toNat = i.val → home.toNat = p.val → cls.toNat ≤ 3 →
       let taken : Prop := ∃ (j : Fin 64) (u : Tip), j ≠ i ∧ s.library.tips[j] = .active u ∧ (u.moduleId = id ∨ u.home = p)
       let bothHeads : Prop := s.oneArm = false ∧ ∀ a : Arm, (s.head a).state = .foreignModule (some id)
       (∀ t, s.library.tips[i] = .retired t → refusedWith .wrongState) ∧
       (∀ slot, s.library.tips[i] = slot → (∀ t, slot ≠ .retired t) →
         ((s.pocket p).state = .vacant → refusedWith .notFound) ∧
         ((s.pocket p).state ≠ .vacant →
           (slot = .vacant → (taken ∨ bothHeads) → refusedWith .duplicate) ∧
           ∀ t, slot = .active t →
             let moves : Prop := (id ≠ t.moduleId ∨ p ≠ t.home) ∧
               ((t.location ≠ .inPocket ∧ t.location ≠ .missing) ∨ s.tipNamed i = true)
             (moves → refusedWith .inUse) ∧
             (¬ moves → taken ∨ (t.location = .missing ∧ id ≠ t.moduleId ∧ bothHeads) → refusedWith .duplicate)))) ∧
  (∀ (s : State) (tip : Byte) (id : Word) (cls home : Byte) (i : Fin 64) (c : TipClass) (p : Fin 20), s.takesRequests →
     tip.toNat = i.val → classArg cls = some c → home.toNat = p.val → s.library.tips[i] = .vacant →
     (s.pocket p).state ≠ .vacant →
     (∀ (j : Fin 64) (u : Tip), j ≠ i → s.library.tips[j] = .active u → u.moduleId ≠ id ∧ u.home ≠ p) →
     ((∃ a : Arm, s.present a = true ∧ (s.head a).state = .foreignModule (some id)) →
       ∀ a : Arm, s.present a = true → (s.head a).state = .foreignModule (some id) →
         (s.present a.other = true → (s.head a.other).state ≠ .foreignModule (some id)) → ∃ t : State,
         exec (.tipWrite tip id cls home) s = .next (s.respond (.tipWrite tip id cls home)
           { status := .ok, payload := [tip, 1, 1, BitVec.ofNat 8 a.toNat], state := t }) ∧
         t.library.tips[i] =
           .active { moduleId := id, cls := c, home := p, location := .onArm a, entries := ⟨none, none⟩ } ∧
         t.head a = { s.head a with state := .tip, allowUnqualified := false } ∧ t.head a.other = s.head a.other ∧
         (∀ j : Fin 64, j ≠ i → t.library.tips[j] =
           match s.library.tips[j] with
           | .active u => .active { u with location := if u.location = .onArm a then .missing else u.location }
           | slot => slot) ∧
         { t.sequencer with head := s.sequencer.head } = s.sequencer ∧
         { t with library := s.library, sequencer := s.sequencer, attention := s.attention } = s) ∧
     ((∀ a : Arm, s.present a = true → (s.head a).state ≠ .foreignModule (some id)) → ∃ t : State,
         exec (.tipWrite tip id cls home) s = .next (s.respond (.tipWrite tip id cls home)
           { status := .ok, payload := [tip, 1, if (s.pocket p).occupied then 0 else 3, 0], state := t }) ∧
         t.library.tips[i] =
           .active { moduleId := id, cls := c, home := p, entries := ⟨none, none⟩,
                     location := if (s.pocket p).occupied then .inPocket else .missing } ∧
         (∀ j : Fin 64, j ≠ i → t.library.tips[j] = s.library.tips[j]) ∧
         t.pocket p = { s.pocket p with
           foreignMark := (s.pocket p).foreignMark && !(s.pocket p).occupied } ∧
         (∀ q : Fin 20, q ≠ p → t.pocket q = s.pocket q) ∧
         { t with library := s.library, rack := s.rack } = s ∧ { t.rack with pockets := s.rack.pockets } = s.rack)) ∧
  (∀ (s : State) (tip : Byte) (id : Word) (cls home : Byte) (i : Fin 64) (c : TipClass) (p : Fin 20) (t : Tip),
     s.takesRequests → tip.toNat = i.val → classArg cls = some c → home.toNat = p.val →
     s.library.tips[i] = .active t → (s.pocket p).state ≠ .vacant →
     (∀ (j : Fin 64) (u : Tip), j ≠ i → s.library.tips[j] = .active u → u.moduleId ≠ id ∧ u.home ≠ p) →
     let claimedBy (a : Arm) : Prop := s.present a = true ∧ (s.head a).state = .foreignModule (some id) ∧
       t.location = .missing ∧ id ≠ t.moduleId
     let answers (loc : Location) (u : State) : Prop :=
       exec (.tipWrite tip id cls home) s = .next (s.respond (.tipWrite tip id cls home)
         { status := .ok, payload := [tip, 1] ++ loc.bytes, state := u })
     let written (loc : Location) (u : State) : Prop :=
       u.library.tips[i] = .active { moduleId := id, cls := c, home := p, location := loc,
                                     entries := if id ≠ t.moduleId then ⟨none, none⟩ else t.entries }
     (id = t.moduleId ∧ p = t.home → answers t.location (s.setTip i (.active { t with cls := c }))) ∧
     ((id ≠ t.moduleId ∨ p ≠ t.home) → t.location = .inPocket ∨ t.location = .missing → s.tipNamed i = false →
       (∀ a : Arm, ¬ claimedBy a) →
       let loc : Location :=
         if p ≠ t.home ∨ t.location = .missing then (if (s.pocket p).occupied then .inPocket else .missing)
         else t.location
       ∃ u : State, answers loc u ∧ written loc u ∧
         (∀ j : Fin 64, j ≠ i → u.library.tips[j] = s.library.tips[j]) ∧
         (t.location = .inPocket → loc = .missing → u.attention.sources[10].flag = true) ∧
         (p ≠ t.home → loc = .inPocket → (u.pocket p).foreignMark = false) ∧
         { u with library := s.library, rack := s.rack, attention := s.attention } = s) ∧
     ((id ≠ t.moduleId ∨ p ≠ t.home) → s.tipNamed i = false →
       ∀ a : Arm, claimedBy a → ¬ claimedBy a.other → ∃ u : State, answers (.onArm a) u ∧
         written (.onArm a) u ∧
         u.head a = { s.head a with state := .tip, allowUnqualified := false } ∧ u.head a.other = s.head a.other ∧
         (∀ j : Fin 64, j ≠ i → u.library.tips[j] =
           match s.library.tips[j] with
           | .active v => .active { v with location := if v.location = .onArm a then .missing else v.location }
           | slot => slot) ∧
         { u.sequencer with head := s.sequencer.head } = s.sequencer ∧
         { u with library := s.library, rack := s.rack, sequencer := s.sequencer, attention := s.attention } = s))

/-- TIP_QUALIFY: its refusals in order, and the entry stored with the clamped values, the other arm's entry kept (R10,
R11). TIP_UNQUALIFY: its tests in order, and the deletion of the one entry (R12). -/
def Obligations.TipEntriesAreStoredAndDeleted : Prop :=
  (∀ (s : State) (tip arm : Byte) (dx dy dz r : Word) (source : Byte) (temp : Word) (i : Fin 64) (a : Arm),
     s.takesRequests → tip.toNat = i.val → arm.toNat = a.toNat → source.toNat ≤ 1 →
     let c := Instr.tipQualify tip arm dx dy dz r source temp
     let head := (s.scanner.groups.head.get a).state
     (s.present a = false → exec c s = .next (s.respond c (refuse .notPresent s))) ∧
     (s.present a = true →
       ((∀ t, s.library.tips[i] ≠ .active t) → exec c s = .next (s.respond c (refuse .wrongState s))) ∧
       ∀ t, s.library.tips[i] = .active t →
         ((∃ b, t.location = .inTransit b) → exec c s = .next (s.respond c (refuse .inUse s))) ∧
         ((∀ b, t.location ≠ .inTransit b) →
           (source.toNat = 1 → head = .empty → exec c s = .next (s.respond c (refuse .wrongState s))) ∧
           (source.toNat = 0 ∨ head ≠ .empty → ∃ (e : Entry) (clamped : Bool),
             exec c s = .next (s.respond c
               { status := if clamped then .clamped else .ok, payload := [tip, arm] ++ entryBlock (some e),
                 state := s.setTip i (.active { t with entries := t.entries.set a (some e) }) }) ∧
             e.state = .qualified ∧
             e.offset = ⟨max (-20000000) (min 20000000 dx.toInt), max (-20000000) (min 20000000 dy.toInt),
                         max (-20000000) (min 20000000 dz.toInt)⟩ ∧
             e.radius = max 0 (min 500000 r.toInt) ∧
             (source.toNat = 0 → e.temperature = max 0 (min 50000 temp.toInt)) ∧
             (source.toNat = 1 → head.value = some e.temperature) ∧
             (clamped = true ↔ e.offset ≠ ⟨dx.toInt, dy.toInt, dz.toInt⟩ ∨ e.radius ≠ r.toInt ∨
               (source.toNat = 0 ∧ e.temperature ≠ temp.toInt)))))) ∧
  (∀ (s : State) (tip arm : Byte) (i : Fin 64) (a : Arm),
     s.takesRequests → tip.toNat = i.val → arm.toNat = a.toNat → s.present a = true →
     let c := Instr.tipUnqualify tip arm
     ((∀ t, s.library.tips[i] ≠ .active t) → exec c s = .next (s.respond c (refuse .wrongState s))) ∧
     ∀ t, s.library.tips[i] = .active t →
       let held : Prop := t.location = .onArm a ∨ t.location = .inTransit a ∨
         ((s.change a).state ≠ .idle ∧ (s.change a).target = some i)
       (held → exec c s = .next (s.respond c (refuse .inUse s))) ∧
       (¬ held → t.entries.get a = none →
         exec c s = .next (s.respond c { status := .nothing, payload := [], state := s })) ∧
       (¬ held → t.entries.get a ≠ none → exec c s = .next (s.respond c
         { status := .ok, payload := [], state := s.setTip i (.active { t with entries := t.entries.set a none }) })))

/-- TIP_READ answers the record of the slot in the layout of R207 and changes nothing (R13, R207). TIP_FIND answers
the first eight matching tip numbers above the cursor in ascending order, and the "more" mark, whose byte is the model's
choice (log 11); a record matches when every given field agrees (R14, R15). TIP_RETIRE keeps every field of an ACTIVE record that stands in its pocket
or is MISSING and is not named by a change, and is refused otherwise (R16). TIP_PURGE makes a RETIRED record VACANT,
and on a VACANT or ACTIVE record is refused WRONG_STATE (R17). -/
def Obligations.TipsAreReadFoundRetiredAndPurged : Prop :=
  (∀ (s : State) (tip : Byte) (i : Fin 64), s.takesRequests → tip.toNat = i.val →
     let answers (payload : List Byte) : Prop :=
       exec (.tipRead tip) s = .next (s.respond (.tipRead tip) { status := .ok, payload, state := s })
     let entry (e : Option Entry) : List Byte :=
       match e with
       | some e => [1, if e.state = .qualified then 0 else 1] ++ intBytes e.offset.x ++ intBytes e.offset.y
           ++ intBytes e.offset.z ++ intBytes e.radius ++ intBytes e.temperature
       | none => List.replicate 22 0
     let fields (t : Tip) : List Byte := wordBytes t.moduleId ++ [t.cls.code, BitVec.ofNat 8 t.home.val]
       ++ t.location.bytes ++ entry t.entries.zero ++ entry t.entries.one
     (s.library.tips[i] = .vacant → answers [tip, 0]) ∧
     (∀ t, s.library.tips[i] = .active t → answers ([tip, 1] ++ fields t) ∧ ([tip, 1] ++ fields t).length = 54) ∧
     (∀ t, s.library.tips[i] = .retired t → answers ([tip, 2] ++ fields t))) ∧
  (∀ (s : State) (state cls loc e0 q0 e1 q1 cursor : Byte) (q : Pattern) (from_ : Option (Fin 64)), s.takesRequests →
     patternArg state cls loc e0 q0 e1 q1 = some q → optionalArg tipArg cursor = some from_ →
     s.oneArm = false ∨ (q.entry.one = none ∧ q.quality.one = none) →
     let agrees (t : Tip) : Prop := (∀ k, q.cls = some k → t.cls = k) ∧
       (∀ k : Fin 4, q.loc = some k → t.location.code.toNat = k.val) ∧
       ∀ a : Arm, (∀ b, q.entry.get a = some b → (t.entries.get a).isSome = b) ∧
         (∀ st, q.quality.get a = some st → ∃ e, t.entries.get a = some e ∧ e.state = st)
     let accepts (slot : TipSlot) : Prop :=
       match slot with
       | .vacant => q = { state := some 0, cls := none, loc := none, entry := ⟨none, none⟩, quality := ⟨none, none⟩ }
       | .active t => (q.state = none ∨ q.state = some 1) ∧ agrees t
       | .retired t => (q.state = none ∨ q.state = some 2) ∧ agrees t
     ∃ found : List (Fin 64),
       exec (.tipFind state cls loc e0 q0 e1 q1 cursor) s = .next (s.respond (.tipFind state cls loc e0 q0 e1 q1 cursor)
         { status := .ok,
           payload := BitVec.ofNat 8 (min 8 found.length) :: (found.take 8).map (fun i => BitVec.ofNat 8 i.val)
             ++ [if 8 < found.length then 1 else 0],
           state := s }) ∧
       found.Pairwise (· < ·) ∧
       ∀ i : Fin 64, i ∈ found ↔ (∀ k, from_ = some k → k < i) ∧ accepts s.library.tips[i]) ∧
  (∀ (s : State) (tip : Byte) (i : Fin 64), s.takesRequests → tip.toNat = i.val →
     let c := Instr.tipRetire tip
     ((∀ t, s.library.tips[i] ≠ .active t) → exec c s = .next (s.respond c (refuse .wrongState s))) ∧
     ∀ t, s.library.tips[i] = .active t →
       ((∃ a, t.location = .onArm a ∨ t.location = .inTransit a) ∨ s.tipNamed i = true →
         exec c s = .next (s.respond c (refuse .inUse s))) ∧
       (t.location = .inPocket ∨ t.location = .missing → s.tipNamed i = false →
         exec c s = .next (s.respond c { status := .ok, payload := [], state := s.setTip i (.retired t) }))) ∧
  (∀ (s : State) (tip : Byte) (i : Fin 64), s.takesRequests → tip.toNat = i.val →
     let c := Instr.tipPurge tip
     (∀ t, s.library.tips[i] = .retired t →
       exec c s = .next (s.respond c { status := .ok, payload := [], state := s.setTip i .vacant })) ∧
     ((∀ t, s.library.tips[i] ≠ .retired t) → exec c s = .next (s.respond c (refuse .wrongState s))))

/-- The five reports about a named tip move it as the table says when their precondition holds, and are refused
without an effect when it does not; a record that becomes MISSING raises TIP, and one that becomes IN_POCKET takes the
foreign mark off its home pocket (R5, R18, R118, R136, R144). That the answer stands in a field of State is the
model's choice (log 10). -/
def Obligations.ChangeReportsMoveTheTip : Prop :=
  ∀ (s : State) (a : Arm) (i : Fin 64), s.serves a →
    let missing (f : Tip → Prop) (c : Instr) : Prop :=
      (∀ t, s.library.tips[i] = .active t → ¬ f t) → exec c s = .next (s.setAnswer .refused)
    let moved (t : Tip) (loc : Location) (u : State) : Prop :=
      u.answer = some .applied ∧ u.library.tips[i] = .active { t with location := loc } ∧
      (∀ j : Fin 64, j ≠ i → u.library.tips[j] = s.library.tips[j]) ∧
      (loc = .missing → u.attention.sources[10].flag = true) ∧
      (loc ≠ .missing → u.attention = s.attention) ∧
      (loc = .inPocket → (u.pocket t.home).foreignMark = false) ∧ (loc ≠ .inPocket → u.rack = s.rack) ∧
      { u with library := s.library, attention := s.attention, rack := s.rack, sequencer := s.sequencer,
               answer := s.answer } = s
    missing (fun t => t.location = .onArm a) (.stowReleaseBegins a i) ∧
    missing (fun t => t.location = .inTransit a) (.stowTransferComplete a i) ∧
    missing (fun t => t.location = .inPocket) (.pickBegins a i) ∧
    missing (fun t => t.location = .inTransit a) (.identityMatched a i) ∧
    (∀ occupied, missing (fun t => t.location = .inTransit a) (.transitResolved a i occupied)) ∧
    ∀ t, s.library.tips[i] = .active t →
      (t.location = .onArm a → ∃ u, exec (.stowReleaseBegins a i) s = .next u ∧ moved t (.inTransit a) u ∧
        u.head a = { s.head a with state := .empty, allowUnqualified := false }) ∧
      (t.location = .inTransit a → ∃ u, exec (.stowTransferComplete a i) s = .next u ∧ moved t .inPocket u ∧
        u.sequencer = s.sequencer) ∧
      (t.location = .inPocket → ∃ u, exec (.pickBegins a i) s = .next u ∧ moved t (.inTransit a) u ∧
        u.sequencer = s.sequencer) ∧
      (∀ occupied, t.location = .inTransit a → ∃ u, exec (.transitResolved a i occupied) s = .next u ∧
        moved t (if occupied then .inPocket else .missing) u ∧ u.sequencer = s.sequencer) ∧
      (t.location = .inTransit a →
        (∀ (j : Fin 64) (v : Tip), s.library.tips[j] = .active v → v.location ≠ .onArm a) →
        ∃ u, exec (.identityMatched a i) s = .next u ∧ moved t (.onArm a) u ∧
          (u.head a).state = .tip ∧
          ((u.head a).allowUnqualified = true ↔ (s.change a).allow = true ∧ (s.change a).target = some i))

/-- An identity report in its four cases, and "module lost" (R19). A registration claim is granted to the arm whose
head is FOREIGN with the ID, whose head becomes TIP with the allow-unqualified mark clear, and is refused when there
is none (R8). That the answer stands in a field of State is the model's choice (log 10). -/
def Obligations.IdentitiesAreReportedAndClaimed : Prop :=
  (∀ (s : State) (a : Arm), s.serves a →
     let others (keep : Option (Fin 64)) (u : State) : Prop := ∀ j : Fin 64, some j ≠ keep → u.library.tips[j] =
       match s.library.tips[j] with
       | .active v => .active { v with location := if v.location = .onArm a then .missing else v.location }
       | slot => slot
     let raised (keep : Option (Fin 64)) (u : State) : Prop :=
       (∃ (j : Fin 64) (v : Tip), some j ≠ keep ∧ s.library.tips[j] = .active v ∧ v.location = .onArm a) →
         u.attention.sources[10].flag = true
     let frame (u : State) : Prop :=
       { u with library := s.library, attention := s.attention, rack := s.rack, sequencer := s.sequencer,
                answer := s.answer } = s ∧ u.head a.other = s.head a.other
     (∀ id : Option Word,
       ((id = none ∨ ∃ w, id = some w ∧ ∀ (j : Fin 64) (v : Tip), s.library.tips[j] = .active v → v.moduleId ≠ w) →
         ∃ u, exec (.identityReport a id) s = .next u ∧ u.answer = some .notMatched ∧ others none u ∧ raised none u ∧
           (u.head a).state = .foreignModule id ∧ frame u) ∧
       ∀ (w : Word) (i : Fin 64) (t : Tip), id = some w → s.library.tips[i] = .active t → t.moduleId = w →
         (∀ (j : Fin 64) (v : Tip), s.library.tips[j] = .active v → v.moduleId = w → j = i) →
         (t.location = .onArm a.other ∨ t.location = .inTransit a.other →
           ∃ u, exec (.identityReport a id) s = .next u ∧ u.answer = some .notMatched ∧ others none u ∧ raised none u ∧
             (u.head a).state = .foreignModule id ∧ frame u) ∧
         (t.location = .onArm a → ∃ u, exec (.identityReport a id) s = .next u ∧ u.answer = some .matched ∧
           u.library = s.library ∧ (u.head a).state = .tip ∧ (u.head a).allowUnqualified = false ∧ frame u) ∧
         (t.location = .inTransit a ∨ t.location = .inPocket ∨ t.location = .missing →
           ∃ u, exec (.identityReport a id) s = .next u ∧ u.answer = some .matched ∧ others (some i) u ∧
             raised (some i) u ∧ u.library.tips[i] = .active { t with location := .onArm a } ∧
             (u.head a).state = .tip ∧ (u.head a).allowUnqualified = false ∧ frame u)) ∧
     ((∀ (j : Fin 64) (v : Tip), s.library.tips[j] = .active v → v.location ≠ .onArm a) →
       exec (.moduleLost a) s = .next (s.setAnswer .refused)) ∧
     ((∃ (j : Fin 64) (v : Tip), s.library.tips[j] = .active v ∧ v.location = .onArm a) →
       ∃ u, exec (.moduleLost a) s = .next u ∧ u.answer = some .applied ∧ others none u ∧ raised none u ∧
         (u.head a).state = .empty ∧ frame u)) ∧
  (∀ (s : State) (id : Word), s.powered = true →
     ((∀ a : Arm, s.present a = true → (s.head a).state ≠ .foreignModule (some id)) →
       exec (.registrationClaim id) s = .next (s.setAnswer .claimRefused)) ∧
     ∀ a : Arm, s.present a = true → (s.head a).state = .foreignModule (some id) →
       (s.present a.other = true → (s.head a.other).state ≠ .foreignModule (some id)) →
       exec (.registrationClaim id) s = .next
         ((s.setHead a { s.head a with state := .tip, allowUnqualified := false }).setAnswer (.claimGranted a)))

/-- The two reports of the rack controller about a home pocket: the tip that belongs there becomes MISSING, or returns
with its entries SUSPECT; refused, an observed module without an expectation makes the pocket foreign (R20, R118).
That the answer stands in a field of State is the model's choice (log 10), and that no report concerns a VACANT pocket
is deduced (log 19). -/
def Obligations.HomePocketReports : Prop :=
  ∀ (s : State) (p : Fin 20), s.powered = true → (s.pocket p).state ≠ .vacant →
    ((∀ (j : Fin 64) (v : Tip), s.library.tips[j] = .active v → v.home = p → v.location ≠ .inPocket) →
      exec (.homePocketSeenEmpty p) s = .next (s.setAnswer .refused)) ∧
    ((∀ (j : Fin 64) (v : Tip), s.library.tips[j] = .active v → v.home = p → v.location ≠ .missing) →
      (s.expected p = true → exec (.homePocketSeenOccupied p) s = .next (s.setAnswer .refused)) ∧
      (s.expected p = false → ∃ u, exec (.homePocketSeenOccupied p) s = .next u ∧
        u.answer = some .refused ∧ u.rack = (s.setPocket p { s.pocket p with foreignMark := true }).rack ∧
        u.attention.sources[9].flag = true ∧
        { u with attention := s.attention, rack := s.rack, answer := s.answer } = s)) ∧
    ∀ (i : Fin 64) (t : Tip), s.library.tips[i] = .active t → t.home = p →
      (∀ (j : Fin 64) (v : Tip), s.library.tips[j] = .active v → v.home = p → j = i) →
      (t.location = .inPocket → ∃ u, exec (.homePocketSeenEmpty p) s = .next u ∧ u.answer = some .applied ∧
        u.library = (s.setTip i (.active { t with location := .missing })).library ∧
        u.attention.sources[9].flag = true ∧ u.attention.sources[10].flag = true ∧
        { u with library := s.library, attention := s.attention, answer := s.answer } = s) ∧
      (t.location = .missing → ∃ u, exec (.homePocketSeenOccupied p) s = .next u ∧ u.answer = some .applied ∧
        (∃ v : Tip, u.library = (s.setTip i (.active v)).library ∧ v.location = .inPocket ∧ v.moduleId = t.moduleId ∧
          v.cls = t.cls ∧ v.home = t.home ∧
          ∀ a : Arm, v.entries.get a = (t.entries.get a).map fun e => { e with state := .suspect }) ∧
        u.attention.sources[10].flag = true ∧
        u.rack = (s.setPocket p { s.pocket p with foreignMark := false }).rack ∧
        { u with library := s.library, attention := s.attention, rack := s.rack, answer := s.answer } = s)

/-- No two ACTIVE records share a module ID or a home pocket, and an arm has at most one record ON_ARM (R4, R5): every
step keeps it. -/
def Obligations.LibraryLawIsKept : Prop :=
  ∀ s t : State, LibraryLaw s → step s = .next t → LibraryLaw t

/-! ### The axes (spec 02) -/

/-- Counting: a step of one phase moves the count by one in the sense of the direction, and asks for the check points
of a REFERENCED arm; the same phase changes nothing; the first phase taken is held without a step; in FAULT the phase
held follows and nothing is counted (R26, R29, R36, R39). A quadrature error leaves the count, an over-range sets it
to the limit; either puts the axis in FAULT, adds the cause AXIS_FAULT, raises AXIS and makes the arm BLIND, which
drops its check points (R27, R28, R35, R165). That the first phase after RESTART is no step is R40's, held as an absent
phase (log 2). -/
def Obligations.PhasesAreCountedOrFault : Prop :=
  (∀ (s : State) (a : Arm) (i : Axis) (p : Phase), s.serves a →
     let r := s.axis a i
     let next : Phase → Phase := fun h =>
       match h with
       | .p0 => .p1
       | .p1 => .p2
       | .p2 => .p3
       | .p3 => .p0
     let held := s.setAxis a i { r with phase := some p }
     (r.phase = none → exec (.quadraturePhase a i p) s = .next held) ∧
     ((∃ c, r.state = .fault c) → exec (.quadraturePhase a i p) s = .next held) ∧
     ∀ h, r.phase = some h → (∀ c, r.state ≠ .fault c) →
       (p = h → exec (.quadraturePhase a i p) s = .next s) ∧
       ∀ d : Int, (p = next h ∧ d = 1) ∨ (h = next p ∧ d = -1) →
         let n := if r.direction = .normal then r.count + d else r.count - d
         let moved := s.setAxis a i { r with count := n, phase := some p }
         n ≤ 2147483647 → -2147483647 ≤ n →
         exec (.quadraturePhase a i p) s = .next (if s.referenced a then moved.askFormation a else moved)) ∧
  (∀ (s : State) (a : Arm) (i : Axis) (h p : Phase), s.serves a → (s.axis a i).phase = some h →
     (∀ c, (s.axis a i).state ≠ .fault c) →
     let r := s.axis a i
     let next : Phase → Phase := fun h =>
       match h with
       | .p0 => .p1
       | .p1 => .p2
       | .p2 => .p3
       | .p3 => .p0
     let faults (cause : FaultCause) (count : Int) : Prop := ∃ u : State,
       exec (.quadraturePhase a i p) s = .next u ∧
       u.arms = (s.setAxis a i { r with count := count, state := .fault cause, phase := some p }).arms ∧
       u.referenced a = false ∧
       (u.zones.hold.get a).causes = (s.zones.hold.get a).causes.add .axisFault ∧
       u.attention.sources[sourceIndex (.axis a)].flag = true ∧
       ((s.zones.hold.get a).causes = Causes.none →
         (u.touch.get a).armed = false ∧ u.attention.sources[sourceIndex (.hold a)].flag = true) ∧
       (s.referenced a = true → (u.zones.hold.get a).points = none ∧ (u.change a).lastReference = none) ∧
       (s.referenced a = false → (u.zones.hold.get a).points = (s.zones.hold.get a).points ∧ u.sequencer = s.sequencer) ∧
       u.zones.table = s.zones.table ∧ u.zones.grantee = s.zones.grantee ∧
       u.zones.hold.get a.other = s.zones.hold.get a.other ∧
       u.attention.stack = s.attention.stack ∧
       { u with arms := s.arms, zones := s.zones, touch := s.touch, sequencer := s.sequencer,
                attention := s.attention } = s
     (p = next (next h) → faults .quadrature r.count) ∧
     (r.count = 2147483647 → (p = next h ∧ r.direction = .normal) ∨ (h = next p ∧ r.direction = .reversed) →
       faults .overrange 2147483647) ∧
     (r.count = -2147483647 → (h = next p ∧ r.direction = .normal) ∨ (p = next h ∧ r.direction = .reversed) →
       faults .overrange (-2147483647)))

/-- AXIS_HOME puts the axis in SEEKING with the reference value, whatever its state, and makes a REFERENCED arm BLIND;
hold causes stay (R30, R35). A reference mark of a SEEKING axis sets the count to the reference value, makes the axis
REFERENCED and raises AXIS; the last of the three brings the check points; in any other axis state the mark changes
nothing (R29, R31, R32, R35). -/
def Obligations.ReferenceSearchSetsTheCount : Prop :=
  (∀ (s : State) (arm axis : Byte) (reference : Word) (a : Arm) (i : Axis), s.takesRequests → s.present a = true →
     arm.toNat = a.toNat → axis.toNat = i.toNat → ∃ u : State,
       exec (.axisHome arm axis reference) s = .next (s.respond (.axisHome arm axis reference)
         { status := if reference.toInt = -2147483648 then .clamped else .ok, payload := [1], state := u }) ∧
       u.arms = (s.setAxis a i { s.axis a i with state := .seeking (max (-2147483647) reference.toInt) }).arms ∧
       u.referenced a = false ∧
       (s.referenced a = true → u.zones = (s.setHold a { s.zones.hold.get a with points := none }).zones ∧
         u.sequencer = (s.setChange a { s.change a with lastReference := none }).sequencer) ∧
       (s.referenced a = false → u.zones = s.zones ∧ u.sequencer = s.sequencer) ∧
       { u with arms := s.arms, zones := s.zones, sequencer := s.sequencer } = s) ∧
  (∀ (s : State) (a : Arm) (i : Axis), s.serves a →
     ((∀ v, (s.axis a i).state ≠ .seeking v) → exec (.referenceMark a i) s = .next s) ∧
     ∀ v, (s.axis a i).state = .seeking v →
       let marked := s.setAxis a i { s.axis a i with count := v, state := .referenced }
       let last : Prop := ∀ j : Axis, j ≠ i → (s.axis a j).state = .referenced
       (last → exec (.referenceMark a i) s = .next ((marked.raise (.axis a)).askFormation a)) ∧
       (¬ last → exec (.referenceMark a i) s = .next (marked.raise (.axis a))))

/-- ARM_SETUP stores the origin, the directions and the fixed points, leaves the counts and states, answers the record
stored, and asks for the check points when a REFERENCED arm gets another origin or fixed point (R33, R34). -/
def Obligations.ArmSetupIsStored : Prop :=
  ∀ (s : State) (arm : Byte) (origin : Axes Word) (direction : Axes Byte) (s0 : Axes Word) (a : Arm), s.takesRequests →
    s.present a = true → arm.toNat = a.toNat →
    let c := Instr.armSetup arm origin direction s0
    ((∃ i, 1 < (direction.get i).toNat) → exec c s = .next (s.respond c (refuse .badArgument s))) ∧
    ((∀ i, (direction.get i).toNat ≤ 1) → ∃ (u : State) (clamped : Bool),
      exec c s = .next (s.respond c
        { status := if clamped then .clamped else .ok,
          payload := pointBytes (u.arms.get a).origin ++ [direction.x, direction.y, direction.z]
            ++ intBytes (u.axis a .x).s0 ++ intBytes (u.axis a .y).s0 ++ intBytes (u.axis a .z).s0,
          state := u }) ∧
      (clamped = true ↔ ∃ i, (origin.get i).toInt = -2147483648 ∨ (s0.get i).toInt = -2147483648) ∧
      (∀ i, (u.arms.get a).origin.get i = max (-2147483647) (origin.get i).toInt ∧
        u.axis a i = { s.axis a i with
          s0 := max (-2147483647) (s0.get i).toInt
          direction := if (direction.get i).toNat = 0 then .normal else .reversed }) ∧
      u.arms.get a.other = s.arms.get a.other ∧
      (s.referenced a = true ∧ (∃ i, (u.arms.get a).origin.get i ≠ (s.arms.get a).origin.get i ∨
          (u.axis a i).s0 ≠ (s.axis a i).s0) → u.comp = (s.askFormation a).comp) ∧
      (s.referenced a = false ∨ (∀ i, (u.arms.get a).origin.get i = (s.arms.get a).origin.get i ∧
          (u.axis a i).s0 = (s.axis a i).s0) → u.comp = s.comp) ∧
      { u with arms := s.arms, comp := s.comp } = s)

/-! ### The sensor strings and the scan (spec 03) -/

/-- SENSOR_WRITE registers a VACANT or RETIRED record afresh and changes a registered one, with trim and shift
clamped; it is refused for the groups of an absent arm and for a group at its capacity (R44, R45, R46). SENSOR_RETIRE
frees the place of a registered sensor and makes a sweep's transaction to it stale; on another record it is refused
(R47). SENSOR_READ answers the record and clears the bad-reading counter when asked (R48). -/
def Obligations.SensorRecordsAreWrittenRetiredAndRead : Prop :=
  (∀ (s : State) (string address binding : Byte) (trim : Word) (shift : Byte) (g : Strg) (i : Fin 16)
     (b : Option TempGroup), s.takesRequests → string.toNat = g.toNat → address.toNat = i.val →
     groupArg binding = some b →
     let c := Instr.sensorWrite string address binding trim shift
     let absent : Prop := s.oneArm = true ∧ (b = some (.head .one) ∨ ∃ k, b = some (.scale .one k))
     let isMember (o : Option Sensor) (k : TempGroup) : Prop :=
       ∃ r, o = some r ∧ r.binding = some k ∧ r.state ≠ .retired
     let full : Prop := ∃ k, b = some k ∧ ¬ isMember (s.sensor g i) k ∧
       (if k = .workpiece then 8 else 4) ≤
         ((List.finRange 16).countP fun j =>
             (s.sensor .zero j).any fun r => r.binding == some k && r.state != .retired) +
           ((List.finRange 16).countP fun j =>
             (s.sensor .one j).any fun r => r.binding == some k && r.state != .retired)
     let tr : Int := max (-2000) (min 2000 trim.toInt)
     let sh : Nat := min shift.toNat 7
     (absent → exec c s = .next (s.respond c (refuse .notPresent s))) ∧
     (¬ absent → full → exec c s = .next (s.respond c (refuse .full s))) ∧
     (¬ absent → ¬ full → ∃ (u : State) (clamped : Bool),
       exec c s = .next (s.respond c
         { status := if clamped then .clamped else .ok, payload := sensorRecord g i (u.sensor g i), state := u }) ∧
       (clamped = true ↔ tr ≠ trim.toInt ∨ sh ≠ shift.toNat) ∧
       ((∀ r, s.sensor g i = some r → r.state = .retired) →
         u.sensor g i = some { state := .active, binding := b, trim := tr, shift := sh, last := none, filtered := none,
                               window := [], badCount := 0 } ∧
         (u.string g).transaction = (s.string g).transaction.map fun t =>
           { t with stale := t.stale || decide (t.address = i ∧ t.owner = .sweep) }) ∧
       (∀ r, s.sensor g i = some r → r.state ≠ .retired →
         u.sensor g i = some { r with
           binding := b, trim := tr, shift := sh
           last := if tr = r.trim then r.last else none
           filtered := if tr = r.trim then r.filtered else none } ∧
         u.scanner.strings = s.scanner.strings) ∧
       (∀ (h : Strg) (j : Fin 16), (h, j) ≠ (g, i) → u.sensor h j = s.sensor h j) ∧
       u.string g.other = s.string g.other ∧
       { u.string g with transaction := (s.string g).transaction } = s.string g ∧
       { u.scanner with sensors := s.scanner.sensors, strings := s.scanner.strings } = s.scanner ∧
       { u with scanner := s.scanner } = s)) ∧
  (∀ (s : State) (string address clear : Byte) (g : Strg) (i : Fin 16), s.takesRequests → string.toNat = g.toNat →
     address.toNat = i.val →
     let c := Instr.sensorRetire string address
     let d := Instr.sensorRead string address clear
     ((∀ r, s.sensor g i = some r → r.state = .retired) → exec c s = .next (s.respond c (refuse .wrongState s))) ∧
     (∀ r, s.sensor g i = some r → r.state ≠ .retired → ∃ u : State,
       exec c s = .next (s.respond c { status := .ok, payload := [], state := u }) ∧
       u.sensor g i = some { r with state := .retired, binding := none } ∧
       (∀ (h : Strg) (j : Fin 16), (h, j) ≠ (g, i) → u.sensor h j = s.sensor h j) ∧
       ((u.string g).transaction = (s.string g).transaction.map fun t =>
         { t with stale := t.stale || decide (t.address = i ∧ t.owner = .sweep) }) ∧
       { u with scanner := s.scanner } = s) ∧
     (1 < clear.toNat → exec d s = .next (s.respond d (refuse .badArgument s))) ∧
     (clear = 0 → exec d s =
       .next (s.respond d { status := .ok, payload := sensorRecord g i (s.sensor g i), state := s })) ∧
     (clear = 1 → exec d s = .next (s.respond d
       { status := .ok, payload := sensorRecord g i (s.sensor g i),
         state := s.setSensor g i ((s.sensor g i).map fun r => { r with badCount := 0 }) })))

/-- The end of a sweep's transaction: parity, ready mark and range judge the reply, a value is converted and filtered,
the judgement enters the window, and the window moves the sensor to FAILED or back to ACTIVE (R42, R49, R50, R52,
R53). A stale transaction, or one whose record is no longer registered, leaves the sensors as they are (R43). The pass
then reads the lowest registered address above the one read, or ends when there is none, and a line check that waits
begins; while FRZ is active or the limit of RESTART runs, no transaction follows (R54, R60, R61, R65; log 28). -/
def Obligations.SweepReadingsAreJudged : Prop :=
  ∀ (s : State) (g : Strg) (t : Transaction), s.powered = true → (s.string g).transaction = some t → t.owner = .sweep →
    let enter (r : Sensor) (o : Judged) (last filtered : Option Int) (u : State) : Prop :=
      let w := (s.string g).windowLength
      let k := (s.string g).faultCount
      let window := (r.window ++ [o]).drop (r.window.length + 1 - w)
      let bads := window.countP (· == .bad)
      ∃ q : Sensor, u.sensor g t.address = some q ∧ q.binding = r.binding ∧ q.trim = r.trim ∧ q.shift = r.shift ∧
        q.last = last ∧ q.filtered = filtered ∧ q.window = window ∧
        q.badCount = (if o = .bad then bump r.badCount else r.badCount) ∧
        (r.state = .active → (k ≤ bads → q.state = .failed ∧ u.attention.sources[11].flag = true) ∧
          (bads < k → q.state = .active)) ∧
        (r.state = .failed → (window.length = w ∧ bads = 0 → q.state = .active) ∧
          (¬ (window.length = w ∧ bads = 0) → q.state = .failed))
    let others (u : State) : Prop := (∀ j : Fin 16, j ≠ t.address → u.sensor g j = s.sensor g j) ∧
      ∀ j : Fin 16, u.sensor g.other j = s.sensor g.other j
    (∀ c : Instr, (c = .replyTimeout g ∨ ∃ code ready parity, c = .transactionEnd g code ready parity) →
      (s.string g).pass = .reading (some t.address) → ∃ u, exec c s = .next u ∧
        (s.frz = true ∨ (s.string g).limit = true → (u.string g).transaction = none) ∧
        (∀ (j : Fin 16) (r : Sensor), t.address < j → s.sensor g j = some r → r.state ≠ .retired →
          (∀ i : Fin 16, t.address < i → i < j → ∀ q, s.sensor g i = some q → q.state = .retired) →
          s.frz = false → (s.string g).limit = false →
          (u.string g).transaction = some { address := j, owner := .sweep, stale := false } ∧
          (u.string g).pass = .reading (some j)) ∧
        ((∀ (j : Fin 16) (r : Sensor), t.address < j → s.sensor g j = some r → r.state = .retired) →
          (u.string g).pass = .ended ∧
          ((s.string g).check.state = .running → s.frz = false → (s.string g).limit = false →
            (u.string g).transaction =
              some { address := (s.string g).check.next, owner := .lineCheck, stale := false }) ∧
          ((s.string g).check.state ≠ .running → (u.string g).transaction = none))) ∧
    (t.stale = true ∨ (∀ r, s.sensor g t.address = some r → r.state = .retired) →
      (∃ u, exec (.replyTimeout g) s = .next u ∧ u.scanner.sensors = s.scanner.sensors) ∧
      ∀ code ready parity, ∃ u, exec (.transactionEnd g code ready parity) s = .next u ∧
        u.scanner.sensors = s.scanner.sensors) ∧
    ∀ r, s.sensor g t.address = some r → r.state ≠ .retired → t.stale = false →
      (∃ u, exec (.replyTimeout g) s = .next u ∧ others u ∧ enter r .bad r.last r.filtered u) ∧
      ∀ (code : BitVec 16) (ready parity : Bool), ∃ u, exec (.transactionEnd g code ready parity) s = .next u ∧
        others u ∧
        (let bits := ((List.range 16).countP fun i => code.getLsbD i) + ready.toNat + parity.toNat
         let v := roundDiv (code.toInt * 125) 8 + r.trim
         (bits % 2 = 1 → enter r .bad r.last r.filtered u) ∧
         (bits % 2 = 0 → ready = false → u.sensor g t.address = some r) ∧
         (bits % 2 = 0 → ready = true → v < 0 ∨ 50000 < v → enter r .bad (some v) r.filtered u) ∧
         (bits % 2 = 0 → ready = true → 0 ≤ v → v ≤ 50000 →
           enter r .good (some v)
             (some (match r.filtered with
               | none => v
               | some f => f + roundDiv (v - f) (2 ^ r.shift))) u))

/-- A line check: LINE_CHECK starts one with the passes clamped to 1 to 16 and is refused while one runs (R61); each
of its readings counts a BAD one of a registered sensor or notes a GOOD one of an unregistered address, and the check
goes on to the next address, the next pass, or its end, which raises LINE_CHECK (R62, R63); it touches no sensor
record. -/
def Obligations.LineChecksReadEveryAddress : Prop :=
  ∀ (s : State) (g : Strg),
    (∀ string passes : Byte, s.takesRequests → string.toNat = g.toNat →
      let c := Instr.lineCheck string passes
      ((s.string g).check.state = .running → exec c s = .next (s.respond c (refuse .inUse s))) ∧
      ((s.string g).check.state ≠ .running → ∃ u : State,
        exec c s = .next (s.respond c
          { status := if 1 ≤ passes.toNat ∧ passes.toNat ≤ 16 then .ok else .clamped, payload := [], state := u }) ∧
        (u.string g).check = { LineCheck.reset with state := .running, requested := max 1 (min 16 passes.toNat) } ∧
        u.scanner.sensors = s.scanner.sensors ∧
        ((s.string g).transaction = none → (u.string g).pass = .ended ∧
          (s.frz = false → (s.string g).limit = false →
            (u.string g).transaction = some { address := 0, owner := .lineCheck, stale := false })) ∧
        (∀ t, (s.string g).transaction = some t → (u.string g).transaction = some t ∧
          (u.string g).pass = (s.string g).pass))) ∧
    (∀ (t : Transaction), s.powered = true → (s.string g).transaction = some t → t.owner = .lineCheck →
      let check := (s.string g).check
      let noted (e : LineEnd) : LineCheck → Prop := fun q =>
        let x := classify (((s.sensor g t.address).filter Sensor.readable).map Sensor.trim |>.getD 0) e
        (∀ j : Fin 16, q.failedPasses[j] = check.failedPasses[j] +
          (if j = t.address ∧ (s.sensor g t.address).any Sensor.readable ∧ x.judged = some .bad then 1 else 0)) ∧
        (∀ j : Fin 16, q.answered[j] = (check.answered[j] || decide (j = t.address ∧
          ¬ (s.sensor g t.address).any Sensor.readable ∧ x.judged = some .good))) ∧
        q.requested = check.requested ∧
        (t.address.val < 15 → q.next.val = t.address.val + 1 ∧ q.completed = check.completed ∧ q.state = check.state) ∧
        (t.address.val = 15 → q.next = 0 ∧ q.completed = check.completed + 1 ∧
          (check.completed + 1 < check.requested → q.state = check.state) ∧
          (check.requested ≤ check.completed + 1 →
            ((∀ j : Fin 16, q.failedPasses[j] = 0) → q.state = .done) ∧
            ((∃ j : Fin 16, q.failedPasses[j] ≠ 0) → q.state = .failed)))
      (∃ u, exec (.replyTimeout g) s = .next u ∧ noted .silent (u.string g).check ∧
        ((u.string g).check.state ≠ .running → u.attention.sources[13].flag = true) ∧
        u.scanner.sensors = s.scanner.sensors) ∧
      ∀ code ready parity, ∃ u, exec (.transactionEnd g code ready parity) s = .next u ∧
        noted (.reply code ready parity) (u.string g).check ∧
        ((u.string g).check.state ≠ .running → u.attention.sources[13].flag = true) ∧
        u.scanner.sensors = s.scanner.sensors)

/-- SCAN_CONTROL stores the mode and a clamped period and moves the scan as its table says. Where a sweep begins with
a sensor to read, the scan is SWEEPING and each free string reads its lowest registered address; where there is none,
the sweep ends at once (R54, R55, R56, R57, R58). An expiry of the scan timer restarts it with the stored period;
WAITING in CONTINUOUS it begins a sweep; a CONTINUOUS sweep in flight counts an overrun; during FRZ, or with the timer
stopped, there is none (R58, R60); that the command then changes nothing is the model's choice (log 7). -/
def Obligations.ScanFollowsItsTable : Prop :=
  (∀ (s : State) (mode given : Byte) (period : Word) (m : ScanMode), s.takesRequests → scanModeArg mode = some m →
     given.toNat ≤ 1 →
     let c := Instr.scanControl mode given period
     let stored : Nat := if given.toNat = 1 then max 100 (min 60000 period.toNat) else s.scanner.period
     let begins : Prop := (s.scanner.state = .stopped ∧ m ≠ .stop) ∨ (s.scanner.state = .waiting ∧ m = .single)
     let toRead (g : Strg) : Prop := (s.string g).check.state ≠ .running ∧ (s.string g).transaction = none ∧
       ∃ (i : Fin 16) (r : Sensor), s.sensor g i = some r ∧ r.state ≠ .retired
     ∃ u : State, exec c s = .next (s.respond c
         { status := if given.toNat = 1 ∧ stored ≠ period.toNat then .clamped else .ok,
           payload := [u.scanner.state.code, u.scanner.mode.code] ++ natBytes u.scanner.period, state := u }) ∧
       u.scanner.mode = m ∧ u.scanner.period = stored ∧ u.scanner.sensors = s.scanner.sensors ∧
       (¬ begins → { u with scanner := s.scanner } = s ∧
         { u.scanner with state := s.scanner.state, mode := s.scanner.mode, period := s.scanner.period,
                          timer := s.scanner.timer } = s.scanner ∧
         (s.scanner.state = .stopped → u.scanner.state = .stopped ∧ u.scanner.timer = s.scanner.timer) ∧
         (s.scanner.state = .waiting → m = .continuous →
           u.scanner.state = .waiting ∧ u.scanner.timer = s.scanner.timer) ∧
         (s.scanner.state = .waiting → m = .stop → u.scanner.state = .stopped ∧ u.scanner.timer = none) ∧
         (s.scanner.state = .sweeping → m ≠ .stop →
           u.scanner.state = .sweeping ∧ u.scanner.timer = s.scanner.timer) ∧
         (s.scanner.state = .sweeping → m = .stop → u.scanner.state = .stopping ∧ u.scanner.timer = none) ∧
         (s.scanner.state = .stopping → m ≠ .stop →
           u.scanner.state = .sweeping ∧ u.scanner.timer = some stored) ∧
         (s.scanner.state = .stopping → m = .stop →
           u.scanner.state = .stopping ∧ u.scanner.timer = s.scanner.timer)) ∧
       (begins → ∀ g, toRead g →
         u.scanner.state = .sweeping ∧
         u.scanner.timer = (if s.scanner.state = .stopped then some stored else s.scanner.timer) ∧
         (s.frz = false → (s.string g).limit = false → ∀ (i : Fin 16) (r : Sensor), s.sensor g i = some r →
           r.state ≠ .retired → (∀ j < i, ∀ q, s.sensor g j = some q → q.state = .retired) →
           (u.string g).transaction = some { address := i, owner := .sweep, stale := false })) ∧
       (begins → (∀ g, (s.string g).pass = .ended ∧ (s.string g).transaction = none ∧ ((s.string g).check.state = .running ∨
           ∀ (i : Fin 16) (r : Sensor), s.sensor g i = some r → r.state = .retired)) →
         u.scanner.state = (if m = .continuous then .waiting else .stopped) ∧
         u.scanner.timer = (if m = .continuous then some stored else none))) ∧
  (∀ s : State, s.powered = true →
     (s.scanner.timer = none ∨ s.frz = true → exec .scanTimerExpiry s = .next s) ∧
     (s.scanner.timer ≠ none → s.frz = false →
       (s.scanner.state = .waiting → s.scanner.mode = .continuous → ∃ u, exec .scanTimerExpiry s = .next u ∧
         u.scanner.timer = some s.scanner.period ∧ u.scanner.overruns = s.scanner.overruns ∧
         u.scanner.sensors = s.scanner.sensors ∧
         ∀ g, (s.string g).check.state ≠ .running → (s.string g).transaction = none → (s.string g).limit = false →
           ∀ (i : Fin 16) (r : Sensor), s.sensor g i = some r → r.state ≠ .retired →
             (∀ j < i, ∀ q, s.sensor g j = some q → q.state = .retired) →
             u.scanner.state = .sweeping ∧
             (u.string g).transaction = some { address := i, owner := .sweep, stale := false }) ∧
       (s.scanner.state = .sweeping → exec .scanTimerExpiry s = .next { s with scanner := { s.scanner with
         timer := some s.scanner.period
         overruns := if s.scanner.mode = .continuous then bump s.scanner.overruns else s.scanner.overruns } })))

/-- While FRZ is active, or the 9 ms limit of RESTART runs on a string, no command begins a transaction, and the end of one
is followed by none (R60, R65). FRZ becoming active changes nothing but its level; becoming inactive, it lets each pass
and each check that waited begin its next transaction (R60, R62). The end of the limit lets the string begin
transactions again, at once for a pass or a check that waits unless FRZ is active (R65). The limit after a second
RESTART and the choice of the next address are the model's (log 13, log 28). -/
def Obligations.FrzAndTheRestartLimitHoldTransactions : Prop :=
  (∀ (c : Instr) (s t : State) (g : Strg) (x : Transaction), exec c s = .next t →
     t.frz = true ∨ (t.string g).limit = true → (t.string g).transaction = some x →
     ∃ y, (s.string g).transaction = some y ∧ y.address = x.address ∧ y.owner = x.owner) ∧
  (∀ (c : Instr) (s : State) (g : Strg), s.powered = true → s.frz = true ∨ (s.string g).limit = true →
     (c = .replyTimeout g ∨ ∃ code ready parity, c = .transactionEnd g code ready parity) →
     ∃ t, exec c s = .next t ∧ (t.string g).transaction = none) ∧
  (∀ s : State, s.powered = true →
     exec .frzActive s = .next { s with frz := true } ∧
     ∃ u, exec .frzInactive s = .next u ∧ u.frz = false ∧ u.scanner.sensors = s.scanner.sensors ∧
       { u with frz := s.frz, scanner := s.scanner, comp := s.comp, library := s.library,
                attention := s.attention } = s ∧
       ∀ g : Strg,
         (∀ t, (s.string g).transaction = some t → (u.string g).transaction = some t) ∧
         ((s.string g).transaction = none → (s.string g).limit = false →
           (∀ (last : Option (Fin 16)) (i : Fin 16) (r : Sensor), (s.string g).pass = .reading last →
             s.sensor g i = some r → r.state ≠ .retired → (∀ l, last = some l → l < i) →
             (∀ j < i, (∀ l, last = some l → l < j) → ∀ q, s.sensor g j = some q → q.state = .retired) →
             (u.string g).transaction = some { address := i, owner := .sweep, stale := false }) ∧
           ((s.string g).pass = .ended → (s.string g).check.state = .running → (u.string g).transaction =
             some { address := (s.string g).check.next, owner := .lineCheck, stale := false }))) ∧
  (∀ (s : State) (g : Strg), s.powered = true → ∃ u, exec (.restartTransactionLimitEnd g) s = .next u ∧
     (u.string g).limit = false ∧ u.scanner.sensors = s.scanner.sensors ∧ u.string g.other = s.string g.other ∧
     { u with scanner := s.scanner, comp := s.comp, library := s.library, attention := s.attention } = s ∧
     (∀ t, (s.string g).transaction = some t → (u.string g).transaction = some t) ∧
     ((s.string g).transaction = none → s.frz = true → (u.string g).transaction = none) ∧
     ((s.string g).transaction = none → s.frz = false →
       (∀ (last : Option (Fin 16)) (i : Fin 16) (r : Sensor), (s.string g).pass = .reading last →
         s.sensor g i = some r → r.state ≠ .retired → (∀ l, last = some l → l < i) →
         (∀ j < i, (∀ l, last = some l → l < j) → ∀ q, s.sensor g j = some q → q.state = .retired) →
         (u.string g).transaction = some { address := i, owner := .sweep, stale := false } ∧
         (u.string g).pass = .reading (some i)) ∧
       ((s.string g).pass = .ended → (s.string g).check.state = .running → (u.string g).transaction =
         some { address := (s.string g).check.next, owner := .lineCheck, stale := false })))

/-- The hold age of a HELD or STALE group grows by one up to 65,535 at each full second after its own sweep end, and no
state or value changes (R69): a tick is the second of the groups next in turn, which then come last. A HELD group whose age has reached the hold limit becomes STALE: GROUP is raised, its factor takes the STALE mark in place of
HELD with its value kept, and a REFERENCED arm whose scale factor changed gets its check points anew; any other group
is left as it is (R69, R78, R79). That a tick is the second of the groups next in turn and the transition is a command
of its own is the model's choice (log 9); so is a tick without such a group (log 7). -/
def Obligations.HeldGroupsAgeAndBecomeStale : Prop :=
  (∀ s : State, s.powered = true → s.scanner.ageing = [] → exec .holdAgeTick s = .next s) ∧
  (∀ (s : State) (batch : List TempGroup) (later : List (List TempGroup)), s.powered = true →
     s.scanner.ageing = batch :: later → ∃ u, exec .holdAgeTick s = .next u ∧
     (∀ g : TempGroup, (u.scanner.groups.get g).contributors = (s.scanner.groups.get g).contributors ∧
       (g ∉ batch → (u.scanner.groups.get g).state = (s.scanner.groups.get g).state) ∧
       (g ∈ batch → (u.scanner.groups.get g).state =
         match (s.scanner.groups.get g).state with
         | .held v n => .held v (if n < 65535 then n + 1 else n)
         | .stale v n => .stale v (if n < 65535 then n + 1 else n)
         | st => st)) ∧
     u.scanner.ageing = later ++ [batch] ∧
     { u.scanner with groups := s.scanner.groups, ageing := s.scanner.ageing } = s.scanner ∧
     { u with scanner := s.scanner } = s) ∧
  (∀ (s : State) (g : TempGroup), s.powered = true →
     ((∀ v n, (s.scanner.groups.get g).state = .held v n → n < s.scanner.holdLimit) →
       exec (.groupStale g) s = .next s) ∧
     ∀ v n, (s.scanner.groups.get g).state = .held v n → s.scanner.holdLimit ≤ n →
       ∃ u, exec (.groupStale g) s = .next u ∧
         (u.scanner.groups.get g).state = .stale v n ∧ (∀ h, h ≠ g → u.scanner.groups.get h = s.scanner.groups.get h) ∧
         u.attention.sources[12].flag = true ∧ u.comp.coefficients = s.comp.coefficients ∧
         (∀ (a : Arm) (i : Axis), (u.comp.factors.scale.get a).get i =
           if g = .scale a i then
             { value := ((s.comp.factors.scale.get a).get i).value,
               marks := { ((s.comp.factors.scale.get a).get i).marks with held := false, stale := true } }
           else (s.comp.factors.scale.get a).get i) ∧
         u.comp.factors.workpiece = (if g = .workpiece then
           { value := s.comp.factors.workpiece.value,
             marks := { s.comp.factors.workpiece.marks with held := false, stale := true } }
           else s.comp.factors.workpiece) ∧
         (∀ a : Arm, u.comp.formationDue.get a = s.comp.formationDue.get a ++
           if s.referenced a = true ∧ u.comp.factors.scale.get a ≠ s.comp.factors.scale.get a then [.recomputation] else []) ∧
         { u.scanner with groups := s.scanner.groups } = s.scanner ∧
         { u with scanner := s.scanner, comp := s.comp, attention := s.attention } = s)

/-! ### Temperature groups and factors (spec 04) -/

/-- The part rounds a quotient to the nearest integer, a half away from zero (spec 00, section 5.1). A factor is
formed from its coefficient and its group: the temperature difference from 20 °C limited to ±20,000 mK, times the
coefficient, divided by 100 and rounded to nearest with a half away from zero, 0 for an EMPTY group; its marks are
those of the group's state, TEMP_CLAMPED exactly when the limit acted; and with a coefficient in its range it lies
within ±1,000,000 ppb (R75, R76, R77). -/
def Obligations.FactorsAreFormedFromGroups : Prop :=
  (∀ n d : Int, 0 < d →
     2 * |n - d * roundDiv n d| ≤ d ∧ (2 * |n - d * roundDiv n d| = d → |n| < d * |roundDiv n d|)) ∧
  (∀ (alpha : Int) (st : GroupState),
     let f := formFactor alpha st
     (st = .empty → f = { value := 0, marks := { tempClamped := false, held := false, stale := false,
                                                 uncompensated := true } }) ∧
     (∀ v, st.value = some v →
       let d : Int := max (-20000) (min 20000 (v - 20000))
       2 * |alpha * d - 100 * f.value| ≤ 100 ∧
       (2 * |alpha * d - 100 * f.value| = 100 → |alpha * d| < |100 * f.value|) ∧
       (f.marks.tempClamped = true ↔ v - 20000 < -20000 ∨ 20000 < v - 20000) ∧
       f.marks.uncompensated = false ∧ (f.marks.held = true ↔ ∃ n, st = .held v n) ∧
       (f.marks.stale = true ↔ ∃ n, st = .stale v n)) ∧
     (0 ≤ alpha → alpha ≤ 5000 → -1000000 ≤ f.value ∧ f.value ≤ 1000000))

/-- The end of the last pass of a sweep. Every group takes the mean of its contributing set, or keeps what it had and
becomes HELD from LIVE (R67, R68), its full seconds then coming after those of the groups that age already, and a group
that becomes LIVE ages no longer (R69; log 9); the seven factors are formed anew (R78) and a REFERENCED arm with a changed scale
factor gets its check points formed (R79); entries of ACTIVE records off their head's temperature by more than the
drift window become SUSPECT, raising TIP (R22); and the scan goes to WAITING or STOPPED (R57). -/
def Obligations.SweepEndFormsTheGroups : Prop :=
  ∀ (s : State) (g : Strg) (t : Transaction) (c : Instr), s.powered = true →
    (c = .replyTimeout g ∨ ∃ code ready parity, c = .transactionEnd g code ready parity) →
    s.scanner.state = .sweeping ∨ s.scanner.state = .stopping →
    (s.string g).transaction = some t → t.owner = .sweep → (s.string g).pass = .reading (some t.address) →
    (∀ (j : Fin 16) (r : Sensor), t.address < j → s.sensor g j = some r → r.state = .retired) →
    (s.string g.other).pass = .ended →
    ∃ u : State, exec c s = .next u ∧
      let contribution (k : TempGroup) (h : Strg) (i : Fin 16) : Option Int :=
        (u.sensor h i).bind fun r => if r.state = .active ∧ r.binding = some k then r.filtered else none
      let set (k : TempGroup) : List Int :=
        (List.finRange 16).filterMap (contribution k .zero) ++ (List.finRange 16).filterMap (contribution k .one)
      (∀ k : TempGroup, (u.scanner.groups.get k).contributors = (set k).length ∧
        (set k ≠ [] → (u.scanner.groups.get k).state = .live (roundDiv (set k).sum (set k).length)) ∧
        (set k = [] → (u.scanner.groups.get k).state =
          match (s.scanner.groups.get k).state with
          | .live v => .held v 0
          | st => st)) ∧
      (let held : List TempGroup := allGroups.filter fun k =>
         decide (set k = [] ∧ (s.scanner.groups.get k).state.isLive = true)
       u.scanner.ageing = ((s.scanner.ageing.map fun batch => batch.filter fun k => decide (set k = [])) ++ [held]).filter
         fun batch => decide (batch ≠ [])) ∧
      u.comp.coefficients = s.comp.coefficients ∧
      (∀ (a : Arm) (i : Axis), (u.comp.factors.scale.get a).get i =
        formFactor ((s.comp.coefficients.scale.get a).get i) (u.scanner.groups.get (.scale a i)).state) ∧
      u.comp.factors.workpiece = formFactor s.comp.coefficients.workpiece (u.scanner.groups.get .workpiece).state ∧
      (∀ a : Arm, u.comp.formationDue.get a = s.comp.formationDue.get a ++
        if s.referenced a = true ∧ u.comp.factors.scale.get a ≠ s.comp.factors.scale.get a then [.recomputation] else []) ∧
      (let aged (a : Arm) (e : Entry) : Prop := s.present a = true ∧ s.library.driftWindow ≠ 0 ∧ e.state = .qualified ∧
          ∃ v, (u.scanner.groups.get (.head a)).state.value = some v ∧ s.library.driftWindow < |e.temperature - v|
       (∀ (i : Fin 64) (x : Tip), s.library.tips[i] = .active x → ∃ y : Tip, u.library.tips[i] = .active y ∧
          { y with entries := x.entries } = x ∧
          ∀ a : Arm, (x.entries.get a = none → y.entries.get a = none) ∧
            ∀ e, x.entries.get a = some e →
              (aged a e → y.entries.get a = some { e with state := .suspect } ∧ u.attention.sources[10].flag = true) ∧
              (¬ aged a e → y.entries.get a = some e)) ∧
       (∀ i : Fin 64, (∀ x, s.library.tips[i] ≠ .active x) → u.library.tips[i] = s.library.tips[i])) ∧
      (s.scanner.state = .sweeping → s.scanner.mode = .continuous →
        u.scanner.state = .waiting ∧ u.scanner.timer = s.scanner.timer) ∧
      (s.scanner.state = .stopping ∨ s.scanner.mode ≠ .continuous →
        u.scanner.state = .stopped ∧ u.scanner.timer = none) ∧
      { u with scanner := s.scanner, comp := s.comp, library := s.library, attention := s.attention } = s

/-- COMP_SETUP stores the whole set with every coefficient clamped to 0 to 5,000, forms the seven factors at once from
the groups as they stand, asks for the check points of a REFERENCED arm with a changed scale factor, and answers the
stored set and the factors (R73, R78, R79). -/
def Obligations.CompSetupStoresAndRecomputes : Prop :=
  ∀ (s : State) (alphaS : Two (Axes Word)) (alphaW : Word) (w0 : Axes Word), s.takesRequests →
    let c := Instr.compSetup alphaS alphaW w0
    ∃ (u : State) (clamped : Bool),
      exec c s = .next (s.respond c
        { status := if clamped then .clamped else .ok, payload := u.comp.coefficients.bytes ++ u.comp.factors.bytes,
          state := u }) ∧
      (clamped = true ↔ (∃ (a : Arm) (i : Axis), (u.comp.coefficients.scale.get a).get i ≠ ((alphaS.get a).get i).toInt) ∨
        u.comp.coefficients.workpiece ≠ alphaW.toInt ∨ ∃ i : Axis, u.comp.coefficients.w0.get i ≠ (w0.get i).toInt) ∧
      (∀ (a : Arm) (i : Axis), (u.comp.coefficients.scale.get a).get i = max 0 (min 5000 ((alphaS.get a).get i).toInt) ∧
        (u.comp.factors.scale.get a).get i = formFactor ((u.comp.coefficients.scale.get a).get i)
          (s.scanner.groups.get (.scale a i)).state) ∧
      u.comp.coefficients.workpiece = max 0 (min 5000 alphaW.toInt) ∧
      u.comp.factors.workpiece = formFactor u.comp.coefficients.workpiece (s.scanner.groups.get .workpiece).state ∧
      (∀ i : Axis, u.comp.coefficients.w0.get i = max (-2147483647) (w0.get i).toInt) ∧
      (∀ a : Arm, u.comp.formationDue.get a = s.comp.formationDue.get a ++
        if s.referenced a = true ∧ u.comp.factors.scale.get a ≠ s.comp.factors.scale.get a then [.recomputation] else []) ∧
      { u with comp := s.comp } = s

/-- Counts, reference values, fixed points and origin offsets stay within the limits of a length (spec 00, section 5;
R26, R28, R30, R33): every step keeps it. The coefficients stay in their range and the seven factors in force are
those of the coefficients and the groups as they stand (R73, R78, R80, R81): every step keeps it. The groups that age
are the HELD and the STALE ones, each once (R69; their order is the model's, log 9): every step keeps it. -/
def Obligations.LengthsAndFactorsInForceAreKept : Prop :=
  (∀ s t : State, CountLaw s → step s = .next t → CountLaw t) ∧
  (∀ s t : State, FactorLaw s → step s = .next t → FactorLaw t) ∧
  (∀ s t : State, AgeLaw s → step s = .next t → AgeLaw t)

/-! ### The compensation computation (spec 05) -/

/-- CONVERT answers the point of the counts as they stand: refused for an absent or a BLIND arm, and otherwise a point
record by all five stages, with nothing else changed (R83 to R91, R95). A touch computation takes the oldest request
of the arm and returns the point of the captured counts, computed from the inputs as they stand when it is taken (R83
to R91, R96); without a request nothing changes. That a computation waits for its own command is deduced (log 6), and
that a command without one changes nothing is the model's choice (log 7). -/
def Obligations.PointsAreComputed : Prop :=
  (∀ (s : State) (arm : Byte) (a : Arm), s.takesRequests → arm.toNat = a.toNat →
     let c := Instr.convert arm
     (s.present a = false → exec c s = .next (s.respond c (refuse .notPresent s))) ∧
     (s.present a = true → (∃ i : Axis, (s.axis a i).state ≠ .referenced) →
       exec c s = .next (s.respond c (refuse .notReferenced s))) ∧
     (s.present a = true → (∀ i : Axis, (s.axis a i).state = .referenced) →
       ∀ (tip : Option (Fin 64)) (e : Option Entry), Mounted s a tip → EntryUsed s a tip e → ∃ q : PointRecord,
         IsPoint s a ⟨(s.axis a .x).count, (s.axis a .y).count, (s.axis a .z).count⟩ tip e q ∧
         exec c s = .next (s.respond c { status := .ok, payload := q.bytes, state := s }))) ∧
  (∀ (s : State) (a : Arm), s.serves a →
     ((s.touch.get a).requests = [] → exec (.touchComputation a) s = .next s) ∧
     ∀ (p : Point) (rest : List Point), (s.touch.get a).requests = p :: rest →
       ∀ (tip : Option (Fin 64)) (e : Option Entry), Mounted s a tip → EntryUsed s a tip e → ∃ q : PointRecord,
         IsPoint s a p tip e q ∧
         exec (.touchComputation a) s = .next (s.setTouch a
           { s.touch.get a with requests := rest, returned := (s.touch.get a).returned ++ [q] }))

/-- A check-point formation: without one asked for, or for a BLIND arm, no point is formed (R93); otherwise the
reference point and the tip point of the counts as they stand, with their mark sets, go to the zone monitor and the
change sequencer (R92, R93), and the monitor finds the arm inside exactly the ACTIVE zones whose grown box holds a point
(R164, R166). In the RACK zone an arm that is not the grantee violates it; the grantee's entry acknowledges the grant,
and its exit ends the stay, and the grant of a change that has ended (R163, R166, R168, R129, R130). The reports are
stated for an arm without a change, or in an approach outside the dock box. That a formation waits for its own command
is deduced (log 6), that the monitor takes it first (log 29) and that a command without one changes nothing (log 7) are
the model's choice. -/
def Obligations.CheckPointsAreFormedAndJudged : Prop :=
  ∀ (s : State) (a : Arm), s.serves a → s.quiet →
    (s.comp.formationDue.get a = [] → exec (.checkPointFormation a) s = .next s) ∧
    ∀ (cause : FormationCause) (later : List FormationCause), s.comp.formationDue.get a = cause :: later →
    let taken : State := { s with comp := { s.comp with formationDue := s.comp.formationDue.set a later } }
    ((∃ i : Axis, (s.axis a i).state ≠ .referenced) → exec (.checkPointFormation a) s = .next taken) ∧
    ((∀ i : Axis, (s.axis a i).state = .referenced) →
      ∀ (tip : Option (Fin 64)) (e : Option Entry), Mounted s a tip → EntryUsed s a tip e →
      ∃ (u : State) (q : CheckPoints), exec (.checkPointFormation a) s = .next u ∧
        AreCheckPoints s a ⟨(s.axis a .x).count, (s.axis a .y).count, (s.axis a .z).count⟩ tip e q ∧
        (u.zones.hold.get a).points = some q ∧ (u.change a).lastReference = some q.reference ∧
        u.comp = taken.comp ∧ u.arms = s.arms ∧ u.scanner = s.scanner ∧ u.link = s.link ∧
        ∀ (z : Fin 16) (r : Zone), s.zone z = some r → r.suspended = false →
          ((u.zones.hold.get a).inside[z] = true ↔ Inside r q) ∧
          (Inside r q → r.kind = .forbidden ∨ r.kind = .privateTo a.other ∨ r.kind = .shared (some a.other) ∨
              (r.kind = .rack ∧ s.zones.grantee ≠ some a) →
            (s.zones.hold.get a).permit[z] = false → (s.zones.hold.get a).violated[z] = false →
            (u.zones.hold.get a).violated[z] = true ∧ (u.zones.hold.get a).causes.zone = true ∧
            ((s.zones.hold.get a).causes = Causes.none →
              (u.touch.get a).armed = false ∧ u.attention.sources[sourceIndex (.hold a)].flag = true)) ∧
          (¬ Inside r q → (u.zones.hold.get a).permit[z] = false) ∧
          (r.kind = .rack → (∀ (w : Fin 16) (v : Zone), s.zone w = some v → v.kind = .rack → w = z) →
            s.zones.grantee = some a →
            (s.change a).state = .idle ∨ ((s.change a).state = .stowApproach ∨
              ((s.change a).state = .fetchApproach ∧ (s.change a).stowClose = false)) ∧
              (∀ (p : Fin 20) (b : Box), (s.change a).current = some p → (s.pocket p).dock.get a = some b →
                ¬ InGrown b 0 q.reference) →
            ∀ acknowledged inside ended, s.rack.arbiter = .granted a acknowledged inside ended →
            let was := (s.zones.hold.get a).inside[z]
            (Inside r q → was = false → u.rack = { s.rack with
              arbiter := .granted a true true ended
              grantTimer := if acknowledged then s.rack.grantTimer else none }) ∧
            (¬ Inside r q → was = true → ended = false →
              u.rack = { s.rack with arbiter := .granted a acknowledged false false }) ∧
            (¬ Inside r q → was = true → ended = true → s.rack.queue = [] →
              (∀ p : Fin 20, (s.pocket p).drive = false) →
              u.rack = { s.rack with arbiter := .free, grantTimer := none } ∧ u.zones.grantee = none) ∧
            ((was = true ↔ Inside r q) → u.rack = s.rack)) ∧
          (Inside r q → r.kind = .shared none → u.zone z = some { r with kind := .shared (some a) }) ∧
          (¬ Inside r q → r.kind = .shared (some a) →
            (∀ q', s.referenced a.other = true → (s.zones.hold.get a.other).points = some q' → Inside r q' →
              u.zone z = some { r with kind := .shared (some a.other) }) ∧
            ((s.referenced a.other = false ∨ ∀ q', (s.zones.hold.get a.other).points = some q' → ¬ Inside r q') →
              u.zone z = some { r with kind := .shared none })))

/-! ### Touch triggers (spec 06) -/

/-- PROBE_ARM arms only an arm without a hold and without a change in progress, and disarms any; it answers the flag
(R100). -/
def Obligations.ProbeArmSetsTheFlag : Prop :=
  ∀ (s : State) (arm value : Byte) (a : Arm), s.takesRequests → arm.toNat = a.toNat → s.present a = true →
    let c := Instr.probeArm arm value
    let sets (v : Bool) : Prop := exec c s = .next (s.respond c
      { status := .ok, payload := [value], state := s.setTouch a { s.touch.get a with armed := v } })
    (1 < value.toNat → exec c s = .next (s.respond c (refuse .badArgument s))) ∧
    (value = 0 → sets false) ∧
    (value = 1 → (s.zones.hold.get a).causes ≠ Causes.none ∨ (s.change a).state ≠ .idle →
      exec c s = .next (s.respond c (refuse .wrongState s))) ∧
    (value = 1 → (s.zones.hold.get a).causes = Causes.none → (s.change a).state = .idle → sets true)

/-- The trigger input: a leading edge of an IDLE trigger captures the three counts and starts a qualification with the
time as set and its timer at 0 (R99, R102); a release in QUALIFYING is a bounce, and in LATCHED-WAIT-RELEASE it ends that state (R98, R103, R104). The
end of the qualification time judges the trigger by the first case that holds: a stray during a change (1), a
collision when probing is not armed (2), a stray for a BLIND arm (3), a head state other than TIP (4) or a mounted tip
without an entry and without the allow-unqualified mark (5), and a point otherwise (6) (R105 to R108, R170). That an
edge to the level the input has, or the end of a qualification time in another trigger state, changes nothing is the
model's choice (log 7); that the computation of a point waits in a list for its own command is deduced (log 6). -/
def Obligations.TriggersAreQualifiedAndJudged : Prop :=
  (∀ (s : State) (a : Arm), s.serves a →
     let t := s.touch.get a
     (t.input = true → exec (.triggerLeadingEdge a) s = .next s) ∧
     (t.input = false → t.trigger = .idle → exec (.triggerLeadingEdge a) s = .next (s.setTouch a { t with
       input := true
       trigger := .qualifying ⟨(s.axis a .x).count, (s.axis a .y).count, (s.axis a .z).count⟩ t.qualificationTime 0 })) ∧
     (t.input = false → t.trigger ≠ .idle →
       exec (.triggerLeadingEdge a) s = .next (s.setTouch a { t with input := true })) ∧
     (t.input = false → exec (.triggerRelease a) s = .next s) ∧
     (t.input = true → ∀ p n k, t.trigger = .qualifying p n k → exec (.triggerRelease a) s = .next (s.setTouch a
       { t with input := false, trigger := .idle, bounces := bump t.bounces })) ∧
     (t.input = true → (∀ p n k, t.trigger ≠ .qualifying p n k) →
       exec (.triggerRelease a) s = .next (s.setTouch a { t with input := false, trigger := .idle }))) ∧
  (∀ (s : State) (a : Arm), s.serves a →
     let t := s.touch.get a
     ((∀ p n k, t.trigger ≠ .qualifying p n k) → exec (.qualificationTimeEnd a) s = .next s) ∧
     ∀ (p : Point) (n k : Nat) (tip : Option (Fin 64)) (e : Option Entry), t.trigger = .qualifying p n k → Mounted s a tip →
       EntryUsed s a tip e →
       let stray : Prop := exec (.qualificationTimeEnd a) s = .next (s.setTouch a
         { t with trigger := .waitRelease, strays := bump t.strays })
       let blind : Prop := ∃ i : Axis, (s.axis a i).state ≠ .referenced
       ((s.change a).state ≠ .idle → stray) ∧
       ((s.change a).state = .idle → t.armed = false → ∃ u : State, exec (.qualificationTimeEnd a) s = .next u ∧
         u.touch = s.touch.set a { t with trigger := .waitRelease } ∧
         (u.zones.hold.get a).causes = (s.zones.hold.get a).causes.add .collision ∧
         ((s.zones.hold.get a).causes = Causes.none → u.attention.sources[sourceIndex (.hold a)].flag = true) ∧
         ((s.zones.hold.get a).causes ≠ Causes.none → u.attention = s.attention) ∧
         u.holdActive a = true ∧ u.zones = (s.setCauses a (u.zones.hold.get a).causes).zones ∧
         { u with touch := s.touch, zones := s.zones, attention := s.attention } = s) ∧
       ((s.change a).state = .idle → t.armed = true →
         blind ∨ (s.head a).state ≠ .tip ∨ (e = none ∧ (s.head a).allowUnqualified = false) → stray) ∧
       ((s.change a).state = .idle → t.armed = true → ¬ blind → (s.head a).state = .tip →
         e ≠ none ∨ (s.head a).allowUnqualified = true →
         exec (.qualificationTimeEnd a) s = .next (s.setTouch a
           { t with trigger := .waitRelease, requests := t.requests ++ [p] })))

/-- A returned point record takes the next touch number, which then increases, from 65,535 to 0. In an EMPTY slot it
is placed and TOUCH is raised; with the slot FULL it is discarded as an overrun. Without a returned record nothing
happens (R109). TOUCH_TAKE hands the point in the slot to the host and empties the slot; on an EMPTY slot it answers
NONE and changes nothing (R110). That a returned record waits for its own command is deduced (log 6), and that a
command without one changes nothing is the model's choice (log 7). -/
def Obligations.PointsAreNumberedPlacedAndTaken : Prop :=
  (∀ (s : State) (a : Arm), s.serves a →
     let t := s.touch.get a
     let next : Nat := if t.nextNumber < 65535 then t.nextNumber + 1 else 0
     (t.returned = [] → exec (.pointRecordReturn a) s = .next s) ∧
     ∀ (q : PointRecord) (rest : List PointRecord), t.returned = q :: rest →
       (t.slot = none → ∃ u : State, exec (.pointRecordReturn a) s = .next u ∧
         u.touch = s.touch.set a
           { t with slot := some { q with touchNumber := some t.nextNumber }, nextNumber := next, returned := rest } ∧
         u.attention = (s.raise (.touch a)).attention ∧ u.attention.sources[sourceIndex (.touch a)].flag = true ∧
         { u with touch := s.touch, attention := s.attention } = s) ∧
       (t.slot ≠ none → exec (.pointRecordReturn a) s = .next (s.setTouch a
         { t with nextNumber := next, overruns := bump t.overruns, returned := rest }))) ∧
  (∀ (s : State) (arm : Byte), s.takesRequests →
     let c := Instr.touchTake arm
     (1 < arm.toNat → exec c s = .next (s.respond c (refuse .badArgument s))) ∧
     ∀ a : Arm, arm.toNat = a.toNat →
       (s.present a = false → exec c s = .next (s.respond c (refuse .notPresent s))) ∧
       (s.present a = true →
         (∀ q, (s.touch.get a).slot = some q → exec c s = .next (s.respond c
           { status := .ok, payload := q.bytes, state := s.setTouch a { s.touch.get a with slot := none } })) ∧
         ((s.touch.get a).slot = none →
           exec c s = .next (s.respond c { status := .nothing, payload := [], state := s }))))

/-- Probing is armed only on an arm with no hold cause and no change in progress (R100, R101): every step keeps it. -/
def Obligations.ProbingLawIsKept : Prop :=
  ∀ s t : State, ProbingLaw s → step s = .next t → ProbingLaw t

/-! ### The rack (spec 07) -/

/-- POCKET_WRITE: its refusals in order (R119), for a well-formed argument list; and the record written whole, a
JAMMED lid of a pocket written ENABLED becoming CLOSED. A pocket written from VACANT is compared: a module seen where
no record is at home makes it foreign (R117, R118). No change holds the pocket's lid open, as R119's third test
ensures. POCKET_CLEAR_FOREIGN clears the mark of a pocket observed EMPTY and is refused at one observed OCCUPIED
(R120); RACK_UNLOCK frees a LOCKED_OUT arbiter with its queue empty and is refused otherwise (R132). Codes of the
record that the spec leaves open are the model's choice (log 11). -/
def Obligations.PocketsAreWrittenAndCleared : Prop :=
  (∀ (s : State) (pocket state g0 : Byte) (box0 : Axes Bounds) (g1 : Byte) (box1 : Axes Bounds) (p : Fin 20),
     s.takesRequests → s.quiet → pocket.toNat = p.val → g0.toNat ≤ 1 → g1.toNat ≤ 1 →
     (∀ a : Arm, p ∉ (s.change a).opened) →
     let c := Instr.pocketWrite pocket state g0 box0 g1 box1
     let good (g : Byte) (b : Axes Bounds) : Prop := g = 1 → ∀ i : Axis, (b.get i).lo.toInt ≤ (b.get i).hi.toInt
     let legal : Prop := (state = 1 ∨ state = 2) ∧ good g0 box0 ∧ good g1 box1
     let named : Prop := (∃ a : Arm, (s.report a).pocket = some p) ∨
       ∃ (i : Fin 64) (t : Tip), s.tipNamed i = true ∧
         (s.library.tips[i] = .active t ∨ s.library.tips[i] = .retired t) ∧ t.home = p
     let absent : Prop := s.oneArm = true ∧ g1 = 1
     let r := s.pocket p
     let stored (g : Byte) (b : Axes Bounds) (o : Option Box) : Prop := (g = 0 → o = none) ∧
       (g = 1 → ∃ x : Box, o = some x ∧ ∀ i : Axis, x.lo.get i = max (-2147483647) (b.get i).lo.toInt ∧
         x.hi.get i = max (-2147483647) (b.get i).hi.toInt)
     (¬ legal → exec c s = .next (s.respond c (refuse .badArgument s))) ∧
     (legal → absent → exec c s = .next (s.respond c (refuse .notPresent s))) ∧
     (legal → ¬ absent → named → exec c s = .next (s.respond c (refuse .inUse s))) ∧
     (legal → ¬ absent → ¬ named → state = 1 → r.sense = true →
       exec c s = .next (s.respond c (refuse .wrongState s))) ∧
     (legal → ¬ absent → ¬ named → (state = 1 → r.sense = false) →
       (r.state = .vacant → ∀ (i : Fin 64) (t : Tip), s.library.tips[i] = .active t → t.home ≠ p) →
       ∃ (u : State) (clamped : Bool), exec c s = .next (s.respond c
           { status := if clamped then .clamped else .ok, payload := u.pocketBytes p, state := u }) ∧
         let q := u.pocket p
         q.state = (if state = 1 then .enabled else .disabled) ∧ stored g0 box0 q.dock.zero ∧ stored g1 box1 q.dock.one ∧
         q.occupied = r.occupied ∧ q.sense = r.sense ∧
         q.lid = (if state = 1 ∧ r.lid = .jammed then .closed else r.lid) ∧
         q.foreignMark = (r.foreignMark || (r.state == .vacant && r.occupied)) ∧
         (r.state = .vacant → r.occupied = true → u.attention.sources[9].flag = true) ∧
         (¬ (r.state = .vacant ∧ r.occupied = true) → u.attention = s.attention) ∧
         (∀ p' : Fin 20, p' ≠ p → u.pocket p' = s.pocket p') ∧
         { u.rack with pockets := s.rack.pockets } = s.rack ∧
         { u with rack := s.rack, attention := s.attention } = s ∧
         (clamped = true ↔
           (g0 = 1 ∧ ∃ i : Axis, (box0.get i).lo.toInt = -2147483648 ∨ (box0.get i).hi.toInt = -2147483648) ∨
           (g1 = 1 ∧ ∃ i : Axis, (box1.get i).lo.toInt = -2147483648 ∨ (box1.get i).hi.toInt = -2147483648)))) ∧
  (∀ s : State, s.takesRequests →
     (∀ (pocket : Byte) (p : Fin 20), pocket.toNat = p.val →
       let c := Instr.pocketClearForeign pocket
       ((s.pocket p).occupied = true → exec c s = .next (s.respond c (refuse .wrongState s))) ∧
       ((s.pocket p).occupied = false → exec c s = .next (s.respond c
         { status := .ok, payload := [], state := s.setPocket p { s.pocket p with foreignMark := false } }))) ∧
     (s.rack.arbiter ≠ .lockedOut → exec .rackUnlock s = .next (s.respond .rackUnlock (refuse .wrongState s))) ∧
     (s.rack.arbiter = .lockedOut → exec .rackUnlock s = .next (s.respond .rackUnlock
       { status := .ok, payload := [], state := { s with rack := { s.rack with arbiter := .free, queue := [] } } })))

/-- The inputs of a pocket, and the comparison of its observed with its expected occupancy. A level of an input is
taken as it comes; after 20 ms the observed occupancy is that level (R115), and at a pocket neither VACANT nor
suppressed a difference from the expectation (R116) is reported to the library as R118 states. The restart comparison
acts in the same way (R134). No change is in progress. The order of the comparison and the sequencers is the model's
choice (log 17); the restart comparison and the debounce are deduced (log 14, log 26). -/
def Obligations.OccupancyIsComparedWithItsExpectation : Prop :=
  ∀ (s : State) (p : Fin 20), s.powered = true → s.quiet → LibraryLaw s → (∀ a : Arm, (s.change a).state = .idle) →
    let r := s.pocket p
    (∀ level : Bool,
      exec (.pocketInputEdge p .occupancy level) s = .next (s.setPocket p { r with occupancyInput := level }) ∧
      exec (.pocketInputEdge p .lidSense level) s = .next (s.setPocket p { r with senseInput := level })) ∧
    (r.occupancyInput = r.occupied → exec (.observedOccupancyChange p) s = .next s) ∧
    (r.restartCompare = false → exec (.restartComparison p) s = .next s) ∧
    ∀ (c : Instr) (o : State),
      (c = .observedOccupancyChange p ∧ r.occupancyInput ≠ r.occupied ∧
        o = s.setPocket p { r with occupied := r.occupancyInput }) ∨
      (c = .restartComparison p ∧ r.restartCompare = true ∧
        o = s.setPocket p { r with occupied := r.occupancyInput, restartCompare := false }) →
      let watched : Prop := r.state ≠ .vacant ∧
        ∀ a : Arm, ¬ ((s.report a).pocket = some p ∧ (s.report a).suppressed = true)
      let expected : Prop := ∃ (i : Fin 64) (t : Tip), s.library.tips[i] = .active t ∧ t.home = p ∧
        (t.location = .inPocket ∨ ∃ a : Arm, t.location = .inTransit a ∧ (s.report a).pocket = some p ∧
          (s.report a).stow = true)
      (watched → r.occupancyInput = false → expected → ∃ v : State,
        exec (.homePocketSeenEmpty p) o = .next v ∧ exec c s = .next { v with answer := s.answer }) ∧
      (watched → r.occupancyInput = true → ¬ expected → ∃ v : State,
        exec (.homePocketSeenOccupied p) o = .next v ∧ exec c s = .next { v with answer := s.answer }) ∧
      (¬ watched ∨ (r.occupancyInput = true ↔ expected) → exec c s = .next o)

/-- An open command is answered by the first test that holds: "jammed"; "refused" without the grant, without the
pocket being the arm's current pocket, or at a pocket not ENABLED; otherwise it opens a CLOSED or CLOSING lid, at once
if the sense is ACTIVE, and leaves any other (R122). A close command releases an OPENING or OPEN lid, at once if the
sense is INACTIVE, and leaves any other (R123). The lid timer starts with the stored timeout (R121). A change of the
debounced lid sense and an expiry of the lid timer act on the lid by the table of R124; a lid that becomes JAMMED has
its drive off and its timer stopped, makes an ENABLED pocket DISABLED, and raises RACK unless the pocket is VACANT
(R125). No change holds the pocket's lid open, and the lid timer runs only in OPENING and CLOSING (R121). That the
answer stands in a field of State is the model's choice (log 10), and that an expiry of a stopped timer changes
nothing (log 7). -/
def Obligations.LidsFollowTheirTables : Prop :=
  (∀ (s : State) (a : Arm) (p : Fin 20), s.serves a → s.quiet → (∀ b : Arm, p ∉ (s.change b).opened) →
     let r := s.pocket p
     let lid (l : LidState) (drive : Bool) (timer : Timer) : State :=
       s.setPocket p { r with lid := l, drive := drive, timer := timer }
     let granted : Prop := ∃ acknowledged inside ended, s.rack.arbiter = .granted a acknowledged inside ended
     let open_ (t : State) (w : Answer) : Prop := exec (.openCommand a p) s = .next (t.setAnswer w)
     let close (t : State) (w : Answer) : Prop := exec (.closeCommand a p) s = .next (t.setAnswer w)
     let passes : Prop := granted ∧ (s.report a).pocket = some p ∧ r.state = .enabled
     (r.lid = .jammed → open_ s .jammed ∧ close s .jammed) ∧
     (r.lid ≠ .jammed → ¬ passes → open_ s .refused) ∧
     (passes → r.lid = .closed ∨ r.lid = .closing →
       (r.sense = true → open_ (lid .opened true none) .opening) ∧
       (r.sense = false → open_ (lid .opening true (some s.rack.lidTimeout)) .opening)) ∧
     (passes → r.lid = .opening → open_ s .opening) ∧ (passes → r.lid = .opened → open_ s .opened) ∧
     (r.lid = .opening ∨ r.lid = .opened →
       (r.sense = true → close (lid .closing false (some s.rack.lidTimeout)) .closing) ∧
       (r.sense = false → close (lid .closed false none) .closed)) ∧
     (r.lid = .closing → close s .closing) ∧ (r.lid = .closed → close s .closed)) ∧
  (∀ (s : State) (p : Fin 20), s.powered = true → s.quiet → (∀ b : Arm, p ∉ (s.change b).opened) →
     let r := s.pocket p
     let sensed := { r with sense := r.senseInput }
     let lid (q : Pocket) (l : LidState) (drive : Bool) : State :=
       s.setPocket p { q with lid := l, drive := drive, timer := none }
     let jams (q : Pocket) (c : Instr) : Prop := exec c s = .next
       (let t := s.setPocket p { q with
           lid := .jammed, drive := false, timer := none
           state := if r.state = .enabled then .disabled else r.state }
        if r.state = .vacant then t else t.raise .rack)
     (r.senseInput = r.sense → exec (.lidSenseChange p) s = .next s) ∧
     (r.senseInput = true → r.sense = false →
       (r.lid = .closed → jams sensed (.lidSenseChange p)) ∧
       (r.lid = .opening → exec (.lidSenseChange p) s = .next (lid sensed .opened true)) ∧
       (r.lid = .opened ∨ r.lid = .closing ∨ r.lid = .jammed →
         exec (.lidSenseChange p) s = .next (s.setPocket p sensed))) ∧
     (r.senseInput = false → r.sense = true →
       (r.lid = .opened → jams sensed (.lidSenseChange p)) ∧
       (r.lid = .closing → exec (.lidSenseChange p) s = .next (lid sensed .closed false)) ∧
       (r.lid = .closed ∨ r.lid = .opening ∨ r.lid = .jammed →
         exec (.lidSenseChange p) s = .next (s.setPocket p sensed))) ∧
     (r.timer = none ∨ s.frz = true → exec (.lidTimerExpiry p) s = .next s) ∧
     (r.timer ≠ none → s.frz = false → r.lid = .opening ∨ r.lid = .closing → jams r (.lidTimerExpiry p)))

/-- A change pocket report is kept as the arm's last (R117). Where it ends the suppression of a pocket, the pocket is
compared at once (R117, R118); where the grantee's report names another pocket or none, every driven lid at another
pocket is released as by a close command (R126). No change is in progress, so that no other block acts on it. That
such a report may come as a command of its own is the model's choice (log 10). -/
def Obligations.PocketReportsAreKept : Prop :=
  ∀ (s : State) (a : Arm) (pocket : Option (Fin 20)) (suppressed stow : Bool), s.serves a → s.quiet → LibraryLaw s →
    (∀ b : Arm, (s.change b).state = .idle ∧ (s.change b).opened = []) →
    let c := Instr.changePocketReport a pocket suppressed stow
    let new : PocketReport := { pocket := pocket, suppressed := suppressed, stow := stow }
    let old := s.report a
    let kept : State := { s with rack := { s.rack with reports := s.rack.reports.set a new } }
    let granted : Prop := ∃ acknowledged inside ended, s.rack.arbiter = .granted a acknowledged inside ended
    let suppresses (x : PocketReport) (p : Fin 20) : Prop := x.pocket = some p ∧ x.suppressed = true
    let ends (p : Fin 20) : Prop := suppresses old p ∧ ¬ suppresses new p ∧ ¬ suppresses (s.report a.other) p
    ((∀ p, ¬ ends p) → ¬ granted ∨ pocket = old.pocket → exec c s = .next kept) ∧
    (∀ p, ends p → ¬ granted ∨ pocket = old.pocket →
      let expected : Prop := ∃ (i : Fin 64) (t : Tip), s.library.tips[i] = .active t ∧ t.home = p ∧
        (t.location = .inPocket ∨ ∃ b : Arm, t.location = .inTransit b ∧ (kept.report b).pocket = some p ∧
          (kept.report b).stow = true)
      ((s.pocket p).state ≠ .vacant → (s.pocket p).occupied = false → expected → ∃ v : State,
        exec (.homePocketSeenEmpty p) kept = .next v ∧ exec c s = .next { v with answer := s.answer }) ∧
      ((s.pocket p).state ≠ .vacant → (s.pocket p).occupied = true → ¬ expected → ∃ v : State,
        exec (.homePocketSeenOccupied p) kept = .next v ∧ exec c s = .next { v with answer := s.answer }) ∧
      ((s.pocket p).state = .vacant ∨ ((s.pocket p).occupied = true ↔ expected) → exec c s = .next kept)) ∧
    ((∀ p, ¬ ends p) → granted → pocket ≠ old.pocket → ∃ u : State, exec c s = .next u ∧ u.report a = new ∧
      u.report a.other = s.report a.other ∧
      (∀ p : Fin 20, (s.pocket p).drive = false ∨ pocket = some p → u.pocket p = s.pocket p) ∧
      (∀ p : Fin 20, (s.pocket p).drive = true → pocket ≠ some p →
        (s.pocket p).lid = .opening ∨ (s.pocket p).lid = .opened →
        u.pocket p = { s.pocket p with
          drive := false
          lid := if (s.pocket p).sense then .closing else .closed
          timer := if (s.pocket p).sense then some s.rack.lidTimeout else none }) ∧
      { u.rack with pockets := s.rack.pockets, reports := s.rack.reports } = s.rack ∧ { u with rack := s.rack } = s)

/-- The rack arbiter. A rack request is answered by the table of R128; an entry report acknowledges the grant and an
exit report ends the stay (R129, R130); a grant whose change has ended and whose grantee is outside is released and
passes to the head of the queue (R128, R130); a change-ended report takes a queued arm out of the queue; an expiry of
the running grant timer lapses the grant (R129); and a double fault locks the rack (R131). The rack stands calm: no
change, no driven lid, no arm in the RACK zone. That the answer stands in a field of State (log 10) and that an expiry of
a stopped grant timer changes nothing (log 7) are the model's choice. -/
def Obligations.ArbiterFollowsItsTables : Prop :=
  ∀ (s : State) (a : Arm), s.serves a → s.calm →
    let with_ (r : Arbiter) (q : List Arm) (t : Timer) (g : Option Arm) : State :=
      { s with rack := { s.rack with arbiter := r, queue := q, grantTimer := t }, zones := { s.zones with grantee := g } }
    let granted (b : Arm) (q : List Arm) : State := with_ (.granted b false false false) q (some s.rack.grantTimeout) (some b)
    let request (t : State) (w : Answer) : Prop := exec (.rackRequest a) s = .next (t.setAnswer w)
    let queue := s.rack.queue
    let keep (r : Arbiter) (q : List Arm) : State := { s with rack := { s.rack with arbiter := r, queue := q } }
    let freed : State := match queue with
      | [] => with_ .free [] none none
      | b :: rest => granted b rest
    (s.rack.arbiter = .lockedOut → request s .lockedOut ∧ exec (.entryReport a) s = .next s ∧
      exec (.exitReport a) s = .next s ∧ (a ∉ queue → exec (.changeEndedReport a) s = .next s) ∧
      exec .grantTimerExpiry s = .next s ∧ exec (.doubleFaultReport a) s = .next s) ∧
    (s.rack.arbiter = .free → (queue = [] → request (granted a []) .granted) ∧ exec (.entryReport a) s = .next s ∧
      exec (.exitReport a) s = .next s ∧ (a ∉ queue → exec (.changeEndedReport a) s = .next s) ∧
      exec .grantTimerExpiry s = .next s) ∧
    (∀ (acknowledged inside ended : Bool), s.rack.arbiter = .granted a acknowledged inside ended →
      (a ∈ queue ∨ ended = false → request s .refused) ∧
      (ended = true → queue = [] → request (keep (.granted a acknowledged inside false) []) .granted) ∧
      (ended = true → queue ≠ [] → a ∉ queue → request (keep s.rack.arbiter (queue ++ [a])) .queued) ∧
      (acknowledged = true → exec (.entryReport a) s = .next (keep (.granted a true true ended) queue)) ∧
      (acknowledged = false → exec (.entryReport a) s =
        .next (with_ (.granted a true true ended) queue none s.zones.grantee)) ∧
      (ended = false → exec (.exitReport a) s = .next (keep (.granted a acknowledged false false) queue)) ∧
      (ended = true → exec (.exitReport a) s = .next freed) ∧
      (inside = true → a ∉ queue →
        exec (.changeEndedReport a) s = .next (keep (.granted a acknowledged true true) queue)) ∧
      (inside = false → a ∉ queue → exec (.changeEndedReport a) s = .next freed) ∧
      (s.rack.grantTimer ≠ none → s.frz = false → exec .grantTimerExpiry s = .next freed) ∧
      (s.rack.grantTimer = none ∨ s.frz = true → exec .grantTimerExpiry s = .next s)) ∧
    (∀ (acknowledged inside ended : Bool), s.rack.arbiter = .granted a.other acknowledged inside ended →
      (a ∉ queue → request (keep s.rack.arbiter (queue ++ [a])) .queued ∧ exec (.changeEndedReport a) s = .next s) ∧
      (a ∈ queue → request s .refused ∧
        exec (.changeEndedReport a) s = .next (keep s.rack.arbiter (queue.filter (· ≠ a)))) ∧
      exec (.entryReport a) s = .next s ∧ exec (.exitReport a) s = .next s) ∧
    (s.rack.arbiter ≠ .lockedOut →
      exec (.doubleFaultReport a) s = .next ((with_ .lockedOut [] none none).raise .rack))

/-- A lid drive is on only for the grantee at its current pocket, the lid timers and drives follow the lid states
(R121, R125, R126), and the arbiter's queue and grant timer follow its state (R127 to R131): every step keeps both. -/
def Obligations.RackLawsAreKept : Prop :=
  ∀ s t : State, LidLaw s → ArbiterLaw s → step s = .next t → LidLaw t ∧ ArbiterLaw t

/-! ### Probe change (spec 08) -/

/-- The refusals of CHANGE in their order (R139, R140): on a busy arm a full slot is FULL; on an IDLE arm the guard
state, the RACK zone and the lockout, the head, the target and, for a target that passes or none, the stowing tip
are tested. -/
def Obligations.ChangeRefusals : Prop :=
  ∀ (s : State) (arm target allow : Byte), s.takesRequests → s.quiet →
    let c := Instr.change arm target allow
    let refused (st : Status) : Prop := exec c s = .next (s.respond c (refuse st s))
    (1 < arm.toNat ∨ (63 < target.toNat ∧ target ≠ 0xFF) ∨ 1 < allow.toNat → refused .badArgument) ∧
    ∀ a : Arm, arm.toNat = a.toNat → target.toNat ≤ 63 ∨ target = 0xFF → allow.toNat ≤ 1 →
      (s.present a = false → refused .notPresent) ∧
      (s.present a = true → (s.change a).state ≠ .idle → (s.change a).staged ≠ none → refused .full) ∧
      (s.present a = true → (s.change a).state = .idle →
        let blind : Prop := ∃ i : Axis, (s.axis a i).state ≠ .referenced
        let noRack : Prop := (∀ (z : Fin 16) (r : Zone), s.zone z = some r → r.kind = .rack → r.suspended = true) ∨
          s.rack.arbiter = .lockedOut
        let reach (p : Fin 20) : Prop := (s.pocket p).state = .enabled ∧ (s.pocket p).dock.get a ≠ none
        (blind → refused .notReferenced) ∧
        (¬ blind → noRack → refused .wrongState) ∧
        (¬ blind → ¬ noRack →
          ((s.head a).state = .identifying ∨ ∃ id, (s.head a).state = .foreignModule id) → refused .wrongState) ∧
        (¬ blind → ¬ noRack → ((s.head a).state = .empty ∨ (s.head a).state = .tip) →
          ∀ mounted : Option (Fin 64), Mounted s a mounted →
            (∀ i : Fin 64, target.toNat = i.val → mounted ≠ some i →
              ((∀ t, s.library.tips[i] ≠ .active t) → refused .notFound) ∧
              ∀ t, s.library.tips[i] = .active t →
                (t.location ≠ .inPocket → refused .wrongState) ∧
                (t.location = .inPocket → ¬ reach t.home → refused .unreachable) ∧
                (t.location = .inPocket → reach t.home → t.entries.get a = none → allow = 0 → refused .wrongState) ∧
                (t.location = .inPocket → reach t.home → (t.entries.get a ≠ none ∨ allow = 1) →
                  (s.change a.other).names i = true → refused .inUse)) ∧
            ((target = 0xFF ∨ ∃ (i : Fin 64) (t : Tip), target.toNat = i.val ∧ mounted ≠ some i ∧
                s.library.tips[i] = .active t ∧ t.location = .inPocket ∧ reach t.home ∧
                (t.entries.get a ≠ none ∨ allow = 1) ∧ (s.change a.other).names i = false) →
              (s.head a).state = .tip → ∀ (j : Fin 64) (u : Tip), mounted = some j → s.library.tips[j] = .active u →
              (¬ reach u.home → refused .unreachable) ∧
              (reach u.home → (s.pocket u.home).occupied = true ∨ (s.pocket u.home).foreignMark = true →
                refused .wrongState))))

/-- CHANGE taken: on a busy arm with an empty slot it is staged, with the staged outcome none (R139); on an IDLE arm
that already has what is asked for it completes at once with NOTHING_TO_DO (R140); and where every test passes it is
accepted, disarms probing and asks for the rack (R141), which queues it, or grants it and starts the approach to the
stow pocket or to the target pocket (R142, R144, R147). The grant is stated for a calm FREE rack and an arm outside
the dock box. When the last lid of STOW_CLEAR or FETCH_CLEAR is CLOSED the change ends COMPLETED, and a staged request is
taken out of the slot: refused for a BLIND arm, NOTHING_TO_DO, or STARTED, its rack request continuing the grant or
queued behind the other arm (R152, R128). The arm is inside the guard box. That the grant is taken within the step is
the model's choice (log 5). -/
def Obligations.ChangesAreStagedQueuedAndStarted : Prop :=
  (∀ (s : State) (arm target allow : Byte) (a : Arm) (want : Option (Fin 64)), s.takesRequests → s.quiet →
     s.present a = true → arm.toNat = a.toNat → allow.toNat ≤ 1 →
     (target = 0xFF → want = none) → (target ≠ 0xFF → ∃ i : Fin 64, want = some i ∧ target.toNat = i.val) →
     let c := Instr.change arm target allow
     ((s.change a).state ≠ .idle → (s.change a).staged = none → exec c s = .next (s.respond c
       { status := .staged, payload := [],
         state := s.setChange a { s.change a with
           staged := some { target := want, allow := allow == 1 }, stagedOutcome := .none } })) ∧
     ((s.change a).state = .idle → (∀ i : Axis, (s.axis a i).state = .referenced) →
       (∃ (z : Fin 16) (r : Zone), s.zone z = some r ∧ r.kind = .rack ∧ r.suspended = false) →
       s.rack.arbiter ≠ .lockedOut →
       ∀ mounted : Option (Fin 64), Mounted s a mounted →
       ((want = none ∧ (s.head a).state = .empty) ∨
           ((s.head a).state = .tip ∧ ∃ i, want = some i ∧ mounted = some i) → exec c s = .next (s.respond c
         { status := .ok, payload := [1],
           state := (s.setChange a { s.change a with last := some (.nothingToDo, false) }).raise (.change a) })) ∧
       (let reach (p : Fin 20) : Prop := (s.pocket p).state = .enabled ∧ (s.pocket p).dock.get a ≠ none
        ((s.head a).state = .tip ∨ ((s.head a).state = .empty ∧ mounted = none)) →
        (want = none → (s.head a).state = .tip ∧ mounted ≠ none) →
        (∀ i, want = some i → ∃ t : Tip, mounted ≠ some i ∧ s.library.tips[i] = .active t ∧ t.location = .inPocket ∧
          reach t.home ∧ (t.entries.get a ≠ none ∨ allow = 1) ∧ (s.change a.other).names i = false) →
        (∀ (i : Fin 64) (t : Tip), mounted = some i → s.library.tips[i] = .active t →
          reach t.home ∧ (s.pocket t.home).occupied = false ∧ (s.pocket t.home).foreignMark = false) →
        let accepted : Change := { s.change a with
          state := .waitingRack, target := want, stowing := mounted, allow := allow == 1, opened := [],
          stowClose := false, faultResult := none, double := false }
        let disarmed := s.touch.set a { s.touch.get a with armed := false }
        ((∃ acknowledged inside ended, s.rack.arbiter = .granted a.other acknowledged inside ended) →
          a ∉ s.rack.queue → exec c s = .next (s.respond c
            { status := .ok, payload := [1],
              state := { s.setChange a accepted with
                touch := disarmed, rack := { s.rack with queue := s.rack.queue ++ [a] } } })) ∧
        (s.calm → s.rack.arbiter = .free → s.rack.queue = [] → (s.report a).suppressed = false →
          ∀ (p : Fin 20) (i : Fin 64) (t : Tip), (mounted = some i ∨ (mounted = none ∧ want = some i)) →
            s.library.tips[i] = .active t → t.home = p →
            (∀ q b, (s.change a).lastReference = some q → (s.pocket p).dock.get a = some b → b.contains q = false) →
            exec c s = .next (s.respond c
              { status := .ok, payload := [if mounted = none then 6 else 2],
                state := { s.setChange a { accepted with
                    state := if mounted = none then .fetchApproach else .stowApproach
                    current := some p, timer := some s.sequencer.approachTimeout, wait := .departure } with
                  touch := disarmed
                  zones := { s.zones with grantee := some a }
                  rack := { s.rack with
                    arbiter := .granted a false false false, grantTimer := some s.rack.grantTimeout
                    reports := s.rack.reports.set a { pocket := some p, suppressed := false, stow := false } } } }))))) ∧
  (∀ (s : State) (a : Arm) (p p₀ : Fin 20) (acknowledged ended : Bool), s.serves a → s.quiet →
     (s.change a).state = .stowClear ∨ (s.change a).state = .fetchClear → (s.change a).wait = .lids →
     (s.change a).opened = [p] → p ∉ (s.change a.other).opened → (s.change a).current = some p₀ →
     s.report a = { pocket := some p₀, suppressed := false, stow := false } →
     (s.pocket p).lid = .closing → (s.pocket p).sense = true → (s.pocket p).senseInput = false →
     (∀ p' : Fin 20, (s.pocket p').drive = false) → s.rack.arbiter = .granted a acknowledged true ended →
     a ∉ s.rack.queue →
     let closed := s.setPocket p { s.pocket p with sense := false, lid := .closed, timer := none }
     let completed : Change := { s.change a with
       state := .idle, timer := none, target := none, stowing := none, opened := [], faultResult := none
       current := none, last := some (.completed, (s.change a).double) }
     let finished := ({ closed.setChange a completed with
       rack := { closed.rack with
         arbiter := .granted a acknowledged true true
         reports := s.rack.reports.set a { pocket := none, suppressed := false, stow := false } } } : State).raise
           (.change a)
     ((s.change a).staged = none → exec (.lidSenseChange p) s = .next finished) ∧
     ∀ r, (s.change a).staged = some r →
       let taken (o : StagedOutcome) : Change := { completed with staged := none, stagedOutcome := o }
       ((∃ i : Axis, (s.axis a i).state ≠ .referenced) →
         exec (.lidSenseChange p) s = .next (finished.setChange a (taken (.refusedAtStart .notReferenced)))) ∧
       ((∀ i : Axis, (s.axis a i).state = .referenced) →
         (∃ (z : Fin 16) (v : Zone), s.zone z = some v ∧ v.kind = .rack ∧ v.suspended = false) → r.target = none →
         ((s.head a).state = .empty → exec (.lidSenseChange p) s = .next
           ((finished.setChange a { taken .nothingToDo with last := some (.nothingToDo, false) }).raise (.change a))) ∧
         ((s.head a).state = .tip → ∀ (j : Fin 64) (t : Tip), Mounted s a (some j) → s.library.tips[j] = .active t →
           (s.pocket t.home).state = .enabled → (s.pocket t.home).dock.get a ≠ none →
           (s.pocket t.home).occupied = false → (s.pocket t.home).foreignMark = false →
           let accepted : Change := { taken .started with
             state := .waitingRack, target := none, stowing := some j, allow := r.allow, stowClose := false
             double := false }
           let disarmed := s.touch.set a { s.touch.get a with armed := false }
           (s.rack.queue = [a.other] → exec (.lidSenseChange p) s = .next { finished.setChange a accepted with
             touch := disarmed, rack := { finished.rack with queue := [a.other, a] } }) ∧
           (s.rack.queue = [] → (∀ q, (s.change a).lastReference = some q → ¬ InDock s a t.home q) →
             exec (.lidSenseChange p) s = .next { finished.setChange a { accepted with
                 state := .stowApproach, current := some t.home, timer := some s.sequencer.approachTimeout
                 wait := .departure } with
               touch := disarmed
               rack := { finished.rack with
                 arbiter := .granted a acknowledged true false
                 reports := s.rack.reports.set a
                   { pocket := some t.home, suppressed := false, stow := false } } }))))

/-- CHANGE_ABORT: nothing on an IDLE arm, refused in RECONCILING, and a change that waits for the rack leaves the
queue and ends ABORTED, its staged request DISCARDED (R152, R153). The queue's other entry, if any, keeps its place,
and a FREE rack is not asked for. Messages that reach a change they do not concern change nothing: "granted" outside
WAITING_RACK, "lapsed" and "locked out" in IDLE and RECONCILING, and "lapsed" in WAITING_RACK (R141, R151, R154); nor
does an expiry of a step timer that is stopped (the model's choice, log 7) or frozen (R138). "Granted" in WAITING_RACK
starts the approach (R142), as the exit report does that passes the rack on to a queued change (R128, R130, R142), and
"locked out" ends the change RACK_LOCKED without reconciliation (R141, R152). A mounted module that goes ends a waiting
change NO_MODULE and is a breakaway, one that comes to an empty head ends it EXTRA_MODULE and is read, and a pocket that
changes ends it POCKET_CHANGED (R151, R158). That messages are taken within the step (log 5) and that a message of the
arbiter may come as a command of its own (log 10) are the model's choice. -/
def Obligations.ChangesAreAbortedAndAnswered : Prop :=
  (∀ (s : State) (arm : Byte) (a : Arm), s.takesRequests → s.quiet → s.present a = true → arm.toNat = a.toNat →
     let c := Instr.changeAbort arm
     ((s.change a).state = .idle → exec c s = .next (s.respond c { status := .nothing, payload := [], state := s })) ∧
     ((s.change a).state = .reconciling → exec c s = .next (s.respond c (refuse .wrongState s))) ∧
     ((s.change a).state = .waitingRack → a ∈ s.rack.queue →
       (∃ acknowledged inside ended, s.rack.arbiter = .granted a.other acknowledged inside ended) →
       (s.report a).suppressed = false → (s.change a).double = false → ∃ u : State,
       exec c s = .next (s.respond c { status := .ok, payload := [], state := u }) ∧
       u.change a = { s.change a with
         state := .idle, timer := none, target := none, stowing := none, opened := [], faultResult := none,
         current := none, last := some (.aborted, false), staged := none
         stagedOutcome := if (s.change a).staged = none then (s.change a).stagedOutcome else .discarded } ∧
       u.change a.other = s.change a.other ∧ u.rack.queue = s.rack.queue.filter (· ≠ a) ∧
       u.rack.arbiter = s.rack.arbiter ∧ u.report a = { pocket := none, suppressed := false, stow := false } ∧
       u.attention = (s.raise (.change a)).attention ∧
       { u with sequencer := s.sequencer, rack := s.rack, attention := s.attention } = s)) ∧
  (∀ (s : State) (a : Arm), s.serves a → s.quiet →
     let st := (s.change a).state
     (st ≠ .waitingRack → exec (.grantedMessage a) s = .next s) ∧
     (st = .idle ∨ st = .waitingRack ∨ st = .reconciling → exec (.lapsedMessage a) s = .next s) ∧
     (st = .idle ∨ st = .reconciling → exec (.lockedOutMessage a) s = .next s) ∧
     ((s.change a).timer = none ∨ s.frz = true → exec (.stepTimerExpiry a) s = .next s) ∧
     (st = .waitingRack → (s.report a).suppressed = false →
       (∀ (p : Fin 20) (i : Fin 64) (t : Tip), ((s.change a).stowing = some i ∨
             ((s.change a).stowing = none ∧ (s.change a).target = some i ∧ (s.change a).stowClose = false)) →
           s.library.tips[i] = .active t → t.home = p →
           (∀ q b, (s.change a).lastReference = some q → (s.pocket p).dock.get a = some b → b.contains q = false) →
           let approach := { s.change a with
             state := if (s.change a).stowing = none then .fetchApproach else .stowApproach
             current := some p, timer := some s.sequencer.approachTimeout, wait := .departure }
           let reports := s.rack.reports.set a { pocket := some p, suppressed := false, stow := false }
           (s.grantedTo a = false ∨ (∀ p' : Fin 20, (s.pocket p').drive = false) →
             exec (.grantedMessage a) s =
               .next { s.setChange a approach with rack := { s.rack with reports := reports } }) ∧
           ((∀ p' : Fin 20, (s.pocket p').drive = false) → s.rack.queue = [a] → s.present a.other = true →
             (∀ (b : Arm) (z : Fin 16), s.zoneIsRack z = true → (s.zones.hold.get b).inside[z] = false) →
             ∀ acknowledged inside, s.rack.arbiter = .granted a.other acknowledged inside true →
             exec (.exitReport a.other) s = .next { s.setChange a approach with
               rack := { s.rack with arbiter := .granted a false false false, queue := []
                                     grantTimer := some s.rack.grantTimeout, reports := reports }
               zones := { s.zones with grantee := some a } })) ∧
       (∀ acknowledged inside ended, s.rack.arbiter = .granted a.other acknowledged inside ended →
         (s.change a).double = false →
         let ended (r : ChangeResult) : Change := { s.change a with
           state := .idle, timer := none, target := none, stowing := none, opened := [], faultResult := none
           current := none, last := some (r, false), staged := none
           stagedOutcome := if (s.change a).staged = none then (s.change a).stagedOutcome else .discarded }
         ((s.head a).moduleInput = false → (s.head a).modulePresent = true → (s.head a).state = .tip →
           (s.change a).stowing ≠ none → ∀ (i : Fin 64) (t : Tip), Mounted s a (some i) →
           s.library.tips[i] = .active t → ∃ u : State, exec (.modulePresentChange a) s = .next u ∧
           u.change a = ended .noModule ∧ a ∉ u.rack.queue ∧ u.rack.arbiter = s.rack.arbiter ∧
           u.library = (s.setTip i (.active { t with location := .missing })).library ∧
           u.head a = { s.head a with state := .empty, allowUnqualified := false, modulePresent := false } ∧
           (u.zones.hold.get a).causes = (s.zones.hold.get a).causes.add .collision ∧
           u.attention.sources[sourceIndex (.change a)].flag = true ∧ u.attention.sources[10].flag = true) ∧
         ((s.head a).moduleInput = true → (s.head a).modulePresent = false → (s.head a).state = .empty →
           (s.change a).stowing = none → ∃ u : State, exec (.modulePresentChange a) s = .next u ∧
           u.change a = ended .extraModule ∧ a ∉ u.rack.queue ∧ u.rack.arbiter = s.rack.arbiter ∧
           u.library = s.library ∧ u.zones = s.zones ∧
           u.head a = { s.head a with
             state := .identifying, allowUnqualified := false, modulePresent := true, attempt := some 1 }) ∧
         (∀ (p : Fin 20) (i : Fin 64) (t : Tip), s.library.tips[i] = .active t → t.home = p →
           ((s.change a).stowing = some i ∧ (s.pocket p).occupied = false ∧ (s.pocket p).occupancyInput = true) ∨
             ((s.change a).target = some i ∧ (s.pocket p).occupied = true ∧ (s.pocket p).occupancyInput = false) →
           ∃ u : State, exec (.observedOccupancyChange p) s = .next u ∧ u.change a = ended .pocketChanged ∧
             a ∉ u.rack.queue)) ∧
       (s.rack.arbiter = .lockedOut → s.rack.queue = [] → (s.change a).double = false → (s.change a).staged = none →
         exec (.lockedOutMessage a) s = .next (
           { s.setChange a { s.change a with
               state := .idle, timer := none, target := none, stowing := none, opened := [], faultResult := none
               current := none, last := some (.rackLocked, false) } with
             rack := { s.rack with
               reports := s.rack.reports.set a { pocket := none, suppressed := false, stow := false } } }.raise
             (.change a)))))

/-- A fault in a stage after the grant enters RECONCILING with the fault as its first result, the step timer running
with the approach timeout, suppression set at the current pocket with the stow transfer kept, and a read in flight
abandoned (R149, R151, R154). It follows CHANGE_ABORT, "lapsed", "locked out", an expiry of the step timer, a module
that comes or goes where the stage cannot go on, a read of a wrong ID or of none, a pocket that changes before its
transfer (POCKET_CHANGED), a lid that jams (LID_JAMMED) and a formation outside the dock box (DOCK_LEFT; R144, R145,
R147, R148). Step 1 waits while the arm is in a dock box; on its departure the lids are closed (R154). A double fault
locks the rack out and goes on to step 2 (R155, R131). Step 2, also begun when the lids are CLOSED or none is open,
reads the head, or finds it EMPTY (R156); at its end the tip in transit is resolved, or found on the head, and the
change ends with its fault result and DOUBLE mark, its staged request DISCARDED (R157, R152). A formation is stated for
an arm whose grant it does not release, a jam and a double fault for an other arm IDLE or in WAITING_RACK, the lids of a
double fault obeying LidLaw, a pocket for an other arm IDLE or in WAITING_RACK without the grant, and an end for one
IDLE. The head state during the read of step 2 and the fields kept after the end are deduced (log 15, log 24), and that a
formation waits for its own command (log 6); that messages are taken within the step is the model's choice (log 5), and so
is stow close pending in RECONCILING (log 30). -/
def Obligations.FaultsEnterReconciling : Prop :=
  (∀ (s : State) (a : Arm) (p p' : Fin 20), s.serves a → s.quiet → (s.change a).state ≠ .idle →
     (s.change a).state ≠ .waitingRack → (s.change a).state ≠ .reconciling →
     (s.change a).current = some p → (s.report a).pocket = some p → p' ∈ (s.change a).opened →
     NotDeparted s a p' →
     let faulted (base : State) (r : ChangeResult) : State :=
       { (base.setChange a { base.change a with
             state := .reconciling, faultResult := some r, timer := some s.sequencer.approachTimeout
             wait := .departure }).setHead a { base.head a with attempt := none } with
         rack := { base.rack with
           reports := base.rack.reports.set a { pocket := some p, suppressed := true, stow := (s.report a).stow } } }
     let moduleGone := s.setHead a { s.head a with modulePresent := false }
     let moduleCome := s.setHead a { s.head a with modulePresent := true }
     let st := (s.change a).state
     (∀ arm : Byte, s.takesRequests → arm.toNat = a.toNat → exec (.changeAbort arm) s =
       .next (s.respond (.changeAbort arm) { status := .ok, payload := [], state := faulted s .aborted })) ∧
     exec (.lapsedMessage a) s = .next (faulted s .grantLapsed) ∧
     exec (.lockedOutMessage a) s = .next (faulted s .rackLocked) ∧
     ((s.change a).timer ≠ none → s.frz = false → exec (.stepTimerExpiry a) s = .next (faulted s .timeout)) ∧
     ((s.head a).moduleInput = false → (s.head a).modulePresent = true →
       st = .stowApproach ∨ st = .stowOpen ∨ st = .fetchClear ∨ st = .fetchIdentify →
       exec (.modulePresentChange a) s = .next (faulted moduleGone .noModule)) ∧
     ((s.head a).moduleInput = true → (s.head a).modulePresent = false →
       st = .stowClear ∨ st = .fetchApproach ∨ st = .fetchOpen →
       exec (.modulePresentChange a) s = .next (faulted moduleCome .extraModule)) ∧
     (st = .fetchIdentify → ∀ n, (s.head a).attempt = some n →
       (3 ≤ n → exec (.identityAttemptTimeout a) s = .next (faulted s .noId) ∧
         ∀ id, exec (.identityReply a id false) s = .next (faulted s .noId)) ∧
       ∀ (id : Word) (i : Fin 64) (t : Tip), (s.change a).target = some i → s.library.tips[i] = .active t →
         t.moduleId ≠ id → exec (.identityReply a id true) s = .next (faulted s .wrongModule))) ∧
  (∀ (s : State) (a : Arm) (p : Fin 20) (q : Point), s.serves a → s.quiet → FormsReference s a q →
     (∀ acknowledged inside, s.rack.arbiter ≠ .granted a acknowledged inside true) →
     (s.change a).opened = [p] → ¬ InDock s a p q →
     (s.pocket p).lid = .opening ∨ (s.pocket p).lid = .opened → (s.pocket p).sense = true →
     let c := s.change a
     let departs (before : Change) (r : PocketReport) : Prop := ∃ u : State,
       exec (.checkPointFormation a) s = .next u ∧
       u.change a = { before with timer := none, wait := .lids, lastReference := some q } ∧ u.report a = r ∧
       u.pocket p = { s.pocket p with lid := .closing, drive := false, timer := some s.rack.lidTimeout } ∧
       (∀ p' : Fin 20, p' ≠ p → u.pocket p' = s.pocket p') ∧ u.library = s.library
     (c.state = .stowOpen ∨ c.state = .stowRelease ∨ c.state = .fetchOpen ∨ c.state = .fetchPick →
       c.current = some p → (s.report a).pocket = some p →
       departs { c with state := .reconciling, faultResult := some .dockLeft }
         { pocket := some p, suppressed := true, stow := (s.report a).stow }) ∧
     (c.state = .reconciling → c.wait = .departure → departs c (s.report a))) ∧
  (∀ (s : State) (a : Arm), s.serves a → s.quiet → (s.head a).modulePresent = true →
     (s.change a.other).state = .idle ∨ (s.change a.other).state = .waitingRack →
     let c := s.change a
     let read : Head := { s.head a with state := .identifying, allowUnqualified := false, attempt := some 1 }
     let double (e : Instr) (lids jams : List (Fin 20)) : Prop := s.rack.arbiter ≠ .lockedOut → LidLaw s →
       (∀ p : Fin 20, p ∉ jams → (s.pocket p).drive = true → (s.pocket p).sense = true) → ∃ u : State, exec e s = .next u ∧
       u.change a = { c with double := true, opened := lids, timer := none, wait := .identity } ∧ u.head a = read ∧
       u.rack.arbiter = .lockedOut ∧ u.rack.queue = [] ∧ u.rack.grantTimer = none ∧ u.zones.grantee = none ∧
       (∀ p : Fin 20, (u.pocket p).drive = false) ∧ u.attention.sources[sourceIndex .rack].flag = true
     (c.state = .reconciling → c.wait = .departure → c.timer ≠ none → s.frz = false →
       double (.stepTimerExpiry a) c.opened []) ∧
     (∀ (p : Fin 20) (e : Instr), c.opened = [p] →
       (e = .lidSenseChange p ∧ (s.pocket p).lid = .opened ∧ (s.pocket p).sense = true ∧
           (s.pocket p).senseInput = false) ∨
         (e = .lidTimerExpiry p ∧ ((s.pocket p).lid = .opening ∨ (s.pocket p).lid = .closing) ∧
           (s.pocket p).timer ≠ none ∧ s.frz = false) →
       (c.state = .reconciling → c.wait ≠ .identity → double e [] [p]) ∧
       (c.state ≠ .idle → c.state ≠ .waitingRack → c.state ≠ .reconciling → ∀ p₀ : Fin 20, c.current = some p₀ →
         (s.report a).pocket = some p₀ → ∃ u : State, exec e s = .next u ∧
         u.change a = { c with
           state := .reconciling, faultResult := some .lidJammed, opened := [], timer := none, wait := .identity } ∧
         u.head a = read ∧ u.report a = { pocket := some p₀, suppressed := true, stow := (s.report a).stow } ∧
         (u.pocket p).lid = .jammed ∧ (u.pocket p).drive = false))) ∧
  (∀ (s : State) (a : Arm) (p p₀ : Fin 20) (i : Fin 64) (t : Tip), s.serves a → s.quiet →
     (s.change a.other).state = .idle ∨ (s.change a.other).state = .waitingRack ∧ s.grantedTo a.other = false →
     s.library.tips[i] = .active t → t.home = p → (s.change a).current = some p₀ → (s.report a).pocket = some p₀ →
     let c := s.change a
     (((c.state = .stowApproach ∨ c.state = .stowOpen) ∧ c.stowing = some i ∧ (s.pocket p).occupied = false ∧
         (s.pocket p).occupancyInput = true) ∨
       ((c.state = .fetchApproach ∨ c.state = .fetchOpen) ∧ c.target = some i ∧ (s.pocket p).occupied = true ∧
         (s.pocket p).occupancyInput = false)) →
     let faulted : Change := { c with state := .reconciling, faultResult := some .pocketChanged }
     let report : PocketReport := { pocket := some p₀, suppressed := true, stow := (s.report a).stow }
     ((∃ p' ∈ c.opened, NotDeparted s a p') → ∃ u : State, exec (.observedOccupancyChange p) s = .next u ∧
       u.change a = { faulted with timer := some s.sequencer.approachTimeout, wait := .departure } ∧
       u.report a = report) ∧
     (c.opened = [] → (s.head a).modulePresent = true → ∃ u : State, exec (.observedOccupancyChange p) s = .next u ∧
       u.change a = { faulted with timer := none, wait := .identity } ∧ u.report a = report ∧
       u.head a = { s.head a with state := .identifying, allowUnqualified := false, attempt := some 1 })) ∧
  (∀ (s : State) (a : Arm) (i : Fin 64) (t : Tip) (f : ChangeResult), s.serves a → s.quiet →
     (s.change a).state = .reconciling → (s.change a).faultResult = some f → (s.change a.other).state = .idle →
     s.library.tips[i] = .active t → t.location = .inTransit a →
     (s.change a).stowing = some i ∨ (s.change a).target = some i →
     let c := s.change a
     let ended (u : State) : Prop := u.change a = { c with
         state := .idle, timer := none, target := none, stowing := none, opened := [], faultResult := none
         current := none, wait := .identity, last := some (f, c.double), staged := none
         stagedOutcome := if c.staged = none then c.stagedOutcome else .discarded } ∧
       u.report a = { pocket := none, suppressed := false, stow := false } ∧
       u.attention.sources[sourceIndex (.change a)].flag = true
     let resolved (u : State) : Prop := ended u ∧
       u.library.tips[i] = .active { t with
         location := if (s.pocket t.home).occupied then .inPocket else .missing } ∧
       ((s.pocket t.home).occupied = false → u.attention.sources[sourceIndex .tip].flag = true)
     (∀ n, c.wait = .identity → (s.head a).attempt = some n →
       (∀ id : Word, (∀ (j : Fin 64) (v : Tip), s.library.tips[j] = .active v → v.moduleId ≠ id) → ∃ u : State,
         exec (.identityReply a id true) s = .next u ∧ resolved u ∧ u.head a = { s.head a with
           state := .foreignModule (some id), allowUnqualified := false, attempt := none }) ∧
       (3 ≤ n → ∃ u : State, exec (.identityAttemptTimeout a) s = .next u ∧ resolved u ∧ u.head a = { s.head a with
           state := .foreignModule none, allowUnqualified := false, attempt := none }) ∧
       ((∀ (j : Fin 64) (v : Tip), s.library.tips[j] = .active v → v.moduleId = t.moduleId → j = i) → ∃ u : State,
         exec (.identityReply a t.moduleId true) s = .next u ∧ ended u ∧
         u.library.tips[i] = .active { t with location := .onArm a } ∧
         u.head a = { s.head a with state := .tip, allowUnqualified := false, attempt := none })) ∧
     (∀ p : Fin 20, c.wait = .lids → c.opened = [p] → (s.pocket p).lid = .closing → (s.pocket p).sense = true →
       (s.pocket p).senseInput = false → ∃ u : State, exec (.lidSenseChange p) s = .next u ∧
       ((s.head a).modulePresent = true → u.change a = { c with opened := [], wait := .identity } ∧
         u.head a = { s.head a with state := .identifying, allowUnqualified := false, attempt := some 1 } ∧
         u.library = s.library ∧ u.report a = s.report a) ∧
       ((s.head a).modulePresent = false → resolved u ∧
         u.head a = { s.head a with state := .empty, allowUnqualified := false })))

/-- The module-present input and the head outside a change. A level of the input is taken as it comes; after 20 ms it
is the debounced level (R136). A mounted tip that goes is a breakaway: the tip is MISSING with TIP raised, the cause
COLLISION is added and the head is EMPTY; a FOREIGN module that goes, or one that is being read, leaves the head
EMPTY; and a module that comes to an EMPTY head is read (R158). The identity reader: without a read in flight nothing
happens; a failed attempt is followed by the next, and the third ends the read with no ID (R137). Outside a change the
outcome goes to the library as an identity report (R158, R19). In FETCH_IDENTIFY the target's ID makes the target
ON_ARM with the head TIP and the mark of the change's option, and the change goes on to FETCH_CLEAR (R149). The arm is
still in the dock box, so that the stage waits. That a change command without a new level changes nothing is deduced
(log 26); that a reply or a timeout with no read in flight changes nothing is the model's choice (log 7). -/
def Obligations.HeadsAreFollowedOutsideAChange : Prop :=
  (∀ (s : State) (a : Arm), s.serves a → s.quiet →
     let h := s.head a
     (∀ level : Bool, exec (.modulePresentEdge a level) s = .next (s.setHead a { h with moduleInput := level })) ∧
     (h.moduleInput = h.modulePresent → exec (.modulePresentChange a) s = .next s) ∧
     ((s.change a).state = .idle → h.moduleInput = false → h.modulePresent = true →
       (∀ (i : Fin 64) (t : Tip), h.state = .tip → Mounted s a (some i) → s.library.tips[i] = .active t → ∃ u : State,
         exec (.modulePresentChange a) s = .next u ∧
         u.library = (s.setTip i (.active { t with location := .missing })).library ∧
         u.head a = { h with state := .empty, allowUnqualified := false, modulePresent := false } ∧
         u.attention.sources[10].flag = true ∧
         (u.zones.hold.get a).causes = (s.zones.hold.get a).causes.add .collision ∧
         ((s.zones.hold.get a).causes = Causes.none →
           (u.touch.get a).armed = false ∧ u.attention.sources[sourceIndex (.hold a)].flag = true) ∧
         { u with library := s.library, sequencer := s.sequencer, zones := s.zones, touch := s.touch,
                  attention := s.attention } = s) ∧
       (h.state = .identifying ∨ (∃ id, h.state = .foreignModule id ∧ h.attempt = none) →
         exec (.modulePresentChange a) s = .next (s.setHead a
           { h with state := .empty, allowUnqualified := false, modulePresent := false, attempt := none }))) ∧
     ((s.change a).state = .idle → h.moduleInput = true → h.modulePresent = false → h.state = .empty →
       exec (.modulePresentChange a) s = .next (s.setHead a
         { h with state := .identifying, allowUnqualified := false, modulePresent := true, attempt := some 1 }))) ∧
  (∀ (s : State) (a : Arm) (id : Word), s.serves a → s.quiet →
     ((s.head a).attempt = none → exec (.identityAttemptTimeout a) s = .next s ∧
       ∀ correct, exec (.identityReply a id correct) s = .next s) ∧
     ∀ n, (s.head a).attempt = some n →
       let ended := s.setHead a { s.head a with attempt := none }
       (n < 3 → exec (.identityAttemptTimeout a) s = .next (s.setHead a { s.head a with attempt := some (n + 1) }) ∧
         exec (.identityReply a id false) s = .next (s.setHead a { s.head a with attempt := some (n + 1) })) ∧
       ((s.change a).state = .idle →
         (∃ v : State, exec (.identityReport a (some id)) ended = .next v ∧
           exec (.identityReply a id true) s = .next { v with answer := s.answer }) ∧
         (3 ≤ n → ∃ v : State, exec (.identityReport a none) ended = .next v ∧
           exec (.identityAttemptTimeout a) s = .next { v with answer := s.answer } ∧
           exec (.identityReply a id false) s = .next { v with answer := s.answer })) ∧
       ((s.change a).state = .fetchIdentify → ∀ (i : Fin 64) (t : Tip) (p : Fin 20), (s.change a).target = some i →
         s.library.tips[i] = .active t → t.moduleId = id → t.location = .inTransit a → (s.change a).current = some p →
         s.report a = { pocket := some p, suppressed := true, stow := false } → t.home = p →
         (s.report a.other).pocket ≠ some p → (s.pocket p).occupied = false →
         (∀ (j : Fin 64) (v : Tip), s.library.tips[j] = .active v → v.location ≠ .onArm a) →
         (∀ (j : Fin 64) (v : Tip), s.library.tips[j] = .active v → v.home = p → j = i) →
         (∀ q, (s.change a).lastReference = some q → ∃ b, (s.pocket p).dock.get a = some b ∧ b.contains q = true) →
         exec (.identityReply a id true) s = .next
           { ((ended.setTip i (.active { t with location := .onArm a })).setHead a
                 { ended.head a with state := .tip, allowUnqualified := (s.change a).allow }).setChange a
               { s.change a with state := .fetchClear, timer := some s.sequencer.approachTimeout, wait := .departure } with
             rack := { s.rack with
               reports := s.rack.reports.set a { pocket := some p, suppressed := false, stow := false } } }))

/-- The two transfers are taken when module-present and the pocket's occupancy hold together, whichever comes last. In
STOW_RELEASE the tip is then IN_POCKET with the stow lid left open for the departure, and the change goes on to
FETCH_APPROACH or STOW_CLEAR (R145); in FETCH_PICK the head is IDENTIFYING with a read begun, and the change is in
FETCH_IDENTIFY (R148). On arrival in the dock box the lid is opened (R143, R144, R147), and an open command refused
faults the change GRANT_LAPSED or RACK_LOCKED (R144). When the lid is OPEN the stow release or the pick begins, or a
refusal of the library faults the change (R144, R147). On departure the lid is closed, the change waiting for it in
STOW_CLEAR and FETCH_CLEAR and going on to the target pocket in FETCH_APPROACH (R146, R150). The last occupancy is stated
for an other arm that is IDLE, and a formation for an arm whose grant it does not release. That a formation waits for
its own command is deduced (log 6); that messages are taken within the step is the model's choice (log 5). -/
def Obligations.TransfersAreTaken : Prop :=
  (∀ (s : State) (a : Arm) (p : Fin 20) (i : Fin 64) (t : Tip), s.serves a → s.quiet → (s.change a).current = some p →
     NotDeparted s a p → s.library.tips[i] = .active t → t.location = .inTransit a → t.home = p →
     (∀ (j : Fin 64) (v : Tip), s.library.tips[j] = .active v → v.home = p → j = i) →
     (s.report a.other).pocket ≠ some p →
     let byModule (level occupied : Bool) (e : Instr) : Prop := e = .modulePresentChange a ∧
       (s.head a).moduleInput = level ∧ (s.head a).modulePresent = !level ∧ (s.pocket p).occupied = occupied
     let byPocket (level occupied : Bool) (e : Instr) : Prop := e = .observedOccupancyChange p ∧
       (s.head a).modulePresent = level ∧ (s.pocket p).occupancyInput = occupied ∧ (s.pocket p).occupied = !occupied ∧
       s.suppressed p = true ∧ (s.change a.other).state = .idle
     ((s.change a).state = .stowRelease → (s.change a).stowing = some i →
       s.report a = { pocket := some p, suppressed := true, stow := true } →
       ∀ e, byModule false true e ∨ byPocket false true e → ∃ u : State,
       exec e s = .next u ∧ u.head a = { s.head a with modulePresent := false } ∧
       u.library = (s.setTip i (.active { t with location := .inPocket })).library ∧
       u.report a = { pocket := some p, suppressed := false, stow := false } ∧
       u.pocket p = { s.pocket p with occupied := true, foreignMark := false } ∧
       u.change a = { s.change a with
         state := if (s.change a).target = none then .stowClear else .fetchApproach
         stowClose := true, timer := some s.sequencer.approachTimeout, wait := .departure } ∧
       { u with library := s.library, rack := s.rack, sequencer := s.sequencer } = s) ∧
     ((s.change a).state = .fetchPick → (s.change a).target = some i →
       ∀ e, byModule true false e ∨ byPocket true false e →
       exec e s = .next
         (((s.setPocket p { s.pocket p with occupied := false }).setHead a { s.head a with
             state := .identifying, allowUnqualified := false, modulePresent := true, attempt := some 1 }).setChange a
           { s.change a with state := .fetchIdentify, timer := none, wait := .departure }))) ∧
  (∀ (s : State) (a : Arm) (p : Fin 20) (q : Point), s.serves a → s.quiet → FormsReference s a q →
     (∀ acknowledged inside, s.rack.arbiter ≠ .granted a acknowledged inside true) →
     (s.change a).current = some p → (s.report a).pocket = some p →
     let c := s.change a
     let formed (after : Change) (r : PocketReport) (k : Pocket) : Prop := ∃ u : State,
       exec (.checkPointFormation a) s = .next u ∧ u.change a = { after with lastReference := some q } ∧
       u.report a = r ∧ u.pocket p = k ∧ (∀ p' : Fin 20, p' ≠ p → u.pocket p' = s.pocket p') ∧ u.head a = s.head a ∧
       u.library = s.library
     let closing : Pocket := { s.pocket p with lid := .closing, drive := false, timer := some s.rack.lidTimeout }
     (InDock s a p q → c.state = .stowApproach ∨ (c.state = .fetchApproach ∧ c.stowClose = false) →
       ((s.pocket p).state = .enabled → (s.pocket p).lid = .closed ∨ (s.pocket p).lid = .closing →
         (s.pocket p).sense = false → (∃ acknowledged inside, s.rack.arbiter = .granted a acknowledged inside false) →
         formed { c with
             state := if c.state = .stowApproach then .stowOpen else .fetchOpen
             timer := none, wait := .departure, opened := c.opened ++ [p] } (s.report a)
           { s.pocket p with lid := .opening, drive := true, timer := some s.rack.lidTimeout }) ∧
       ((s.pocket p).lid ≠ .jammed → (∀ acknowledged inside ended, s.rack.arbiter ≠ .granted a acknowledged inside ended) →
         c.opened = [] → (s.head a).modulePresent = true → ∃ u : State, exec (.checkPointFormation a) s = .next u ∧
         u.change a = { c with
           state := .reconciling, timer := none, wait := .identity, lastReference := some q
           faultResult := some (if s.rack.arbiter = .lockedOut then .rackLocked else .grantLapsed) } ∧
         u.pocket p = s.pocket p)) ∧
     (¬ InDock s a p q → (s.pocket p).lid = .opening ∨ (s.pocket p).lid = .opened → (s.pocket p).sense = true →
       (c.state = .stowClear ∨ c.state = .fetchClear → c.wait = .departure → p ∈ c.opened →
         formed { c with timer := none, stowClose := false, wait := .lids } (s.report a) closing) ∧
       (c.state = .fetchApproach → c.stowClose = true → (s.report a).suppressed = false →
         (∀ p' : Fin 20, p' ≠ p → (s.pocket p').drive = false) → ∀ (j : Fin 64) (v : Tip), c.target = some j →
         s.library.tips[j] = .active v → v.home ≠ p → ¬ InDock s a v.home q →
         formed { c with stowClose := false, current := some v.home }
           { pocket := some v.home, suppressed := false, stow := false } closing))) ∧
  (∀ (s : State) (a : Arm) (p : Fin 20) (i : Fin 64) (t : Tip), s.serves a → s.quiet → (s.change a).current = some p →
     p ∈ (s.change a).opened → p ∉ (s.change a.other).opened → NotDeparted s a p →
     s.report a = { pocket := some p, suppressed := false, stow := false } → s.library.tips[i] = .active t →
     (s.pocket p).lid = .opening → (s.pocket p).sense = false → (s.pocket p).senseInput = true →
     let c := s.change a
     let opened := s.setPocket p { s.pocket p with sense := true, lid := .opened, drive := true, timer := none }
     let began (st : ChangeState) (h : Head) (stow : Bool) : State :=
       { ((opened.setTip i (.active { t with location := .inTransit a })).setHead a h).setChange a { c with
           state := st, timer := some s.sequencer.transferTimeout, wait := .departure } with
         rack := { opened.rack with
           reports := s.rack.reports.set a { pocket := some p, suppressed := true, stow := stow } } }
     let faulted (f : ChangeResult) : Prop := ∃ u : State, exec (.lidSenseChange p) s = .next u ∧
       u.change a = { c with
         state := .reconciling, faultResult := some f, timer := some s.sequencer.approachTimeout, wait := .departure } ∧
       u.library = s.library
     (c.state = .stowOpen → c.stowing = some i →
       (t.location = .onArm a → (s.head a).modulePresent = true → exec (.lidSenseChange p) s = .next
         (began .stowRelease { s.head a with state := .empty, allowUnqualified := false } true)) ∧
       (t.location ≠ .onArm a → faulted .noModule)) ∧
     (c.state = .fetchOpen → c.target = some i →
       (t.location = .inPocket → (s.head a).modulePresent = false → exec (.lidSenseChange p) s = .next
         (began .fetchPick (s.head a) false)) ∧
       (t.location ≠ .inPocket → faulted .pocketChanged)))

/-! ### Zones and holds (spec 09) -/

/-- ZONE_WRITE: its refusals in order (R175), and the record stored with its box and margin clamped, a VACANT zone
becoming ACTIVE, unclaimed, and out of both retreat-permit sets (R176). A SUSPENDED zone is not judged. An ACTIVE one
judges every REFERENCED arm with held points: a FORBIDDEN zone or the other arm's PRIVATE zone with the arm inside is
violated at once, and a SHARED zone gives its claim to the one arm inside (R166, R167, R176). The acceptance is stated
without a grantee, the refusals for any. That the exception for both arms inside holds for this judgement alone is deduced (log 18). -/
def Obligations.ZoneWriteStoresAndJudges : Prop :=
  ∀ (s : State) (zone kind arm : Byte) (box : Axes Bounds) (margin : Word) (z : Fin 16), s.takesRequests → s.quiet →
    zone.toNat = z.val →
    let c := Instr.zoneWrite zone kind arm box margin
    let refused (st : Status) : Prop := exec c s = .next (s.respond c (refuse st s))
    let good : Prop := ∀ i : Axis, (box.get i).lo.toInt ≤ (box.get i).hi.toInt
    (3 < kind.toNat ∨ (kind = 1 ∧ 1 < arm.toNat) ∨ ¬ good → refused .badArgument) ∧
    ∀ k : ZoneKind, zoneKindArg kind arm = some k → good →
      let absent : Prop := k = .privateTo .one ∧ s.oneArm = true
      let claimed : Prop := ∃ (r : Zone) (b : Arm), s.zone z = some r ∧ r.kind = .shared (some b)
      let granted : Prop := (∃ r, s.zone z = some r ∧ r.kind = .rack) ∧ k ≠ .rack ∧
        ∃ b acknowledged inside ended, s.rack.arbiter = .granted b acknowledged inside ended
      let second : Prop := k = .rack ∧ ∃ (w : Fin 16) (r : Zone), w ≠ z ∧ s.zone w = some r ∧ r.kind = .rack
      (absent → refused .notPresent) ∧ (¬ absent → claimed → refused .inUse) ∧
      (¬ absent → ¬ claimed → granted → refused .inUse) ∧
      (¬ absent → ¬ claimed → ¬ granted → second → refused .duplicate) ∧
      (¬ absent → ¬ claimed → ¬ granted → ¬ second → s.zones.grantee = none →
        ∃ (u : State) (clamped : Bool) (r : Zone),
        exec c s = .next (s.respond c
          { status := if clamped then .clamped else .ok, payload := u.zoneRecord z, state := u }) ∧
        u.zone z = some r ∧ (r.suspended = true ↔ ∃ q, s.zone z = some q ∧ q.suspended = true) ∧
        (∀ i : Axis, r.box.lo.get i = max (-2147483647) (box.get i).lo.toInt ∧
          r.box.hi.get i = max (-2147483647) (box.get i).hi.toInt) ∧
        r.margin = max 0 (min 5000000 margin.toInt) ∧
        (clamped = true ↔ r.margin ≠ margin.toInt ∨
          ∃ i : Axis, (box.get i).lo.toInt = -2147483648 ∨ (box.get i).hi.toInt = -2147483648) ∧
        (∀ w : Fin 16, w ≠ z → u.zone w = s.zone w) ∧
        (let inside (a : Arm) : Prop := r.suspended = false ∧ s.referenced a = true ∧
           ∃ q, (s.zones.hold.get a).points = some q ∧ Inside r q
         (∀ a : Arm, (u.zones.hold.get a).permit[z] = false ∧
           (r.suspended = true ∨ s.referenced a = false ∨ (s.zones.hold.get a).points = none →
             u.zones.hold.get a = { s.zones.hold.get a with permit := upd (s.zones.hold.get a).permit z false }) ∧
           (r.suspended = false → s.referenced a = true → (s.zones.hold.get a).points ≠ none →
             ((u.zones.hold.get a).inside[z] = true ↔ inside a)) ∧
           (inside a → k = .forbidden ∨ k = .privateTo a.other ∨ k = .rack ∨ (k = .shared none ∧ inside a.other) →
             (s.zones.hold.get a).violated[z] = false →
             (u.zones.hold.get a).violated[z] = true ∧ (u.zones.hold.get a).causes.zone = true) ∧
           (inside a → k = .privateTo a ∨ (k = .shared none ∧ ¬ inside a.other) →
             (u.zones.hold.get a).violated[z] = (s.zones.hold.get a).violated[z]) ∧
           (k = .shared none → inside a → ¬ inside a.other → r.kind = .shared (some a))) ∧
         (k = .shared none → (inside .zero ∧ inside .one) ∨ (¬ inside .zero ∧ ¬ inside .one) → r.kind = .shared none) ∧
         (k ≠ .shared none → r.kind = k)))

/-- ZONE_SUSPEND and ZONE_DELETE: refused for a zone in the wrong state, and IN_USE for the RACK zone while the rack
is granted. A suspended zone keeps its record without a claim and leaves the inside and the retreat-permit sets
(R177); a deleted one leaves all three sets, the cause ZONE staying (R179). ZONE_RESUME makes a SUSPENDED zone ACTIVE
and unclaimed and judges every REFERENCED arm against it at once; any other zone is refused WRONG_STATE (R178). The
judgement is stated without a grantee. That the exception for both arms inside holds for this judgement alone is
deduced (log 18). -/
def Obligations.ZonesAreSuspendedDeletedAndResumed : Prop :=
  (∀ (s : State) (zone : Byte) (z : Fin 16), s.takesRequests → zone.toNat = z.val →
     let c := Instr.zoneSuspend zone
     let d := Instr.zoneDelete zone
     let unclaimed (k : ZoneKind) : ZoneKind := match k with
       | .shared _ => .shared none
       | k => k
     let granted (r : Zone) : Prop := r.kind = .rack ∧
       ∃ b acknowledged inside ended, s.rack.arbiter = .granted b acknowledged inside ended
     (s.zone z = none → exec d s = .next (s.respond d (refuse .wrongState s))) ∧
     ((∀ r, s.zone z = some r → r.suspended = true) → exec c s = .next (s.respond c (refuse .wrongState s))) ∧
     ∀ r, s.zone z = some r →
       (granted r → exec d s = .next (s.respond d (refuse .inUse s)) ∧
         (r.suspended = false → exec c s = .next (s.respond c (refuse .inUse s)))) ∧
       (¬ granted r →
         (r.suspended = false → ∃ u : State,
           exec c s = .next (s.respond c { status := .ok, payload := [], state := u }) ∧
           u.zones.table = upd s.zones.table z (some { r with suspended := true, kind := unclaimed r.kind }) ∧
           u.zones.grantee = s.zones.grantee ∧
           (∀ a : Arm, u.zones.hold.get a = { s.zones.hold.get a with
             inside := upd (s.zones.hold.get a).inside z false, permit := upd (s.zones.hold.get a).permit z false }) ∧
           { u with zones := s.zones } = s) ∧
         ∃ u : State, exec d s = .next (s.respond d { status := .ok, payload := [], state := u }) ∧
           u.zones.table = upd s.zones.table z none ∧ u.zones.grantee = s.zones.grantee ∧
           (∀ a : Arm, u.zones.hold.get a = { s.zones.hold.get a with
             inside := upd (s.zones.hold.get a).inside z false, permit := upd (s.zones.hold.get a).permit z false
             violated := upd (s.zones.hold.get a).violated z false }) ∧
           { u with zones := s.zones } = s)) ∧
  (∀ (s : State) (zone : Byte) (z : Fin 16), s.takesRequests → s.quiet → zone.toNat = z.val →
     let c := Instr.zoneResume zone
     ((∀ r, s.zone z = some r → r.suspended = false) → exec c s = .next (s.respond c (refuse .wrongState s))) ∧
     ∀ r, s.zone z = some r → r.suspended = true → s.zones.grantee = none → ∃ (u : State) (q : Zone),
       exec c s = .next (s.respond c { status := .ok, payload := [], state := u }) ∧
       u.zone z = some q ∧ q.suspended = false ∧ q.box = r.box ∧ q.margin = r.margin ∧
       (∀ w : Fin 16, w ≠ z → u.zone w = s.zone w) ∧
       (let inside (a : Arm) : Prop := s.referenced a = true ∧
          ∃ q, (s.zones.hold.get a).points = some q ∧ Inside r q
        (∀ a : Arm,
          (s.referenced a = false ∨ (s.zones.hold.get a).points = none → u.zones.hold.get a = s.zones.hold.get a) ∧
          (s.referenced a = true → (s.zones.hold.get a).points ≠ none →
            ((u.zones.hold.get a).inside[z] = true ↔ inside a)) ∧
          (inside a → r.kind = .forbidden ∨ r.kind = .privateTo a.other ∨ r.kind = .rack ∨
              ((∃ b, r.kind = .shared b) ∧ inside a.other) →
            (s.zones.hold.get a).violated[z] = false → (s.zones.hold.get a).permit[z] = false →
            (u.zones.hold.get a).violated[z] = true ∧ (u.zones.hold.get a).causes.zone = true) ∧
          ((∃ b, r.kind = .shared b) → inside a → ¬ inside a.other → q.kind = .shared (some a))) ∧
        ((∃ b, r.kind = .shared b) → (inside .zero ∧ inside .one) ∨ (¬ inside .zero ∧ ¬ inside .one) →
          q.kind = .shared none) ∧
        ((∀ b, r.kind ≠ .shared b) → q.kind = r.kind)))

/-- HOLD_RELEASE is refused while an axis of the arm is in FAULT. Accepted, it empties the cause set, passes the
violated zones to the retreat-permit set, and judges a REFERENCED arm from its held points: a permitted zone it is
outside leaves the set, and a zone it stands in that is neither permitted to it nor in the set is violated afresh
(R172, R173). It answers the hold record. The judgement is stated for an arm that claims no zone and is not the
grantee. The addition of a hold cause: to an empty set it latches the hold, which disarms probing and raises HOLD; to
another it changes only the set, and a cause already in it changes nothing; the HOLD output is active exactly with a
cause in the set; and an arm that is not present has no hold (R170). That an added cause may come as a command of its
own is the model's choice (log 10). -/
def Obligations.HoldsAreLatchedAndReleased : Prop :=
  (∀ (s : State) (arm : Byte) (a : Arm), s.takesRequests → s.quiet → s.present a = true → arm.toNat = a.toNat →
     let c := Instr.holdRelease arm
     let h := s.zones.hold.get a
     let faulted : Prop := ∃ (i : Axis) (f : FaultCause), (s.axis a i).state = .fault f
     let released : HoldRecord := { h with
       causes := Causes.none, violated := Vector.replicate 16 false
       permit := Vector.ofFn fun z : Fin 16 => h.permit[z] || h.violated[z] }
     (faulted → exec c s = .next (s.respond c (refuse .wrongState s))) ∧
     (¬ faulted → s.referenced a = false ∨ h.points = none → ∃ u : State,
       exec c s = .next (s.respond c { status := .ok, payload := released.bytes, state := u }) ∧
       u = s.setHold a released ∧ u.holdActive a = false) ∧
     (¬ faulted → s.referenced a = true → ∀ q, h.points = some q → s.zones.grantee ≠ some a →
       (∀ (z : Fin 16) (r : Zone), s.zone z = some r → r.kind ≠ .shared (some a)) → ∃ u : State,
       exec c s = .next (s.respond c { status := .ok, payload := (u.zones.hold.get a).bytes, state := u }) ∧
       let fresh (z : Fin 16) : Prop := ∃ r, s.zone z = some r ∧ r.suspended = false ∧ Inside r q ∧
         r.kind ≠ .privateTo a ∧ r.kind ≠ .shared none ∧ released.permit[z] = false
       (∀ z : Fin 16, ((u.zones.hold.get a).violated[z] = true ↔ fresh z) ∧
         ((u.zones.hold.get a).permit[z] = true ↔ released.permit[z] = true ∧
           ∀ r, s.zone z = some r → r.suspended = false → Inside r q)) ∧
       ((∃ z, fresh z) → (u.zones.hold.get a).causes = Causes.none.add .zone ∧
         u.attention.sources[sourceIndex (.hold a)].flag = true ∧ (u.touch.get a).armed = false) ∧
       ((∀ z, ¬ fresh z) → (u.zones.hold.get a).causes = Causes.none ∧ u.attention = s.attention ∧ u.touch = s.touch ∧
         u.holdActive a = false) ∧
       u.zones.hold.get a.other = s.zones.hold.get a.other ∧
       { u with zones := s.zones, attention := s.attention, touch := s.touch } = s)) ∧
  (∀ (s : State) (a : Arm) (cause : HoldCause), s.powered = true →
     let h := s.zones.hold.get a
     let c := Instr.holdCauseAddition a cause
     (s.present a = false → exec c s = .next s ∧ s.holdActive a = false) ∧
     (s.present a = true →
       (h.causes.has cause = true → exec c s = .next s) ∧
       (s.holdActive a = true ↔ h.causes ≠ Causes.none) ∧
       (h.causes ≠ Causes.none → exec c s = .next (s.setHold a { h with causes := h.causes.add cause })) ∧
       (h.causes = Causes.none → ∃ u : State, exec c s = .next u ∧ u.holdActive a = true ∧
         u.zones = (s.setHold a { h with causes := h.causes.add cause }).zones ∧
         u.touch = s.touch.set a { s.touch.get a with armed := false } ∧
         u.attention = (s.raise (.hold a)).attention ∧ u.attention.sources[sourceIndex (.hold a)].flag = true ∧
         { u with zones := s.zones, touch := s.touch, attention := s.attention } = s)))

/-- The monitor holds the grantee as it is told (R168). Told of an arm in the RACK zone, it reports the entry to the
arbiter, which acknowledges the grant; an arm in the RACK zone that is no longer the grantee is in violation; and with
no arm in the zone only the grantee changes. A notice that names an absent arm changes nothing (R38). That the notice
may come as a command of its own is the model's choice (log 10). -/
def Obligations.GranteeNoticesAreJudged : Prop :=
  ∀ (s : State) (g : Option Arm), s.powered = true → s.quiet →
    ((∃ a, g = some a ∧ s.present a = false) → exec (.granteeNotice g) s = .next s) ∧
    ((∀ a, g = some a → s.present a = true) →
      ((∀ (a : Arm) (z : Fin 16), s.zoneIsRack z = true → (s.zones.hold.get a).inside[z] = false) →
        exec (.granteeNotice g) s = .next { s with zones := { s.zones with grantee := g } }) ∧
      ∀ (z : Fin 16) (r : Zone), s.zone z = some r → r.kind = .rack → r.suspended = false →
        (∀ (w : Fin 16) (v : Zone), s.zone w = some v → v.kind = .rack → w = z) →
        ∀ (a : Arm) (q : CheckPoints), s.referenced a = true → (s.zones.hold.get a).points = some q → Inside r q →
          (s.zones.hold.get a).inside[z] = true → (s.zones.hold.get a.other).inside[z] = false →
          (g = some a → ∀ acknowledged inside ended, s.rack.arbiter = .granted a acknowledged inside ended →
            ∃ u : State, exec (.granteeNotice g) s = .next u ∧
              u.rack.arbiter = .granted a true true ended ∧ u.zones = { s.zones with grantee := g } ∧
              u.rack.grantTimer = (if acknowledged then s.rack.grantTimer else none) ∧
              { u with rack := s.rack, zones := s.zones } = s ∧
              { u.rack with arbiter := s.rack.arbiter, grantTimer := s.rack.grantTimer } = s.rack) ∧
          (g ≠ some a → (s.zones.hold.get a).permit[z] = false → (s.zones.hold.get a).violated[z] = false →
            ∃ u : State, exec (.granteeNotice g) s = .next u ∧ u.zones.grantee = g ∧
              (u.zones.hold.get a).violated[z] = true ∧
              (u.zones.hold.get a).causes = (s.zones.hold.get a).causes.add .zone ∧
              (∀ w, w ≠ z → (u.zones.hold.get a).violated[w] = (s.zones.hold.get a).violated[w]) ∧
              u.rack = s.rack ∧ u.library = s.library ∧ u.sequencer = s.sequencer))

/-- Only HOLD_RELEASE, RESTART and start-up take a cause out of a hold cause set, so that only they make a HOLD output
inactive (R170, R172, R181, R182); a HOLD_RELEASE or RESTART in execution does so at the frame after which its blocks
take it (the model's choice, log 3). -/
def Obligations.OnlyAReleaseEndsAHold : Prop :=
  ∀ (s t : State) (c : Instr) (a : Arm), exec c s = .next t → endsHolds s c = false →
    (∀ cause : HoldCause, (s.zones.hold.get a).causes.has cause = true → (t.zones.hold.get a).causes.has cause = true) ∧
    (s.holdActive a = true → t.holdActive a = true)

/-- At most one zone is of kind RACK, and a SUSPENDED zone is not claimed (R162, R175, R177): every step keeps it. The
service stack holds rising levels, at most three (R185, R191), and a one-arm build never flags a source of arm 1 (R38,
R184): every step keeps it. No message between blocks waits after a step, the model's choice (log 5): every step keeps
it. -/
def Obligations.ZoneAndAttentionLawsAreKept : Prop :=
  (∀ s t : State, ZoneLaw s → step s = .next t → ZoneLaw t) ∧
  (∀ s t : State, AttentionLaw s → step s = .next t → AttentionLaw t) ∧
  (∀ s t : State, s.quiet → step s = .next t → t.quiet)

/-! ### Reads and the laws at reset -/

/-- The reads of one arm, CHANGE_READ, HOLD_READ and POSITION_READ, answer what their blocks hold and change nothing
(R37, R94, R159, R174). The reads of the scan, the line checks, the groups, the coefficients, the pockets, the rack
and the zones answer what their blocks hold and change nothing (R59, R63, R72, R74, R120, R132, R180, R208). Sizes and
codes that section 11.3 leaves open are the model's choice (log 11). -/
def Obligations.ReadsAnswerAndChangeNothing : Prop :=
  (∀ (s : State) (arm : Byte) (a : Arm), s.takesRequests → arm.toNat = a.toNat → s.present a = true →
     let answers (c : Instr) (payload : List Byte) : Prop :=
       exec c s = .next (s.respond c { status := .ok, payload := payload, state := s })
     let bit (b : Bool) : Byte := if b then 1 else 0
     let axis (i : Axis) : List Byte := intBytes (s.axis a i).count ++ [(s.axis a i).state.code, (s.axis a i).direction.code]
       ++ intBytes (s.axis a i).s0
       ++ (match (s.axis a i).state with
           | .seeking v => 1 :: intBytes v
           | _ => [0, 0, 0, 0, 0])
       ++ (match (s.axis a i).state with
           | .fault f => [1, f.code]
           | _ => [0, 0])
     let marks (m : Marks) : Byte := byteOf (bitField [m.suspect, m.unqualified, m.held, m.stale, m.uncompensated,
       m.tempClamped, m.clamped])
     let c := s.change a
     let h := s.head a
     let hold := s.zones.hold.get a
     answers (.changeRead arm)
       ([c.state.code] ++ presence 1 numberByte c.target ++ presence 1 numberByte c.stowing
         ++ presence 1 numberByte c.current ++ [bit c.allow] ++ (BitVec.ofNat 8 c.opened.length :: c.opened.map fun p =>
           BitVec.ofNat 8 p.val) ++ [bit c.stowClose] ++ presence 4 natBytes c.timer
         ++ presence 1 (fun r => [r.code]) (if c.state = .reconciling then c.faultResult else none)
         ++ (if c.state = .reconciling then [1, bit c.double] else [0, 0])
         ++ presence 2 (fun r => [r.1.code, bit r.2]) c.last
         ++ presence 3 (fun r => [arm, (r.target.map fun i => BitVec.ofNat 8 i.val).getD 0xFF, bit r.allow]) c.staged
         ++ (match c.stagedOutcome with
             | .none => [0, 0, 0]
             | .started => [1, 1, 0]
             | .refusedAtStart st => [1, 2, st.code]
             | .nothingToDo => [1, 3, 0]
             | .discarded => [1, 4, 0])
         ++ [h.state.code]
         ++ (match h.state with
             | .foreignModule (some id) => 1 :: wordBytes id
             | _ => [0, 0, 0, 0, 0])
         ++ [bit h.allowUnqualified, bit h.modulePresent, bit h.attempt.isSome]) ∧
     answers (.holdRead arm)
       ([byteOf (bitField [hold.causes.powerOn, hold.causes.restart, hold.causes.zone, hold.causes.collision,
           hold.causes.axisFault])]
         ++ twoBytes (bitField hold.violated.toList) ++ twoBytes (bitField hold.permit.toList)
         ++ twoBytes (bitField hold.inside.toList)
         ++ twoBytes (bitField ((List.finRange 16).map fun z => (s.zone z).any fun r => r.kind == .shared (some a)))
         ++ [bit (decide (hold.causes ≠ Causes.none))] ++ presence 1 (fun b => [armByte b]) s.zones.grantee) ∧
     ((∃ i : Axis, (s.axis a i).state ≠ .referenced) → answers (.positionRead arm)
       (axis .x ++ axis .y ++ axis .z ++ pointBytes (s.arms.get a).origin ++ [1] ++ List.replicate 29 0)) ∧
     ((∀ i : Axis, (s.axis a i).state = .referenced) →
       ∀ (tip : Option (Fin 64)) (e : Option Entry), Mounted s a tip → EntryUsed s a tip e →
       ∃ q : CheckPoints,
         AreCheckPoints s a ⟨(s.axis a .x).count, (s.axis a .y).count, (s.axis a .z).count⟩ tip e q ∧
         answers (.positionRead arm)
           (axis .x ++ axis .y ++ axis .z ++ pointBytes (s.arms.get a).origin ++ [0, 1] ++ pointBytes q.reference
             ++ [marks q.referenceMarks]
             ++ (match q.tip with
                 | some t => 1 :: pointBytes t.position ++ [marks t.marks, BitVec.ofNat 8 t.number.val]
                 | none => List.replicate 15 0)))) ∧
  (∀ s : State, s.takesRequests →
     let answers (c : Instr) (payload : List Byte) : Prop :=
       exec c s = .next (s.respond c { status := .ok, payload := payload, state := s })
     let bit (b : Bool) : Byte := if b then 1 else 0
     let string (g : Strg) : List Byte := natBytes (s.string g).windowLength ++ natBytes (s.string g).faultCount
       ++ [(s.string g).check.state.code]
     let group (k : TempGroup) : List Byte :=
       (match (s.scanner.groups.get k).state with
         | .empty => [0, 0, 0, 0, 0, 0, 0, 0, 0, 0, 0]
         | .live v => [1, 1] ++ intBytes v ++ [0, 0, 0, 0, 0]
         | .held v n => [2, 1] ++ intBytes v ++ 1 :: natBytes n
         | .stale v n => [3, 1] ++ intBytes v ++ 1 :: natBytes n)
       ++ [byteOf (s.scanner.groups.get k).contributors,
           byteOf (((List.finRange 16).countP fun i =>
               (s.sensor .zero i).any fun r => r.binding == some k && r.state != .retired)
             + ((List.finRange 16).countP fun i =>
               (s.sensor .one i).any fun r => r.binding == some k && r.state != .retired))]
     let factor (f : Factor) : List Byte := intBytes f.value
       ++ [byteOf (bitField [false, false, f.marks.held, f.marks.stale, f.marks.uncompensated, f.marks.tempClamped])]
     let factors (a : Arm) : List Byte := factor ((s.comp.factors.scale.get a).get .x)
       ++ factor ((s.comp.factors.scale.get a).get .y) ++ factor ((s.comp.factors.scale.get a).get .z)
     let alphas (a : Arm) : List Byte := intBytes ((s.comp.coefficients.scale.get a).get .x)
       ++ intBytes ((s.comp.coefficients.scale.get a).get .y) ++ intBytes ((s.comp.coefficients.scale.get a).get .z)
     let rackReport (a : Arm) : List Byte := presence 1 numberByte (s.report a).pocket
       ++ [bit (s.report a).suppressed, bit (s.report a).stow]
     answers .scanRead ([s.scanner.state.code, s.scanner.mode.code] ++ natBytes s.scanner.period
       ++ presence 4 natBytes s.scanner.timer ++ [bit s.frz] ++ twoBytes s.scanner.overruns ++ string .zero ++ string .one) ∧
     answers .groupRead (group (.scale .zero .x) ++ group (.scale .zero .y) ++ group (.scale .zero .z)
       ++ group (.scale .one .x) ++ group (.scale .one .y) ++ group (.scale .one .z) ++ group (.head .zero)
       ++ group (.head .one) ++ group .workpiece ++ factors .zero ++ factors .one ++ factor s.comp.factors.workpiece
       ++ natBytes s.scanner.holdLimit) ∧
     answers .compRead (alphas .zero ++ alphas .one ++ intBytes s.comp.coefficients.workpiece
       ++ pointBytes s.comp.coefficients.w0) ∧
     answers .rackRead ((match s.rack.arbiter with
         | .free => List.replicate 8 0
         | .granted a acknowledged inside ended =>
           [1, armByte a, 1, bit acknowledged, 1, bit inside, 1, bit ended]
         | .lockedOut => 2 :: List.replicate 7 0)
       ++ (BitVec.ofNat 8 s.rack.queue.length :: s.rack.queue.map armByte) ++ presence 4 natBytes s.rack.grantTimer
       ++ natBytes s.rack.grantTimeout ++ natBytes s.rack.lidTimeout ++ rackReport .zero ++ rackReport .one) ∧
     (∀ (string : Byte) (g : Strg), string.toNat = g.toNat →
       let k := (s.string g).check
       let rest : List Byte := BitVec.ofNat 8 ((List.finRange 16).filter fun i => k.answered[i]).length ::
         (((List.finRange 16).filter fun i => k.answered[i]).map fun i => BitVec.ofNat 8 i.val)
       ((∀ i : Fin 16, k.failedPasses[i] = 0) → answers (.lineCheckRead string)
         ([k.state.code, byteOf k.completed, byteOf k.requested, 0, 0, 0, 0] ++ rest)) ∧
       (∀ i : Fin 16, k.failedPasses[i] ≠ 0 → (∀ j < i, k.failedPasses[j] = 0) → answers (.lineCheckRead string)
         ([k.state.code, byteOf k.completed, byteOf k.requested, 1, BitVec.ofNat 8 i.val] ++ twoBytes k.failedPasses[i]
           ++ rest))) ∧
     (∀ (pocket : Byte) (p : Fin 20), pocket.toNat = p.val →
       let r := s.pocket p
       let box : Option Box → List Byte := fun o => match o with
         | none => List.replicate 25 0
         | some b => 1 :: (intBytes b.lo.x ++ intBytes b.hi.x ++ intBytes b.lo.y ++ intBytes b.hi.y ++ intBytes b.lo.z
           ++ intBytes b.hi.z)
       ∀ home : Option (Fin 64), (∀ i, home = some i ↔ ∃ t, s.library.tips[i] = .active t ∧ t.home = p) →
         answers (.pocketRead pocket) ([r.state.code] ++ box r.dock.zero ++ box r.dock.one ++ [bit r.occupied, bit r.sense]
           ++ (if r.state = .vacant then [0, 0] else [1, bit (s.expected p)])
           ++ [bit (!r.foreignMark), r.lid.code, bit r.drive] ++ presence 4 natBytes r.timer
           ++ [bit (s.suppressed p)] ++ presence 1 numberByte home)) ∧
     (∀ (zone : Byte) (z : Fin 16), zone.toNat = z.val →
       (s.zone z = none → answers (.zoneRead zone) [zone, 0]) ∧
       ∀ r, s.zone z = some r → answers (.zoneRead zone)
         ([zone, if r.suspended then 2 else 1] ++ (match r.kind with
             | .forbidden => [0, 0xFF]
             | .privateTo b => [1, armByte b]
             | .shared _ => [2, 0xFF]
             | .rack => [3, 0xFF])
           ++ boxBytes r.box ++ intBytes r.margin
           ++ [match r.kind with
               | .shared (some b) => armByte b
               | _ => 0xFF]
           ++ [byteOf (bitField [(s.zones.hold.get .zero).inside[z], (s.zones.hold.get .zero).violated[z],
                 (s.zones.hold.get .zero).permit[z]]),
               if s.oneArm then 0 else byteOf (bitField [(s.zones.hold.get .one).inside[z],
                 (s.zones.hold.get .one).violated[z], (s.zones.hold.get .one).permit[z]])])))

/-- State.reset, the start-up whose strap, phases and levels are the model's choice (log 1), meets every law, and so does
the state after a start-up with any strap, phases and levels (R210). -/
def Obligations.ResetIsLawful : Prop :=
  Lawful State.reset ∧ ∀ (s : State) (l : Inputs), ∃ t : State, exec (.startUp l) s = .next t ∧ Lawful t
end

