-- ==== Sys2Proof/Laws/Tables.lean ====
section
/-! SUPPORT. The small lemmas of the tables with a fixed number of entries: what is read after a write. -/

namespace Sys2Proof

variable {α β : Type}

@[simp] theorem Side.other_other (a : Side) : a.other.other = a := by cases a <;> rfl

@[simp] theorem Side.other_ne (a : Side) : a.other ≠ a := by cases a <;> simp [Side.other]

@[simp] theorem Two.get_zero (t : Two α) : t.get .zero = t.zero := rfl

@[simp] theorem Two.get_one (t : Two α) : t.get .one = t.one := rfl

@[simp] theorem Two.set_zero (t : Two α) (v : α) : t.set .zero v = { t with zero := v } := rfl

@[simp] theorem Two.set_one (t : Two α) (v : α) : t.set .one v = { t with one := v } := rfl

@[simp] theorem Two.get_set_same (t : Two α) (a : Side) (v : α) : (t.set a v).get a = v := by cases a <;> rfl

theorem Two.get_set_ne (t : Two α) {a b : Side} (v : α) (h : a ≠ b) : (t.set a v).get b = t.get b := by
  cases a <;> cases b <;> first | rfl | exact absurd rfl h

@[simp] theorem Two.get_set_other (t : Two α) (a : Side) (v : α) : (t.set a v).get a.other = t.get a.other := by
  cases a <;> rfl

theorem Two.get_set (t : Two α) (a b : Side) (v : α) : (t.set a v).get b = if a = b then v else t.get b := by
  cases a <;> cases b <;> rfl

@[simp] theorem Two.set_get_same (t : Two α) (a : Side) : t.set a (t.get a) = t := by cases a <;> rfl

@[simp] theorem Two.get_map (t : Two α) (f : α → β) (a : Side) : (t.map f).get a = f (t.get a) := by cases a <;> rfl

@[simp] theorem Two.get_both (v : α) (a : Side) : (Two.both v).get a = v := by cases a <;> rfl

theorem Two.ext_get {t u : Two α} (h : ∀ a, t.get a = u.get a) : t = u := by
  cases t; cases u
  exact (Two.mk.injEq ..).mpr ⟨h .zero, h .one⟩

@[simp] theorem Axes.get_set_same (t : Axes α) (i : Axis) (v : α) : (t.set i v).get i = v := by cases i <;> rfl

theorem Axes.get_set (t : Axes α) (i j : Axis) (v : α) : (t.set i v).get j = if i = j then v else t.get j := by
  cases i <;> cases j <;> rfl

theorem Axes.get_set_ne (t : Axes α) {i j : Axis} (v : α) (h : i ≠ j) : (t.set i v).get j = t.get j := by
  rw [Axes.get_set, if_neg h]

@[simp] theorem Axes.get_map (t : Axes α) (f : α → β) (i : Axis) : (t.map f).get i = f (t.get i) := by
  cases i <;> rfl

@[simp] theorem Axes.get_all (v : α) (i : Axis) : (Axes.all v).get i = v := by cases i <;> rfl

theorem Axes.ext_get {t u : Axes α} (h : ∀ i, t.get i = u.get i) : t = u := by
  cases t; cases u
  exact (Axes.mk.injEq ..).mpr ⟨h .x, h .y, h .z⟩

@[simp] theorem upd_getElem_same {n : Nat} (v : Vector α n) (i : Fin n) (e : α) : (upd v i e)[i.val] = e := by
  simp [upd]

theorem upd_get_same {n : Nat} (v : Vector α n) (i : Fin n) (e : α) : (upd v i e)[i] = e := by
  simp [upd]

theorem upd_get {n : Nat} (v : Vector α n) (i j : Fin n) (e : α) : (upd v i e)[j] = if i = j then e else v[j] := by
  rcases i with ⟨i, hi⟩
  rcases j with ⟨j, hj⟩
  simp [upd, Vector.getElem_set, Fin.ext_iff]

theorem upd_get_ne {n : Nat} (v : Vector α n) {i j : Fin n} (e : α) (h : i ≠ j) : (upd v i e)[j] = v[j] := by
  rw [upd_get, if_neg h]

end Sys2Proof
end

