-- ==== Sys2Proof/Laws/State.lean ====
section
/-! SUPPORT. For each named update of the part, one lemma per field of State: the field it writes, and the fields it
leaves. -/

namespace Sys2Proof.Machine

variable (s : State)

/-! ### setTip -/

@[simp] theorem State.setTip_oneArm (i : Fin 64) (v : TipSlot) : (s.setTip i v).oneArm = s.oneArm := rfl

@[simp] theorem State.setTip_powered (i : Fin 64) (v : TipSlot) : (s.setTip i v).powered = s.powered := rfl

@[simp] theorem State.setTip_frz (i : Fin 64) (v : TipSlot) : (s.setTip i v).frz = s.frz := rfl

@[simp] theorem State.setTip_library (i : Fin 64) (v : TipSlot) :
    (s.setTip i v).library =
      { s.library with tips := upd s.library.tips i v } := rfl

@[simp] theorem State.setTip_arms (i : Fin 64) (v : TipSlot) : (s.setTip i v).arms = s.arms := rfl

@[simp] theorem State.setTip_scanner (i : Fin 64) (v : TipSlot) : (s.setTip i v).scanner = s.scanner := rfl

@[simp] theorem State.setTip_comp (i : Fin 64) (v : TipSlot) : (s.setTip i v).comp = s.comp := rfl

@[simp] theorem State.setTip_touch (i : Fin 64) (v : TipSlot) : (s.setTip i v).touch = s.touch := rfl

@[simp] theorem State.setTip_rack (i : Fin 64) (v : TipSlot) : (s.setTip i v).rack = s.rack := rfl

@[simp] theorem State.setTip_sequencer (i : Fin 64) (v : TipSlot) : (s.setTip i v).sequencer = s.sequencer := rfl

@[simp] theorem State.setTip_zones (i : Fin 64) (v : TipSlot) : (s.setTip i v).zones = s.zones := rfl

@[simp] theorem State.setTip_attention (i : Fin 64) (v : TipSlot) : (s.setTip i v).attention = s.attention := rfl

@[simp] theorem State.setTip_link (i : Fin 64) (v : TipSlot) : (s.setTip i v).link = s.link := rfl

@[simp] theorem State.setTip_mail (i : Fin 64) (v : TipSlot) : (s.setTip i v).mail = s.mail := rfl

@[simp] theorem State.setTip_answer (i : Fin 64) (v : TipSlot) : (s.setTip i v).answer = s.answer := rfl

@[simp] theorem State.setTip_pending (i : Fin 64) (v : TipSlot) : (s.setTip i v).pending = s.pending := rfl

/-! ### setArm -/

@[simp] theorem State.setArm_oneArm (a : Arm) (v : ArmAxes) : (s.setArm a v).oneArm = s.oneArm := rfl

@[simp] theorem State.setArm_powered (a : Arm) (v : ArmAxes) : (s.setArm a v).powered = s.powered := rfl

@[simp] theorem State.setArm_frz (a : Arm) (v : ArmAxes) : (s.setArm a v).frz = s.frz := rfl

@[simp] theorem State.setArm_library (a : Arm) (v : ArmAxes) : (s.setArm a v).library = s.library := rfl

@[simp] theorem State.setArm_arms (a : Arm) (v : ArmAxes) : (s.setArm a v).arms = s.arms.set a v := rfl

@[simp] theorem State.setArm_scanner (a : Arm) (v : ArmAxes) : (s.setArm a v).scanner = s.scanner := rfl

@[simp] theorem State.setArm_comp (a : Arm) (v : ArmAxes) : (s.setArm a v).comp = s.comp := rfl

@[simp] theorem State.setArm_touch (a : Arm) (v : ArmAxes) : (s.setArm a v).touch = s.touch := rfl

@[simp] theorem State.setArm_rack (a : Arm) (v : ArmAxes) : (s.setArm a v).rack = s.rack := rfl

@[simp] theorem State.setArm_sequencer (a : Arm) (v : ArmAxes) : (s.setArm a v).sequencer = s.sequencer := rfl

@[simp] theorem State.setArm_zones (a : Arm) (v : ArmAxes) : (s.setArm a v).zones = s.zones := rfl

@[simp] theorem State.setArm_attention (a : Arm) (v : ArmAxes) : (s.setArm a v).attention = s.attention := rfl

@[simp] theorem State.setArm_link (a : Arm) (v : ArmAxes) : (s.setArm a v).link = s.link := rfl

@[simp] theorem State.setArm_mail (a : Arm) (v : ArmAxes) : (s.setArm a v).mail = s.mail := rfl

@[simp] theorem State.setArm_answer (a : Arm) (v : ArmAxes) : (s.setArm a v).answer = s.answer := rfl

@[simp] theorem State.setArm_pending (a : Arm) (v : ArmAxes) : (s.setArm a v).pending = s.pending := rfl

/-! ### setAxis -/

@[simp] theorem State.setAxis_oneArm (a : Arm) (i : Axis) (v : AxisRecord) : (s.setAxis a i v).oneArm = s.oneArm := rfl

@[simp] theorem State.setAxis_powered (a : Arm) (i : Axis) (v : AxisRecord) :
    (s.setAxis a i v).powered =
      s.powered := rfl

@[simp] theorem State.setAxis_frz (a : Arm) (i : Axis) (v : AxisRecord) : (s.setAxis a i v).frz = s.frz := rfl

@[simp] theorem State.setAxis_library (a : Arm) (i : Axis) (v : AxisRecord) :
    (s.setAxis a i v).library =
      s.library := rfl

@[simp] theorem State.setAxis_arms (a : Arm) (i : Axis) (v : AxisRecord) :
    (s.setAxis a i v).arms =
      s.arms.set a { s.arms.get a with axes := (s.arms.get a).axes.set i v } := rfl

@[simp] theorem State.setAxis_scanner (a : Arm) (i : Axis) (v : AxisRecord) :
    (s.setAxis a i v).scanner =
      s.scanner := rfl

@[simp] theorem State.setAxis_comp (a : Arm) (i : Axis) (v : AxisRecord) : (s.setAxis a i v).comp = s.comp := rfl

@[simp] theorem State.setAxis_touch (a : Arm) (i : Axis) (v : AxisRecord) : (s.setAxis a i v).touch = s.touch := rfl

@[simp] theorem State.setAxis_rack (a : Arm) (i : Axis) (v : AxisRecord) : (s.setAxis a i v).rack = s.rack := rfl

@[simp] theorem State.setAxis_sequencer (a : Arm) (i : Axis) (v : AxisRecord) :
    (s.setAxis a i v).sequencer =
      s.sequencer := rfl

@[simp] theorem State.setAxis_zones (a : Arm) (i : Axis) (v : AxisRecord) : (s.setAxis a i v).zones = s.zones := rfl

@[simp] theorem State.setAxis_attention (a : Arm) (i : Axis) (v : AxisRecord) :
    (s.setAxis a i v).attention =
      s.attention := rfl

@[simp] theorem State.setAxis_link (a : Arm) (i : Axis) (v : AxisRecord) : (s.setAxis a i v).link = s.link := rfl

@[simp] theorem State.setAxis_mail (a : Arm) (i : Axis) (v : AxisRecord) : (s.setAxis a i v).mail = s.mail := rfl

@[simp] theorem State.setAxis_answer (a : Arm) (i : Axis) (v : AxisRecord) : (s.setAxis a i v).answer = s.answer := rfl

@[simp] theorem State.setAxis_pending (a : Arm) (i : Axis) (v : AxisRecord) :
    (s.setAxis a i v).pending =
      s.pending := rfl

/-! ### setTouch -/

@[simp] theorem State.setTouch_oneArm (a : Arm) (v : TouchRecord) : (s.setTouch a v).oneArm = s.oneArm := rfl

@[simp] theorem State.setTouch_powered (a : Arm) (v : TouchRecord) : (s.setTouch a v).powered = s.powered := rfl

@[simp] theorem State.setTouch_frz (a : Arm) (v : TouchRecord) : (s.setTouch a v).frz = s.frz := rfl

@[simp] theorem State.setTouch_library (a : Arm) (v : TouchRecord) : (s.setTouch a v).library = s.library := rfl

@[simp] theorem State.setTouch_arms (a : Arm) (v : TouchRecord) : (s.setTouch a v).arms = s.arms := rfl

@[simp] theorem State.setTouch_scanner (a : Arm) (v : TouchRecord) : (s.setTouch a v).scanner = s.scanner := rfl

@[simp] theorem State.setTouch_comp (a : Arm) (v : TouchRecord) : (s.setTouch a v).comp = s.comp := rfl

@[simp] theorem State.setTouch_touch (a : Arm) (v : TouchRecord) : (s.setTouch a v).touch = s.touch.set a v := rfl

@[simp] theorem State.setTouch_rack (a : Arm) (v : TouchRecord) : (s.setTouch a v).rack = s.rack := rfl

@[simp] theorem State.setTouch_sequencer (a : Arm) (v : TouchRecord) : (s.setTouch a v).sequencer = s.sequencer := rfl

@[simp] theorem State.setTouch_zones (a : Arm) (v : TouchRecord) : (s.setTouch a v).zones = s.zones := rfl

@[simp] theorem State.setTouch_attention (a : Arm) (v : TouchRecord) : (s.setTouch a v).attention = s.attention := rfl

@[simp] theorem State.setTouch_link (a : Arm) (v : TouchRecord) : (s.setTouch a v).link = s.link := rfl

@[simp] theorem State.setTouch_mail (a : Arm) (v : TouchRecord) : (s.setTouch a v).mail = s.mail := rfl

@[simp] theorem State.setTouch_answer (a : Arm) (v : TouchRecord) : (s.setTouch a v).answer = s.answer := rfl

@[simp] theorem State.setTouch_pending (a : Arm) (v : TouchRecord) : (s.setTouch a v).pending = s.pending := rfl

/-! ### disarm -/

@[simp] theorem State.disarm_oneArm (a : Arm) : (s.disarm a).oneArm = s.oneArm := rfl

@[simp] theorem State.disarm_powered (a : Arm) : (s.disarm a).powered = s.powered := rfl

@[simp] theorem State.disarm_frz (a : Arm) : (s.disarm a).frz = s.frz := rfl

@[simp] theorem State.disarm_library (a : Arm) : (s.disarm a).library = s.library := rfl

@[simp] theorem State.disarm_arms (a : Arm) : (s.disarm a).arms = s.arms := rfl

@[simp] theorem State.disarm_scanner (a : Arm) : (s.disarm a).scanner = s.scanner := rfl

@[simp] theorem State.disarm_comp (a : Arm) : (s.disarm a).comp = s.comp := rfl

@[simp] theorem State.disarm_touch (a : Arm) :
    (s.disarm a).touch =
      s.touch.set a { s.touch.get a with armed := false } := rfl

@[simp] theorem State.disarm_rack (a : Arm) : (s.disarm a).rack = s.rack := rfl

@[simp] theorem State.disarm_sequencer (a : Arm) : (s.disarm a).sequencer = s.sequencer := rfl

@[simp] theorem State.disarm_zones (a : Arm) : (s.disarm a).zones = s.zones := rfl

@[simp] theorem State.disarm_attention (a : Arm) : (s.disarm a).attention = s.attention := rfl

@[simp] theorem State.disarm_link (a : Arm) : (s.disarm a).link = s.link := rfl

@[simp] theorem State.disarm_mail (a : Arm) : (s.disarm a).mail = s.mail := rfl

@[simp] theorem State.disarm_answer (a : Arm) : (s.disarm a).answer = s.answer := rfl

@[simp] theorem State.disarm_pending (a : Arm) : (s.disarm a).pending = s.pending := rfl

/-! ### setPocket -/

@[simp] theorem State.setPocket_oneArm (p : Fin 20) (v : Pocket) : (s.setPocket p v).oneArm = s.oneArm := rfl

@[simp] theorem State.setPocket_powered (p : Fin 20) (v : Pocket) : (s.setPocket p v).powered = s.powered := rfl

@[simp] theorem State.setPocket_frz (p : Fin 20) (v : Pocket) : (s.setPocket p v).frz = s.frz := rfl

@[simp] theorem State.setPocket_library (p : Fin 20) (v : Pocket) : (s.setPocket p v).library = s.library := rfl

@[simp] theorem State.setPocket_arms (p : Fin 20) (v : Pocket) : (s.setPocket p v).arms = s.arms := rfl

@[simp] theorem State.setPocket_scanner (p : Fin 20) (v : Pocket) : (s.setPocket p v).scanner = s.scanner := rfl

@[simp] theorem State.setPocket_comp (p : Fin 20) (v : Pocket) : (s.setPocket p v).comp = s.comp := rfl

@[simp] theorem State.setPocket_touch (p : Fin 20) (v : Pocket) : (s.setPocket p v).touch = s.touch := rfl

@[simp] theorem State.setPocket_rack (p : Fin 20) (v : Pocket) :
    (s.setPocket p v).rack =
      { s.rack with pockets := upd s.rack.pockets p v } := rfl

@[simp] theorem State.setPocket_sequencer (p : Fin 20) (v : Pocket) : (s.setPocket p v).sequencer = s.sequencer := rfl

@[simp] theorem State.setPocket_zones (p : Fin 20) (v : Pocket) : (s.setPocket p v).zones = s.zones := rfl

@[simp] theorem State.setPocket_attention (p : Fin 20) (v : Pocket) : (s.setPocket p v).attention = s.attention := rfl

@[simp] theorem State.setPocket_link (p : Fin 20) (v : Pocket) : (s.setPocket p v).link = s.link := rfl

@[simp] theorem State.setPocket_mail (p : Fin 20) (v : Pocket) : (s.setPocket p v).mail = s.mail := rfl

@[simp] theorem State.setPocket_answer (p : Fin 20) (v : Pocket) : (s.setPocket p v).answer = s.answer := rfl

@[simp] theorem State.setPocket_pending (p : Fin 20) (v : Pocket) : (s.setPocket p v).pending = s.pending := rfl

/-! ### setArbiter -/

@[simp] theorem State.setArbiter_oneArm (v : Arbiter) : (s.setArbiter v).oneArm = s.oneArm := rfl

@[simp] theorem State.setArbiter_powered (v : Arbiter) : (s.setArbiter v).powered = s.powered := rfl

@[simp] theorem State.setArbiter_frz (v : Arbiter) : (s.setArbiter v).frz = s.frz := rfl

@[simp] theorem State.setArbiter_library (v : Arbiter) : (s.setArbiter v).library = s.library := rfl

@[simp] theorem State.setArbiter_arms (v : Arbiter) : (s.setArbiter v).arms = s.arms := rfl

@[simp] theorem State.setArbiter_scanner (v : Arbiter) : (s.setArbiter v).scanner = s.scanner := rfl

@[simp] theorem State.setArbiter_comp (v : Arbiter) : (s.setArbiter v).comp = s.comp := rfl

@[simp] theorem State.setArbiter_touch (v : Arbiter) : (s.setArbiter v).touch = s.touch := rfl

@[simp] theorem State.setArbiter_rack (v : Arbiter) : (s.setArbiter v).rack = { s.rack with arbiter := v } := rfl

@[simp] theorem State.setArbiter_sequencer (v : Arbiter) : (s.setArbiter v).sequencer = s.sequencer := rfl

@[simp] theorem State.setArbiter_zones (v : Arbiter) : (s.setArbiter v).zones = s.zones := rfl

@[simp] theorem State.setArbiter_attention (v : Arbiter) : (s.setArbiter v).attention = s.attention := rfl

@[simp] theorem State.setArbiter_link (v : Arbiter) : (s.setArbiter v).link = s.link := rfl

@[simp] theorem State.setArbiter_mail (v : Arbiter) : (s.setArbiter v).mail = s.mail := rfl

@[simp] theorem State.setArbiter_answer (v : Arbiter) : (s.setArbiter v).answer = s.answer := rfl

@[simp] theorem State.setArbiter_pending (v : Arbiter) : (s.setArbiter v).pending = s.pending := rfl

/-! ### setQueue -/

@[simp] theorem State.setQueue_oneArm (v : List Arm) : (s.setQueue v).oneArm = s.oneArm := rfl

@[simp] theorem State.setQueue_powered (v : List Arm) : (s.setQueue v).powered = s.powered := rfl

@[simp] theorem State.setQueue_frz (v : List Arm) : (s.setQueue v).frz = s.frz := rfl

@[simp] theorem State.setQueue_library (v : List Arm) : (s.setQueue v).library = s.library := rfl

@[simp] theorem State.setQueue_arms (v : List Arm) : (s.setQueue v).arms = s.arms := rfl

@[simp] theorem State.setQueue_scanner (v : List Arm) : (s.setQueue v).scanner = s.scanner := rfl

@[simp] theorem State.setQueue_comp (v : List Arm) : (s.setQueue v).comp = s.comp := rfl

@[simp] theorem State.setQueue_touch (v : List Arm) : (s.setQueue v).touch = s.touch := rfl

@[simp] theorem State.setQueue_rack (v : List Arm) : (s.setQueue v).rack = { s.rack with queue := v } := rfl

@[simp] theorem State.setQueue_sequencer (v : List Arm) : (s.setQueue v).sequencer = s.sequencer := rfl

@[simp] theorem State.setQueue_zones (v : List Arm) : (s.setQueue v).zones = s.zones := rfl

@[simp] theorem State.setQueue_attention (v : List Arm) : (s.setQueue v).attention = s.attention := rfl

@[simp] theorem State.setQueue_link (v : List Arm) : (s.setQueue v).link = s.link := rfl

@[simp] theorem State.setQueue_mail (v : List Arm) : (s.setQueue v).mail = s.mail := rfl

@[simp] theorem State.setQueue_answer (v : List Arm) : (s.setQueue v).answer = s.answer := rfl

@[simp] theorem State.setQueue_pending (v : List Arm) : (s.setQueue v).pending = s.pending := rfl

/-! ### setGrantTimer -/

@[simp] theorem State.setGrantTimer_oneArm (v : Timer) : (s.setGrantTimer v).oneArm = s.oneArm := rfl

@[simp] theorem State.setGrantTimer_powered (v : Timer) : (s.setGrantTimer v).powered = s.powered := rfl

@[simp] theorem State.setGrantTimer_frz (v : Timer) : (s.setGrantTimer v).frz = s.frz := rfl

@[simp] theorem State.setGrantTimer_library (v : Timer) : (s.setGrantTimer v).library = s.library := rfl

@[simp] theorem State.setGrantTimer_arms (v : Timer) : (s.setGrantTimer v).arms = s.arms := rfl

@[simp] theorem State.setGrantTimer_scanner (v : Timer) : (s.setGrantTimer v).scanner = s.scanner := rfl

@[simp] theorem State.setGrantTimer_comp (v : Timer) : (s.setGrantTimer v).comp = s.comp := rfl

@[simp] theorem State.setGrantTimer_touch (v : Timer) : (s.setGrantTimer v).touch = s.touch := rfl

@[simp] theorem State.setGrantTimer_rack (v : Timer) : (s.setGrantTimer v).rack = { s.rack with grantTimer := v } := rfl

@[simp] theorem State.setGrantTimer_sequencer (v : Timer) : (s.setGrantTimer v).sequencer = s.sequencer := rfl

@[simp] theorem State.setGrantTimer_zones (v : Timer) : (s.setGrantTimer v).zones = s.zones := rfl

@[simp] theorem State.setGrantTimer_attention (v : Timer) : (s.setGrantTimer v).attention = s.attention := rfl

@[simp] theorem State.setGrantTimer_link (v : Timer) : (s.setGrantTimer v).link = s.link := rfl

@[simp] theorem State.setGrantTimer_mail (v : Timer) : (s.setGrantTimer v).mail = s.mail := rfl

@[simp] theorem State.setGrantTimer_answer (v : Timer) : (s.setGrantTimer v).answer = s.answer := rfl

@[simp] theorem State.setGrantTimer_pending (v : Timer) : (s.setGrantTimer v).pending = s.pending := rfl

/-! ### setChange -/

@[simp] theorem State.setChange_oneArm (a : Arm) (v : Change) : (s.setChange a v).oneArm = s.oneArm := rfl

@[simp] theorem State.setChange_powered (a : Arm) (v : Change) : (s.setChange a v).powered = s.powered := rfl

@[simp] theorem State.setChange_frz (a : Arm) (v : Change) : (s.setChange a v).frz = s.frz := rfl

@[simp] theorem State.setChange_library (a : Arm) (v : Change) : (s.setChange a v).library = s.library := rfl

@[simp] theorem State.setChange_arms (a : Arm) (v : Change) : (s.setChange a v).arms = s.arms := rfl

@[simp] theorem State.setChange_scanner (a : Arm) (v : Change) : (s.setChange a v).scanner = s.scanner := rfl

@[simp] theorem State.setChange_comp (a : Arm) (v : Change) : (s.setChange a v).comp = s.comp := rfl

@[simp] theorem State.setChange_touch (a : Arm) (v : Change) : (s.setChange a v).touch = s.touch := rfl

@[simp] theorem State.setChange_rack (a : Arm) (v : Change) : (s.setChange a v).rack = s.rack := rfl

@[simp] theorem State.setChange_sequencer (a : Arm) (v : Change) :
    (s.setChange a v).sequencer =
      { s.sequencer with change := s.sequencer.change.set a v } := rfl

@[simp] theorem State.setChange_zones (a : Arm) (v : Change) : (s.setChange a v).zones = s.zones := rfl

@[simp] theorem State.setChange_attention (a : Arm) (v : Change) : (s.setChange a v).attention = s.attention := rfl

@[simp] theorem State.setChange_link (a : Arm) (v : Change) : (s.setChange a v).link = s.link := rfl

@[simp] theorem State.setChange_mail (a : Arm) (v : Change) : (s.setChange a v).mail = s.mail := rfl

@[simp] theorem State.setChange_answer (a : Arm) (v : Change) : (s.setChange a v).answer = s.answer := rfl

@[simp] theorem State.setChange_pending (a : Arm) (v : Change) : (s.setChange a v).pending = s.pending := rfl

/-! ### setHead -/

@[simp] theorem State.setHead_oneArm (a : Arm) (v : Head) : (s.setHead a v).oneArm = s.oneArm := rfl

@[simp] theorem State.setHead_powered (a : Arm) (v : Head) : (s.setHead a v).powered = s.powered := rfl

@[simp] theorem State.setHead_frz (a : Arm) (v : Head) : (s.setHead a v).frz = s.frz := rfl

@[simp] theorem State.setHead_library (a : Arm) (v : Head) : (s.setHead a v).library = s.library := rfl

@[simp] theorem State.setHead_arms (a : Arm) (v : Head) : (s.setHead a v).arms = s.arms := rfl

@[simp] theorem State.setHead_scanner (a : Arm) (v : Head) : (s.setHead a v).scanner = s.scanner := rfl

@[simp] theorem State.setHead_comp (a : Arm) (v : Head) : (s.setHead a v).comp = s.comp := rfl

@[simp] theorem State.setHead_touch (a : Arm) (v : Head) : (s.setHead a v).touch = s.touch := rfl

@[simp] theorem State.setHead_rack (a : Arm) (v : Head) : (s.setHead a v).rack = s.rack := rfl

@[simp] theorem State.setHead_sequencer (a : Arm) (v : Head) :
    (s.setHead a v).sequencer =
      { s.sequencer with head := s.sequencer.head.set a v } := rfl

@[simp] theorem State.setHead_zones (a : Arm) (v : Head) : (s.setHead a v).zones = s.zones := rfl

@[simp] theorem State.setHead_attention (a : Arm) (v : Head) : (s.setHead a v).attention = s.attention := rfl

@[simp] theorem State.setHead_link (a : Arm) (v : Head) : (s.setHead a v).link = s.link := rfl

@[simp] theorem State.setHead_mail (a : Arm) (v : Head) : (s.setHead a v).mail = s.mail := rfl

@[simp] theorem State.setHead_answer (a : Arm) (v : Head) : (s.setHead a v).answer = s.answer := rfl

@[simp] theorem State.setHead_pending (a : Arm) (v : Head) : (s.setHead a v).pending = s.pending := rfl

/-! ### setHold -/

@[simp] theorem State.setHold_oneArm (a : Arm) (v : HoldRecord) : (s.setHold a v).oneArm = s.oneArm := rfl

@[simp] theorem State.setHold_powered (a : Arm) (v : HoldRecord) : (s.setHold a v).powered = s.powered := rfl

@[simp] theorem State.setHold_frz (a : Arm) (v : HoldRecord) : (s.setHold a v).frz = s.frz := rfl

@[simp] theorem State.setHold_library (a : Arm) (v : HoldRecord) : (s.setHold a v).library = s.library := rfl

@[simp] theorem State.setHold_arms (a : Arm) (v : HoldRecord) : (s.setHold a v).arms = s.arms := rfl

@[simp] theorem State.setHold_scanner (a : Arm) (v : HoldRecord) : (s.setHold a v).scanner = s.scanner := rfl

@[simp] theorem State.setHold_comp (a : Arm) (v : HoldRecord) : (s.setHold a v).comp = s.comp := rfl

@[simp] theorem State.setHold_touch (a : Arm) (v : HoldRecord) : (s.setHold a v).touch = s.touch := rfl

@[simp] theorem State.setHold_rack (a : Arm) (v : HoldRecord) : (s.setHold a v).rack = s.rack := rfl

@[simp] theorem State.setHold_sequencer (a : Arm) (v : HoldRecord) : (s.setHold a v).sequencer = s.sequencer := rfl

@[simp] theorem State.setHold_zones (a : Arm) (v : HoldRecord) :
    (s.setHold a v).zones =
      { s.zones with hold := s.zones.hold.set a v } := rfl

@[simp] theorem State.setHold_attention (a : Arm) (v : HoldRecord) : (s.setHold a v).attention = s.attention := rfl

@[simp] theorem State.setHold_link (a : Arm) (v : HoldRecord) : (s.setHold a v).link = s.link := rfl

@[simp] theorem State.setHold_mail (a : Arm) (v : HoldRecord) : (s.setHold a v).mail = s.mail := rfl

@[simp] theorem State.setHold_answer (a : Arm) (v : HoldRecord) : (s.setHold a v).answer = s.answer := rfl

@[simp] theorem State.setHold_pending (a : Arm) (v : HoldRecord) : (s.setHold a v).pending = s.pending := rfl

/-! ### setCauses -/

@[simp] theorem State.setCauses_oneArm (a : Arm) (v : Causes) : (s.setCauses a v).oneArm = s.oneArm := rfl

@[simp] theorem State.setCauses_powered (a : Arm) (v : Causes) : (s.setCauses a v).powered = s.powered := rfl

@[simp] theorem State.setCauses_frz (a : Arm) (v : Causes) : (s.setCauses a v).frz = s.frz := rfl

@[simp] theorem State.setCauses_library (a : Arm) (v : Causes) : (s.setCauses a v).library = s.library := rfl

@[simp] theorem State.setCauses_arms (a : Arm) (v : Causes) : (s.setCauses a v).arms = s.arms := rfl

@[simp] theorem State.setCauses_scanner (a : Arm) (v : Causes) : (s.setCauses a v).scanner = s.scanner := rfl

@[simp] theorem State.setCauses_comp (a : Arm) (v : Causes) : (s.setCauses a v).comp = s.comp := rfl

@[simp] theorem State.setCauses_touch (a : Arm) (v : Causes) : (s.setCauses a v).touch = s.touch := rfl

@[simp] theorem State.setCauses_rack (a : Arm) (v : Causes) : (s.setCauses a v).rack = s.rack := rfl

@[simp] theorem State.setCauses_sequencer (a : Arm) (v : Causes) : (s.setCauses a v).sequencer = s.sequencer := rfl

@[simp] theorem State.setCauses_zones (a : Arm) (v : Causes) :
    (s.setCauses a v).zones =
      { s.zones with hold := s.zones.hold.set a { s.zones.hold.get a with causes := v } } := rfl

@[simp] theorem State.setCauses_attention (a : Arm) (v : Causes) : (s.setCauses a v).attention = s.attention := rfl

@[simp] theorem State.setCauses_link (a : Arm) (v : Causes) : (s.setCauses a v).link = s.link := rfl

@[simp] theorem State.setCauses_mail (a : Arm) (v : Causes) : (s.setCauses a v).mail = s.mail := rfl

@[simp] theorem State.setCauses_answer (a : Arm) (v : Causes) : (s.setCauses a v).answer = s.answer := rfl

@[simp] theorem State.setCauses_pending (a : Arm) (v : Causes) : (s.setCauses a v).pending = s.pending := rfl

/-! ### mapHolds -/

@[simp] theorem State.mapHolds_oneArm (f : HoldRecord → HoldRecord) : (s.mapHolds f).oneArm = s.oneArm := rfl

@[simp] theorem State.mapHolds_powered (f : HoldRecord → HoldRecord) : (s.mapHolds f).powered = s.powered := rfl

@[simp] theorem State.mapHolds_frz (f : HoldRecord → HoldRecord) : (s.mapHolds f).frz = s.frz := rfl

@[simp] theorem State.mapHolds_library (f : HoldRecord → HoldRecord) : (s.mapHolds f).library = s.library := rfl

@[simp] theorem State.mapHolds_arms (f : HoldRecord → HoldRecord) : (s.mapHolds f).arms = s.arms := rfl

@[simp] theorem State.mapHolds_scanner (f : HoldRecord → HoldRecord) : (s.mapHolds f).scanner = s.scanner := rfl

@[simp] theorem State.mapHolds_comp (f : HoldRecord → HoldRecord) : (s.mapHolds f).comp = s.comp := rfl

@[simp] theorem State.mapHolds_touch (f : HoldRecord → HoldRecord) : (s.mapHolds f).touch = s.touch := rfl

@[simp] theorem State.mapHolds_rack (f : HoldRecord → HoldRecord) : (s.mapHolds f).rack = s.rack := rfl

@[simp] theorem State.mapHolds_sequencer (f : HoldRecord → HoldRecord) : (s.mapHolds f).sequencer = s.sequencer := rfl

@[simp] theorem State.mapHolds_zones (f : HoldRecord → HoldRecord) :
    (s.mapHolds f).zones =
      { s.zones with hold := s.zones.hold.map f } := rfl

@[simp] theorem State.mapHolds_attention (f : HoldRecord → HoldRecord) : (s.mapHolds f).attention = s.attention := rfl

@[simp] theorem State.mapHolds_link (f : HoldRecord → HoldRecord) : (s.mapHolds f).link = s.link := rfl

@[simp] theorem State.mapHolds_mail (f : HoldRecord → HoldRecord) : (s.mapHolds f).mail = s.mail := rfl

@[simp] theorem State.mapHolds_answer (f : HoldRecord → HoldRecord) : (s.mapHolds f).answer = s.answer := rfl

@[simp] theorem State.mapHolds_pending (f : HoldRecord → HoldRecord) : (s.mapHolds f).pending = s.pending := rfl

/-! ### setZone -/

@[simp] theorem State.setZone_oneArm (z : Fin 16) (v : Option Zone) : (s.setZone z v).oneArm = s.oneArm := rfl

@[simp] theorem State.setZone_powered (z : Fin 16) (v : Option Zone) : (s.setZone z v).powered = s.powered := rfl

@[simp] theorem State.setZone_frz (z : Fin 16) (v : Option Zone) : (s.setZone z v).frz = s.frz := rfl

@[simp] theorem State.setZone_library (z : Fin 16) (v : Option Zone) : (s.setZone z v).library = s.library := rfl

@[simp] theorem State.setZone_arms (z : Fin 16) (v : Option Zone) : (s.setZone z v).arms = s.arms := rfl

@[simp] theorem State.setZone_scanner (z : Fin 16) (v : Option Zone) : (s.setZone z v).scanner = s.scanner := rfl

@[simp] theorem State.setZone_comp (z : Fin 16) (v : Option Zone) : (s.setZone z v).comp = s.comp := rfl

@[simp] theorem State.setZone_touch (z : Fin 16) (v : Option Zone) : (s.setZone z v).touch = s.touch := rfl

@[simp] theorem State.setZone_rack (z : Fin 16) (v : Option Zone) : (s.setZone z v).rack = s.rack := rfl

@[simp] theorem State.setZone_sequencer (z : Fin 16) (v : Option Zone) : (s.setZone z v).sequencer = s.sequencer := rfl

@[simp] theorem State.setZone_zones (z : Fin 16) (v : Option Zone) :
    (s.setZone z v).zones =
      { s.zones with table := upd s.zones.table z v } := rfl

@[simp] theorem State.setZone_attention (z : Fin 16) (v : Option Zone) : (s.setZone z v).attention = s.attention := rfl

@[simp] theorem State.setZone_link (z : Fin 16) (v : Option Zone) : (s.setZone z v).link = s.link := rfl

@[simp] theorem State.setZone_mail (z : Fin 16) (v : Option Zone) : (s.setZone z v).mail = s.mail := rfl

@[simp] theorem State.setZone_answer (z : Fin 16) (v : Option Zone) : (s.setZone z v).answer = s.answer := rfl

@[simp] theorem State.setZone_pending (z : Fin 16) (v : Option Zone) : (s.setZone z v).pending = s.pending := rfl

/-! ### setString -/

@[simp] theorem State.setString_oneArm (g : Strg) (v : StringControl) : (s.setString g v).oneArm = s.oneArm := rfl

@[simp] theorem State.setString_powered (g : Strg) (v : StringControl) : (s.setString g v).powered = s.powered := rfl

@[simp] theorem State.setString_frz (g : Strg) (v : StringControl) : (s.setString g v).frz = s.frz := rfl

@[simp] theorem State.setString_library (g : Strg) (v : StringControl) : (s.setString g v).library = s.library := rfl

@[simp] theorem State.setString_arms (g : Strg) (v : StringControl) : (s.setString g v).arms = s.arms := rfl

@[simp] theorem State.setString_scanner (g : Strg) (v : StringControl) :
    (s.setString g v).scanner =
      { s.scanner with strings := s.scanner.strings.set g v } := rfl

@[simp] theorem State.setString_comp (g : Strg) (v : StringControl) : (s.setString g v).comp = s.comp := rfl

@[simp] theorem State.setString_touch (g : Strg) (v : StringControl) : (s.setString g v).touch = s.touch := rfl

@[simp] theorem State.setString_rack (g : Strg) (v : StringControl) : (s.setString g v).rack = s.rack := rfl

@[simp] theorem State.setString_sequencer (g : Strg) (v : StringControl) :
    (s.setString g v).sequencer =
      s.sequencer := rfl

@[simp] theorem State.setString_zones (g : Strg) (v : StringControl) : (s.setString g v).zones = s.zones := rfl

@[simp] theorem State.setString_attention (g : Strg) (v : StringControl) :
    (s.setString g v).attention =
      s.attention := rfl

@[simp] theorem State.setString_link (g : Strg) (v : StringControl) : (s.setString g v).link = s.link := rfl

@[simp] theorem State.setString_mail (g : Strg) (v : StringControl) : (s.setString g v).mail = s.mail := rfl

@[simp] theorem State.setString_answer (g : Strg) (v : StringControl) : (s.setString g v).answer = s.answer := rfl

@[simp] theorem State.setString_pending (g : Strg) (v : StringControl) : (s.setString g v).pending = s.pending := rfl

/-! ### setCheck -/

@[simp] theorem State.setCheck_oneArm (g : Strg) (v : LineCheck) : (s.setCheck g v).oneArm = s.oneArm := rfl

@[simp] theorem State.setCheck_powered (g : Strg) (v : LineCheck) : (s.setCheck g v).powered = s.powered := rfl

@[simp] theorem State.setCheck_frz (g : Strg) (v : LineCheck) : (s.setCheck g v).frz = s.frz := rfl

@[simp] theorem State.setCheck_library (g : Strg) (v : LineCheck) : (s.setCheck g v).library = s.library := rfl

@[simp] theorem State.setCheck_arms (g : Strg) (v : LineCheck) : (s.setCheck g v).arms = s.arms := rfl

@[simp] theorem State.setCheck_scanner (g : Strg) (v : LineCheck) :
    (s.setCheck g v).scanner =
      { s.scanner with strings := s.scanner.strings.set g { s.scanner.strings.get g with check := v } } := rfl

@[simp] theorem State.setCheck_comp (g : Strg) (v : LineCheck) : (s.setCheck g v).comp = s.comp := rfl

@[simp] theorem State.setCheck_touch (g : Strg) (v : LineCheck) : (s.setCheck g v).touch = s.touch := rfl

@[simp] theorem State.setCheck_rack (g : Strg) (v : LineCheck) : (s.setCheck g v).rack = s.rack := rfl

@[simp] theorem State.setCheck_sequencer (g : Strg) (v : LineCheck) : (s.setCheck g v).sequencer = s.sequencer := rfl

@[simp] theorem State.setCheck_zones (g : Strg) (v : LineCheck) : (s.setCheck g v).zones = s.zones := rfl

@[simp] theorem State.setCheck_attention (g : Strg) (v : LineCheck) : (s.setCheck g v).attention = s.attention := rfl

@[simp] theorem State.setCheck_link (g : Strg) (v : LineCheck) : (s.setCheck g v).link = s.link := rfl

@[simp] theorem State.setCheck_mail (g : Strg) (v : LineCheck) : (s.setCheck g v).mail = s.mail := rfl

@[simp] theorem State.setCheck_answer (g : Strg) (v : LineCheck) : (s.setCheck g v).answer = s.answer := rfl

@[simp] theorem State.setCheck_pending (g : Strg) (v : LineCheck) : (s.setCheck g v).pending = s.pending := rfl

/-! ### setSensor -/

@[simp] theorem State.setSensor_oneArm (g : Strg) (i : Fin 16) (v : Option Sensor) :
    (s.setSensor g i v).oneArm =
      s.oneArm := rfl

@[simp] theorem State.setSensor_powered (g : Strg) (i : Fin 16) (v : Option Sensor) :
    (s.setSensor g i v).powered =
      s.powered := rfl

@[simp] theorem State.setSensor_frz (g : Strg) (i : Fin 16) (v : Option Sensor) : (s.setSensor g i v).frz = s.frz := rfl

@[simp] theorem State.setSensor_library (g : Strg) (i : Fin 16) (v : Option Sensor) :
    (s.setSensor g i v).library =
      s.library := rfl

@[simp] theorem State.setSensor_arms (g : Strg) (i : Fin 16) (v : Option Sensor) :
    (s.setSensor g i v).arms =
      s.arms := rfl

@[simp] theorem State.setSensor_scanner (g : Strg) (i : Fin 16) (v : Option Sensor) :
    (s.setSensor g i v).scanner =
      { s.scanner with sensors := s.scanner.sensors.set g (upd (s.scanner.sensors.get g) i v) } := rfl

@[simp] theorem State.setSensor_comp (g : Strg) (i : Fin 16) (v : Option Sensor) :
    (s.setSensor g i v).comp =
      s.comp := rfl

@[simp] theorem State.setSensor_touch (g : Strg) (i : Fin 16) (v : Option Sensor) :
    (s.setSensor g i v).touch =
      s.touch := rfl

@[simp] theorem State.setSensor_rack (g : Strg) (i : Fin 16) (v : Option Sensor) :
    (s.setSensor g i v).rack =
      s.rack := rfl

@[simp] theorem State.setSensor_sequencer (g : Strg) (i : Fin 16) (v : Option Sensor) :
    (s.setSensor g i v).sequencer =
      s.sequencer := rfl

@[simp] theorem State.setSensor_zones (g : Strg) (i : Fin 16) (v : Option Sensor) :
    (s.setSensor g i v).zones =
      s.zones := rfl

@[simp] theorem State.setSensor_attention (g : Strg) (i : Fin 16) (v : Option Sensor) :
    (s.setSensor g i v).attention =
      s.attention := rfl

@[simp] theorem State.setSensor_link (g : Strg) (i : Fin 16) (v : Option Sensor) :
    (s.setSensor g i v).link =
      s.link := rfl

@[simp] theorem State.setSensor_mail (g : Strg) (i : Fin 16) (v : Option Sensor) :
    (s.setSensor g i v).mail =
      s.mail := rfl

@[simp] theorem State.setSensor_answer (g : Strg) (i : Fin 16) (v : Option Sensor) :
    (s.setSensor g i v).answer =
      s.answer := rfl

@[simp] theorem State.setSensor_pending (g : Strg) (i : Fin 16) (v : Option Sensor) :
    (s.setSensor g i v).pending =
      s.pending := rfl

/-! ### setScan -/

@[simp] theorem State.setScan_oneArm (v : ScanState) (t : Timer) : (s.setScan v t).oneArm = s.oneArm := rfl

@[simp] theorem State.setScan_powered (v : ScanState) (t : Timer) : (s.setScan v t).powered = s.powered := rfl

@[simp] theorem State.setScan_frz (v : ScanState) (t : Timer) : (s.setScan v t).frz = s.frz := rfl

@[simp] theorem State.setScan_library (v : ScanState) (t : Timer) : (s.setScan v t).library = s.library := rfl

@[simp] theorem State.setScan_arms (v : ScanState) (t : Timer) : (s.setScan v t).arms = s.arms := rfl

@[simp] theorem State.setScan_scanner (v : ScanState) (t : Timer) :
    (s.setScan v t).scanner =
      { s.scanner with state := v, timer := t } := rfl

@[simp] theorem State.setScan_comp (v : ScanState) (t : Timer) : (s.setScan v t).comp = s.comp := rfl

@[simp] theorem State.setScan_touch (v : ScanState) (t : Timer) : (s.setScan v t).touch = s.touch := rfl

@[simp] theorem State.setScan_rack (v : ScanState) (t : Timer) : (s.setScan v t).rack = s.rack := rfl

@[simp] theorem State.setScan_sequencer (v : ScanState) (t : Timer) : (s.setScan v t).sequencer = s.sequencer := rfl

@[simp] theorem State.setScan_zones (v : ScanState) (t : Timer) : (s.setScan v t).zones = s.zones := rfl

@[simp] theorem State.setScan_attention (v : ScanState) (t : Timer) : (s.setScan v t).attention = s.attention := rfl

@[simp] theorem State.setScan_link (v : ScanState) (t : Timer) : (s.setScan v t).link = s.link := rfl

@[simp] theorem State.setScan_mail (v : ScanState) (t : Timer) : (s.setScan v t).mail = s.mail := rfl

@[simp] theorem State.setScan_answer (v : ScanState) (t : Timer) : (s.setScan v t).answer = s.answer := rfl

@[simp] theorem State.setScan_pending (v : ScanState) (t : Timer) : (s.setScan v t).pending = s.pending := rfl

/-! ### setGroups -/

@[simp] theorem State.setGroups_oneArm (v : Groups) : (s.setGroups v).oneArm = s.oneArm := rfl

@[simp] theorem State.setGroups_powered (v : Groups) : (s.setGroups v).powered = s.powered := rfl

@[simp] theorem State.setGroups_frz (v : Groups) : (s.setGroups v).frz = s.frz := rfl

@[simp] theorem State.setGroups_library (v : Groups) : (s.setGroups v).library = s.library := rfl

@[simp] theorem State.setGroups_arms (v : Groups) : (s.setGroups v).arms = s.arms := rfl

@[simp] theorem State.setGroups_scanner (v : Groups) : (s.setGroups v).scanner = { s.scanner with groups := v } := rfl

@[simp] theorem State.setGroups_comp (v : Groups) : (s.setGroups v).comp = s.comp := rfl

@[simp] theorem State.setGroups_touch (v : Groups) : (s.setGroups v).touch = s.touch := rfl

@[simp] theorem State.setGroups_rack (v : Groups) : (s.setGroups v).rack = s.rack := rfl

@[simp] theorem State.setGroups_sequencer (v : Groups) : (s.setGroups v).sequencer = s.sequencer := rfl

@[simp] theorem State.setGroups_zones (v : Groups) : (s.setGroups v).zones = s.zones := rfl

@[simp] theorem State.setGroups_attention (v : Groups) : (s.setGroups v).attention = s.attention := rfl

@[simp] theorem State.setGroups_link (v : Groups) : (s.setGroups v).link = s.link := rfl

@[simp] theorem State.setGroups_mail (v : Groups) : (s.setGroups v).mail = s.mail := rfl

@[simp] theorem State.setGroups_answer (v : Groups) : (s.setGroups v).answer = s.answer := rfl

@[simp] theorem State.setGroups_pending (v : Groups) : (s.setGroups v).pending = s.pending := rfl

/-! ### setAgeing -/

@[simp] theorem State.setAgeing_oneArm (v : List (List TempGroup)) : (s.setAgeing v).oneArm = s.oneArm := rfl

@[simp] theorem State.setAgeing_powered (v : List (List TempGroup)) : (s.setAgeing v).powered = s.powered := rfl

@[simp] theorem State.setAgeing_frz (v : List (List TempGroup)) : (s.setAgeing v).frz = s.frz := rfl

@[simp] theorem State.setAgeing_library (v : List (List TempGroup)) : (s.setAgeing v).library = s.library := rfl

@[simp] theorem State.setAgeing_arms (v : List (List TempGroup)) : (s.setAgeing v).arms = s.arms := rfl

@[simp] theorem State.setAgeing_scanner (v : List (List TempGroup)) : (s.setAgeing v).scanner = { s.scanner with ageing := v } := rfl

@[simp] theorem State.setAgeing_comp (v : List (List TempGroup)) : (s.setAgeing v).comp = s.comp := rfl

@[simp] theorem State.setAgeing_touch (v : List (List TempGroup)) : (s.setAgeing v).touch = s.touch := rfl

@[simp] theorem State.setAgeing_rack (v : List (List TempGroup)) : (s.setAgeing v).rack = s.rack := rfl

@[simp] theorem State.setAgeing_sequencer (v : List (List TempGroup)) : (s.setAgeing v).sequencer = s.sequencer := rfl

@[simp] theorem State.setAgeing_zones (v : List (List TempGroup)) : (s.setAgeing v).zones = s.zones := rfl

@[simp] theorem State.setAgeing_attention (v : List (List TempGroup)) : (s.setAgeing v).attention = s.attention := rfl

@[simp] theorem State.setAgeing_link (v : List (List TempGroup)) : (s.setAgeing v).link = s.link := rfl

@[simp] theorem State.setAgeing_mail (v : List (List TempGroup)) : (s.setAgeing v).mail = s.mail := rfl

@[simp] theorem State.setAgeing_answer (v : List (List TempGroup)) : (s.setAgeing v).answer = s.answer := rfl

@[simp] theorem State.setAgeing_pending (v : List (List TempGroup)) : (s.setAgeing v).pending = s.pending := rfl

/-! ### setFormations -/

@[simp] theorem State.setFormations_oneArm (a : Arm) (v : List FormationCause) :
    (s.setFormations a v).oneArm = s.oneArm := rfl

@[simp] theorem State.setFormations_powered (a : Arm) (v : List FormationCause) :
    (s.setFormations a v).powered = s.powered := rfl

@[simp] theorem State.setFormations_frz (a : Arm) (v : List FormationCause) : (s.setFormations a v).frz = s.frz := rfl

@[simp] theorem State.setFormations_library (a : Arm) (v : List FormationCause) :
    (s.setFormations a v).library = s.library := rfl

@[simp] theorem State.setFormations_arms (a : Arm) (v : List FormationCause) :
    (s.setFormations a v).arms = s.arms := rfl

@[simp] theorem State.setFormations_scanner (a : Arm) (v : List FormationCause) :
    (s.setFormations a v).scanner = s.scanner := rfl

@[simp] theorem State.setFormations_comp (a : Arm) (v : List FormationCause) :
    (s.setFormations a v).comp =
      { s.comp with formationDue := s.comp.formationDue.set a v } := rfl

@[simp] theorem State.setFormations_touch (a : Arm) (v : List FormationCause) :
    (s.setFormations a v).touch = s.touch := rfl

@[simp] theorem State.setFormations_rack (a : Arm) (v : List FormationCause) :
    (s.setFormations a v).rack = s.rack := rfl

@[simp] theorem State.setFormations_sequencer (a : Arm) (v : List FormationCause) :
    (s.setFormations a v).sequencer = s.sequencer := rfl

@[simp] theorem State.setFormations_zones (a : Arm) (v : List FormationCause) :
    (s.setFormations a v).zones = s.zones := rfl

@[simp] theorem State.setFormations_attention (a : Arm) (v : List FormationCause) :
    (s.setFormations a v).attention = s.attention := rfl

@[simp] theorem State.setFormations_link (a : Arm) (v : List FormationCause) :
    (s.setFormations a v).link = s.link := rfl

@[simp] theorem State.setFormations_mail (a : Arm) (v : List FormationCause) :
    (s.setFormations a v).mail = s.mail := rfl

@[simp] theorem State.setFormations_answer (a : Arm) (v : List FormationCause) :
    (s.setFormations a v).answer = s.answer := rfl

@[simp] theorem State.setFormations_pending (a : Arm) (v : List FormationCause) :
    (s.setFormations a v).pending = s.pending := rfl

/-! ### askFormation -/

@[simp] theorem State.askFormation_oneArm (a : Arm) : (s.askFormation a).oneArm = s.oneArm := rfl

@[simp] theorem State.askFormation_powered (a : Arm) : (s.askFormation a).powered = s.powered := rfl

@[simp] theorem State.askFormation_frz (a : Arm) : (s.askFormation a).frz = s.frz := rfl

@[simp] theorem State.askFormation_library (a : Arm) : (s.askFormation a).library = s.library := rfl

@[simp] theorem State.askFormation_arms (a : Arm) : (s.askFormation a).arms = s.arms := rfl

@[simp] theorem State.askFormation_scanner (a : Arm) : (s.askFormation a).scanner = s.scanner := rfl

@[simp] theorem State.askFormation_comp (a : Arm) :
    (s.askFormation a).comp =
      { s.comp with formationDue := s.comp.formationDue.set a (withMotion (s.comp.formationDue.get a)) } := rfl

@[simp] theorem State.askFormation_touch (a : Arm) : (s.askFormation a).touch = s.touch := rfl

@[simp] theorem State.askFormation_rack (a : Arm) : (s.askFormation a).rack = s.rack := rfl

@[simp] theorem State.askFormation_sequencer (a : Arm) : (s.askFormation a).sequencer = s.sequencer := rfl

@[simp] theorem State.askFormation_zones (a : Arm) : (s.askFormation a).zones = s.zones := rfl

@[simp] theorem State.askFormation_attention (a : Arm) : (s.askFormation a).attention = s.attention := rfl

@[simp] theorem State.askFormation_link (a : Arm) : (s.askFormation a).link = s.link := rfl

@[simp] theorem State.askFormation_mail (a : Arm) : (s.askFormation a).mail = s.mail := rfl

@[simp] theorem State.askFormation_answer (a : Arm) : (s.askFormation a).answer = s.answer := rfl

@[simp] theorem State.askFormation_pending (a : Arm) : (s.askFormation a).pending = s.pending := rfl

/-! ### askReformation -/

@[simp] theorem State.askReformation_oneArm (a : Arm) : (s.askReformation a).oneArm = s.oneArm := rfl

@[simp] theorem State.askReformation_powered (a : Arm) : (s.askReformation a).powered = s.powered := rfl

@[simp] theorem State.askReformation_frz (a : Arm) : (s.askReformation a).frz = s.frz := rfl

@[simp] theorem State.askReformation_library (a : Arm) : (s.askReformation a).library = s.library := rfl

@[simp] theorem State.askReformation_arms (a : Arm) : (s.askReformation a).arms = s.arms := rfl

@[simp] theorem State.askReformation_scanner (a : Arm) : (s.askReformation a).scanner = s.scanner := rfl

@[simp] theorem State.askReformation_comp (a : Arm) :
    (s.askReformation a).comp =
      { s.comp with formationDue := s.comp.formationDue.set a (s.comp.formationDue.get a ++ [.recomputation]) } := rfl

@[simp] theorem State.askReformation_touch (a : Arm) : (s.askReformation a).touch = s.touch := rfl

@[simp] theorem State.askReformation_rack (a : Arm) : (s.askReformation a).rack = s.rack := rfl

@[simp] theorem State.askReformation_sequencer (a : Arm) : (s.askReformation a).sequencer = s.sequencer := rfl

@[simp] theorem State.askReformation_zones (a : Arm) : (s.askReformation a).zones = s.zones := rfl

@[simp] theorem State.askReformation_attention (a : Arm) : (s.askReformation a).attention = s.attention := rfl

@[simp] theorem State.askReformation_link (a : Arm) : (s.askReformation a).link = s.link := rfl

@[simp] theorem State.askReformation_mail (a : Arm) : (s.askReformation a).mail = s.mail := rfl

@[simp] theorem State.askReformation_answer (a : Arm) : (s.askReformation a).answer = s.answer := rfl

@[simp] theorem State.askReformation_pending (a : Arm) : (s.askReformation a).pending = s.pending := rfl

/-! ### setSource -/

@[simp] theorem State.setSource_oneArm (i : Fin 14) (v : SourceRecord) : (s.setSource i v).oneArm = s.oneArm := rfl

@[simp] theorem State.setSource_powered (i : Fin 14) (v : SourceRecord) : (s.setSource i v).powered = s.powered := rfl

@[simp] theorem State.setSource_frz (i : Fin 14) (v : SourceRecord) : (s.setSource i v).frz = s.frz := rfl

@[simp] theorem State.setSource_library (i : Fin 14) (v : SourceRecord) : (s.setSource i v).library = s.library := rfl

@[simp] theorem State.setSource_arms (i : Fin 14) (v : SourceRecord) : (s.setSource i v).arms = s.arms := rfl

@[simp] theorem State.setSource_scanner (i : Fin 14) (v : SourceRecord) : (s.setSource i v).scanner = s.scanner := rfl

@[simp] theorem State.setSource_comp (i : Fin 14) (v : SourceRecord) : (s.setSource i v).comp = s.comp := rfl

@[simp] theorem State.setSource_touch (i : Fin 14) (v : SourceRecord) : (s.setSource i v).touch = s.touch := rfl

@[simp] theorem State.setSource_rack (i : Fin 14) (v : SourceRecord) : (s.setSource i v).rack = s.rack := rfl

@[simp] theorem State.setSource_sequencer (i : Fin 14) (v : SourceRecord) :
    (s.setSource i v).sequencer =
      s.sequencer := rfl

@[simp] theorem State.setSource_zones (i : Fin 14) (v : SourceRecord) : (s.setSource i v).zones = s.zones := rfl

@[simp] theorem State.setSource_attention (i : Fin 14) (v : SourceRecord) :
    (s.setSource i v).attention =
      { s.attention with sources := upd s.attention.sources i v } := rfl

@[simp] theorem State.setSource_link (i : Fin 14) (v : SourceRecord) : (s.setSource i v).link = s.link := rfl

@[simp] theorem State.setSource_mail (i : Fin 14) (v : SourceRecord) : (s.setSource i v).mail = s.mail := rfl

@[simp] theorem State.setSource_answer (i : Fin 14) (v : SourceRecord) : (s.setSource i v).answer = s.answer := rfl

@[simp] theorem State.setSource_pending (i : Fin 14) (v : SourceRecord) : (s.setSource i v).pending = s.pending := rfl

/-! ### setStack -/

@[simp] theorem State.setStack_oneArm (v : List (Fin 4)) : (s.setStack v).oneArm = s.oneArm := rfl

@[simp] theorem State.setStack_powered (v : List (Fin 4)) : (s.setStack v).powered = s.powered := rfl

@[simp] theorem State.setStack_frz (v : List (Fin 4)) : (s.setStack v).frz = s.frz := rfl

@[simp] theorem State.setStack_library (v : List (Fin 4)) : (s.setStack v).library = s.library := rfl

@[simp] theorem State.setStack_arms (v : List (Fin 4)) : (s.setStack v).arms = s.arms := rfl

@[simp] theorem State.setStack_scanner (v : List (Fin 4)) : (s.setStack v).scanner = s.scanner := rfl

@[simp] theorem State.setStack_comp (v : List (Fin 4)) : (s.setStack v).comp = s.comp := rfl

@[simp] theorem State.setStack_touch (v : List (Fin 4)) : (s.setStack v).touch = s.touch := rfl

@[simp] theorem State.setStack_rack (v : List (Fin 4)) : (s.setStack v).rack = s.rack := rfl

@[simp] theorem State.setStack_sequencer (v : List (Fin 4)) : (s.setStack v).sequencer = s.sequencer := rfl

@[simp] theorem State.setStack_zones (v : List (Fin 4)) : (s.setStack v).zones = s.zones := rfl

@[simp] theorem State.setStack_attention (v : List (Fin 4)) :
    (s.setStack v).attention =
      { s.attention with stack := v } := rfl

@[simp] theorem State.setStack_link (v : List (Fin 4)) : (s.setStack v).link = s.link := rfl

@[simp] theorem State.setStack_mail (v : List (Fin 4)) : (s.setStack v).mail = s.mail := rfl

@[simp] theorem State.setStack_answer (v : List (Fin 4)) : (s.setStack v).answer = s.answer := rfl

@[simp] theorem State.setStack_pending (v : List (Fin 4)) : (s.setStack v).pending = s.pending := rfl

/-! ### setLink -/

@[simp] theorem State.setLink_oneArm (v : Link) : (s.setLink v).oneArm = s.oneArm := rfl

@[simp] theorem State.setLink_powered (v : Link) : (s.setLink v).powered = s.powered := rfl

@[simp] theorem State.setLink_frz (v : Link) : (s.setLink v).frz = s.frz := rfl

@[simp] theorem State.setLink_library (v : Link) : (s.setLink v).library = s.library := rfl

@[simp] theorem State.setLink_arms (v : Link) : (s.setLink v).arms = s.arms := rfl

@[simp] theorem State.setLink_scanner (v : Link) : (s.setLink v).scanner = s.scanner := rfl

@[simp] theorem State.setLink_comp (v : Link) : (s.setLink v).comp = s.comp := rfl

@[simp] theorem State.setLink_touch (v : Link) : (s.setLink v).touch = s.touch := rfl

@[simp] theorem State.setLink_rack (v : Link) : (s.setLink v).rack = s.rack := rfl

@[simp] theorem State.setLink_sequencer (v : Link) : (s.setLink v).sequencer = s.sequencer := rfl

@[simp] theorem State.setLink_zones (v : Link) : (s.setLink v).zones = s.zones := rfl

@[simp] theorem State.setLink_attention (v : Link) : (s.setLink v).attention = s.attention := rfl

@[simp] theorem State.setLink_link (v : Link) : (s.setLink v).link = v := rfl

@[simp] theorem State.setLink_mail (v : Link) : (s.setLink v).mail = s.mail := rfl

@[simp] theorem State.setLink_answer (v : Link) : (s.setLink v).answer = s.answer := rfl

@[simp] theorem State.setLink_pending (v : Link) : (s.setLink v).pending = s.pending := rfl

/-! ### send -/

@[simp] theorem State.send_oneArm (m : Message) : (s.send m).oneArm = s.oneArm := rfl

@[simp] theorem State.send_powered (m : Message) : (s.send m).powered = s.powered := rfl

@[simp] theorem State.send_frz (m : Message) : (s.send m).frz = s.frz := rfl

@[simp] theorem State.send_library (m : Message) : (s.send m).library = s.library := rfl

@[simp] theorem State.send_arms (m : Message) : (s.send m).arms = s.arms := rfl

@[simp] theorem State.send_scanner (m : Message) : (s.send m).scanner = s.scanner := rfl

@[simp] theorem State.send_comp (m : Message) : (s.send m).comp = s.comp := rfl

@[simp] theorem State.send_touch (m : Message) : (s.send m).touch = s.touch := rfl

@[simp] theorem State.send_rack (m : Message) : (s.send m).rack = s.rack := rfl

@[simp] theorem State.send_sequencer (m : Message) : (s.send m).sequencer = s.sequencer := rfl

@[simp] theorem State.send_zones (m : Message) : (s.send m).zones = s.zones := rfl

@[simp] theorem State.send_attention (m : Message) : (s.send m).attention = s.attention := rfl

@[simp] theorem State.send_link (m : Message) : (s.send m).link = s.link := rfl

@[simp] theorem State.send_mail (m : Message) : (s.send m).mail = s.mail ++ [m] := rfl

@[simp] theorem State.send_answer (m : Message) : (s.send m).answer = s.answer := rfl

@[simp] theorem State.send_pending (m : Message) : (s.send m).pending = s.pending := rfl

/-! ### setAnswer -/

@[simp] theorem State.setAnswer_oneArm (r : Answer) : (s.setAnswer r).oneArm = s.oneArm := rfl

@[simp] theorem State.setAnswer_powered (r : Answer) : (s.setAnswer r).powered = s.powered := rfl

@[simp] theorem State.setAnswer_frz (r : Answer) : (s.setAnswer r).frz = s.frz := rfl

@[simp] theorem State.setAnswer_library (r : Answer) : (s.setAnswer r).library = s.library := rfl

@[simp] theorem State.setAnswer_arms (r : Answer) : (s.setAnswer r).arms = s.arms := rfl

@[simp] theorem State.setAnswer_scanner (r : Answer) : (s.setAnswer r).scanner = s.scanner := rfl

@[simp] theorem State.setAnswer_comp (r : Answer) : (s.setAnswer r).comp = s.comp := rfl

@[simp] theorem State.setAnswer_touch (r : Answer) : (s.setAnswer r).touch = s.touch := rfl

@[simp] theorem State.setAnswer_rack (r : Answer) : (s.setAnswer r).rack = s.rack := rfl

@[simp] theorem State.setAnswer_sequencer (r : Answer) : (s.setAnswer r).sequencer = s.sequencer := rfl

@[simp] theorem State.setAnswer_zones (r : Answer) : (s.setAnswer r).zones = s.zones := rfl

@[simp] theorem State.setAnswer_attention (r : Answer) : (s.setAnswer r).attention = s.attention := rfl

@[simp] theorem State.setAnswer_link (r : Answer) : (s.setAnswer r).link = s.link := rfl

@[simp] theorem State.setAnswer_mail (r : Answer) : (s.setAnswer r).mail = s.mail := rfl

@[simp] theorem State.setAnswer_answer (r : Answer) : (s.setAnswer r).answer = some r := rfl

@[simp] theorem State.setAnswer_pending (r : Answer) : (s.setAnswer r).pending = s.pending := rfl

/-! ### What is read after a write -/

@[simp] theorem State.pocket_setPocket (p q : Fin 20) (v : Pocket) :
    (s.setPocket p v).pocket q = if p = q then v else s.pocket q := upd_get ..

@[simp] theorem State.activeTip_setTip (i j : Fin 64) (v : TipSlot) :
    (s.setTip i v).activeTip j = if i = j then v.activeTip else s.activeTip j := by
  simp only [State.activeTip, State.setTip_library, upd_get]
  split <;> rfl

@[simp] theorem State.change_setChange (a b : Arm) (v : Change) :
    (s.setChange a v).change b = if a = b then v else s.change b := Two.get_set ..

@[simp] theorem State.head_setHead (a b : Arm) (v : Head) :
    (s.setHead a v).head b = if a = b then v else s.head b := Two.get_set ..

@[simp] theorem State.zone_setZone (z w : Fin 16) (v : Option Zone) :
    (s.setZone z v).zone w = if z = w then v else s.zone w := upd_get ..

@[simp] theorem State.string_setString (g h : Strg) (v : StringControl) :
    (s.setString g v).string h = if g = h then v else s.string h := Two.get_set ..

@[simp] theorem State.axis_setAxis (a : Arm) (i : Axis) (v : AxisRecord) : (s.setAxis a i v).axis a i = v := by
  simp [State.axis]

end Sys2Proof.Machine
end

