-- ==== Sys2Proof/Laws/Dock.lean ====
section
/-! SUPPORT. What the tests of positions say: a box, the inside of a zone, and the dock box of a pocket. -/

namespace Sys2Proof.Machine

variable (s : State)

theorem Box.contains_iff (b : Box) (q : Point) : b.contains q = true ↔ InGrown b 0 q := by
  constructor
  · intro h i
    simp only [Box.contains, decide_eq_true_eq] at h
    cases i <;> simp [Axes.get] <;> omega
  · intro h
    have x := h .x; have y := h .y; have z := h .z
    simp only [Axes.get] at x y z
    simp only [Box.contains, decide_eq_true_eq]; omega

theorem Box.contains_grow_iff (b : Box) (m : Int) (q : Point) : (b.grow m).contains q = true ↔ InGrown b m q := by
  rw [Box.contains_iff]
  exact forall_congr' fun i => by cases i <;> simp [Box.grow, Axes.get, Axes.map]

/-- The inside test of the zone monitor is the one of R164. -/
theorem Zone.holds_iff (z : Zone) (q : CheckPoints) : z.holds q = true ↔ Inside z q := by
  simp [Zone.holds, Inside, Box.contains_grow_iff, Option.any_eq_true]

theorem inDock_iff (a : Arm) (p : Fin 20) (q : Point) :
    InDock s a p q ↔ ((s.pocket p).dock.get a).any (fun b => b.contains q) = true := by
  simp [InDock, Option.any_eq_true, Box.contains_iff]

/-- Arrival: with a last reference point, `inDock` says that it lies in the dock box (R143). -/
theorem State.inDock_of_reference (a : Arm) (p : Fin 20) {q : Point} (h : (s.change a).lastReference = some q) :
    s.inDock a p = true ↔ InDock s a p q := by
  rw [inDock_iff, State.inDock, h, State.dockBox]
  cases (s.pocket p).dock.get a <;> simp

/-- Departure: with a last reference point, `outDock` says that it lies outside the dock box (R143). -/
theorem State.outDock_of_reference (a : Arm) (p : Fin 20) {q : Point} (h : (s.change a).lastReference = some q) :
    s.outDock a p = true ↔ ¬ InDock s a p q := by
  rw [inDock_iff, State.outDock, h, State.dockBox]; simp

/-- Without a last reference point no wait for an arrival or a departure is satisfied (R143). -/
theorem State.dock_of_blind (a : Arm) (p : Fin 20) (h : (s.change a).lastReference = none) :
    s.inDock a p = false ∧ s.outDock a p = false := by
  simp [State.inDock, State.outDock, h]

theorem State.outDock_of_notDeparted (a : Arm) (p : Fin 20) (h : NotDeparted s a p) : s.outDock a p = false := by
  cases e : (s.change a).lastReference with
  | none => exact (s.dock_of_blind a p e).2
  | some q =>
    have := s.outDock_of_reference a p e
    simpa [h q e] using this

end Sys2Proof.Machine
end

