-- ==== Sys2Proof/Laws/Flags.lean ====
section
/-! SUPPORT. What a raise and the addition of a hold cause can do. -/

namespace Sys2Proof.Machine

variable (s : State)

/-- A raise either sets one flag or, for a source of an absent arm, does nothing (R184). -/
theorem State.raise_cases (src : AttnSource) :
    (s.canRaise src = true ∧
      s.raise src = s.setSource (sourceIndex src) { s.attention.sources[sourceIndex src] with flag := true }) ∨
    (s.canRaise src = false ∧ s.raise src = s) := by
  unfold State.raise
  cases s.canRaise src <;> simp

/-- A raise changes the attention unit alone. -/
theorem State.raise_frame (src : AttnSource) : ∃ r : Attention, s.raise src = { s with attention := r } := by
  rcases s.raise_cases src with ⟨-, h⟩ | ⟨-, h⟩
  · exact ⟨_, h⟩
  · exact ⟨s.attention, h⟩

theorem State.raise_flag (src : AttnSource) (h : s.canRaise src = true) :
    (s.raise src).attention.sources[sourceIndex src].flag = true := by
  rcases s.raise_cases src with ⟨-, e⟩ | ⟨e, -⟩
  · simp [e]
  · simp [h] at e

@[simp] theorem State.raise_stack (src : AttnSource) : (s.raise src).attention.stack = s.attention.stack := by
  rcases s.raise_cases src with ⟨-, h⟩ | ⟨-, h⟩ <;> simp [h]

@[simp] theorem State.raise_library (src : AttnSource) : (s.raise src).library = s.library := by
  obtain ⟨r, h⟩ := s.raise_frame src
  rw [h]

@[simp] theorem State.raise_touch (src : AttnSource) : (s.raise src).touch = s.touch := by
  obtain ⟨r, h⟩ := s.raise_frame src
  rw [h]

@[simp] theorem State.raise_rack (src : AttnSource) : (s.raise src).rack = s.rack := by
  obtain ⟨r, h⟩ := s.raise_frame src
  rw [h]

@[simp] theorem State.raise_sequencer (src : AttnSource) : (s.raise src).sequencer = s.sequencer := by
  obtain ⟨r, h⟩ := s.raise_frame src
  rw [h]

@[simp] theorem State.raise_zones (src : AttnSource) : (s.raise src).zones = s.zones := by
  obtain ⟨r, h⟩ := s.raise_frame src
  rw [h]

@[simp] theorem State.raise_mail (src : AttnSource) : (s.raise src).mail = s.mail := by
  obtain ⟨r, h⟩ := s.raise_frame src
  rw [h]

@[simp] theorem Causes.has_add (c : Causes) (k : HoldCause) : (c.add k).has k = true := by cases k <;> rfl

theorem Causes.has_add_of_has (c : Causes) (j k : HoldCause) (h : c.has j = true) : (c.add k).has j = true := by
  cases j <;> cases k <;> simp_all [Causes.has, Causes.add]

theorem Causes.has_add_ne (c : Causes) {j k : HoldCause} (h : j ≠ k) : (c.add k).has j = c.has j := by
  cases j <;> cases k <;> first | rfl | exact absurd rfl h

theorem Causes.isEmpty_iff (c : Causes) : c.isEmpty = true ↔ c = Causes.none := by simp [Causes.isEmpty]

/-- The addition of a hold cause: nothing for an absent arm; a latch from an empty set; one more cause in another
(R170). -/
theorem State.addCause_cases (a : Arm) (c : HoldCause) :
    (s.present a = false ∧ s.addCause a c = s) ∨
    (s.present a = true ∧ (s.zones.hold.get a).causes = Causes.none ∧
      s.addCause a c = ((s.setCauses a (Causes.none.add c)).disarm a).raise (.hold a)) ∨
    (s.present a = true ∧ (s.zones.hold.get a).causes ≠ Causes.none ∧
      s.addCause a c = s.setCauses a ((s.zones.hold.get a).causes.add c)) := by
  unfold State.addCause
  cases hp : s.present a
  · simp
  · by_cases he : (s.zones.hold.get a).causes = Causes.none
    · simp [he, Causes.isEmpty]
    · simp [he, Causes.isEmpty]

/-- The cause added stands in the set. -/
theorem State.addCause_has (a : Arm) (c : HoldCause) (h : s.present a = true) :
    ((s.addCause a c).zones.hold.get a).causes.has c = true := by
  rcases s.addCause_cases a c with ⟨h', -⟩ | ⟨-, -, e⟩ | ⟨-, -, e⟩
  · simp [h] at h'
  · simp [e]
  · simp [e]

/-- No cause leaves a set by an addition. -/
theorem State.addCause_keeps (a b : Arm) (c k : HoldCause) (h : (s.zones.hold.get b).causes.has k = true) :
    ((s.addCause a c).zones.hold.get b).causes.has k = true := by
  rcases s.addCause_cases a c with ⟨-, e⟩ | ⟨-, h', e⟩ | ⟨-, -, e⟩
  · rw [e]; exact h
  · by_cases hab : a = b
    · subst hab
      rw [h'] at h
      simp only [e, State.raise_zones, State.disarm_zones, State.setCauses_zones, Two.get_set_same]
      exact Causes.has_add_of_has _ _ _ h
    · simpa [e, Two.get_set, hab] using h
  · by_cases hab : a = b
    · subst hab
      simpa [e] using Causes.has_add_of_has _ _ _ h
    · simpa [e, Two.get_set, hab] using h

end Sys2Proof.Machine
end

