-- ==== Sys2Proof/Laws/Library.lean ====
section
/-! SUPPORT. What the moves of a tip record can do to the tip table. -/

namespace Sys2Proof.Machine

variable (s : State)

/-- A move writes the slot of the record and no other. -/
theorem State.moveTip_library (i : Fin 64) (t : Tip) (loc : Location) :
    (s.moveTip i t loc).library = (s.setTip i (.active { t with location := loc })).library := by
  unfold State.moveTip
  cases loc <;> simp [State.clearForeign]

theorem State.moveTip_tip (i j : Fin 64) (t : Tip) (loc : Location) :
    (s.moveTip i t loc).library.tips[j] = if i = j then .active { t with location := loc } else s.library.tips[j] := by
  rw [State.moveTip_library, State.setTip_library]
  exact upd_get ..

/-- Every slot keeps its record when the mounted records of an arm are lost, but for the location MISSING. -/
theorem State.loseMounted_tip (a : Arm) (keep : Option (Fin 64)) (i : Fin 64) :
    (s.loseMounted a keep).library.tips[i] =
      if s.losesMounted a keep i then s.library.tips[i].toMissing else s.library.tips[i] := by
  unfold State.loseMounted
  by_cases h : (List.finRange 64).any (s.losesMounted a keep) = true
  · simp [h]
  · have hi : s.losesMounted a keep i = false := by
      by_contra hc
      exact h (List.any_eq_true.mpr ⟨i, List.mem_finRange i, by simpa using hc⟩)
    simp [h, hi]

/-- A report is refused without an effect when the record is not where the report needs it (R18). -/
theorem State.stowReleaseBegins_refused (a : Arm) (i : Fin 64)
    (h : ∀ t, s.activeTip i = some t → t.location ≠ .onArm a) : s.stowReleaseBegins a i = ⟨false, s⟩ := by
  unfold State.stowReleaseBegins
  split
  · rename_i t ht
    simp [h t ht, State.refusesReport]
  · rfl

theorem State.pickBegins_refused (a : Arm) (i : Fin 64)
    (h : ∀ t, s.activeTip i = some t → t.location ≠ .inPocket) : s.pickBegins a i = ⟨false, s⟩ := by
  unfold State.pickBegins
  split
  · rename_i t ht
    simp [h t ht, State.refusesReport]
  · rfl

end Sys2Proof.Machine
end

