-- ==== Sys2Proof/Laws/Link.lean ====
section
/-! SUPPORT. What the shared operations of the link, of the events and of the messages can do. -/

namespace Sys2Proof.Machine

variable (s : State)

/-! ### Requests -/

theorem State.request_taken (c : Instr) (body : State → Reply) (h : s.takesRequests) :
    s.request c body = s.respond c (body s) := by
  simp [State.request, h.1, h.2.1, h.2.2]

theorem State.request_unpowered (c : Instr) (body : State → Reply) (h : s.powered = false) : s.request c body = s := by
  simp [State.request, h]

/-- What a request frame can do: nothing, be discarded, be taken into execution, or be answered by its block. -/
theorem State.request_cases (c : Instr) (body : State → Reply) :
    (s.powered = false ∧ s.request c body = s) ∨
    (s.powered = true ∧ s.link.isExecuting = true ∧ s.request c body = s.discardFrame (frameLength c)) ∨
    (s.powered = true ∧ s.link.isExecuting = false ∧ lateFrameWaits s.pending = true ∧
      s.request c body = s.beginExecuting c) ∨
    (s.takesRequests ∧ s.request c body = s.respond c (body s)) := by
  unfold State.takesRequests State.request
  cases s.powered <;> cases s.link.isExecuting <;> cases lateFrameWaits s.pending <;> simp

/-- A request taken into execution touches the link alone. -/
theorem State.beginExecuting_frame (c : Instr) : ∃ l : Link, s.beginExecuting c = s.setLink l := ⟨_, rfl⟩

theorem State.discardFrame_frame (n : Nat) : ∃ l : Link, s.discardFrame n = s.setLink l := ⟨_, rfl⟩

/-- A COLLECT touches the link alone. -/
theorem State.collect_frame (n : Nat) : ∃ l : Link, s.collect n = s.setLink l := by
  unfold State.collect
  split
  · exact ⟨s.link, rfl⟩
  · split <;> exact ⟨_, rfl⟩

/-- A frame that ends in EXECUTING touches the link alone, until the block takes the request. -/
theorem State.judgeLate_frame (code : Byte) (bytes : List Byte) : ∃ l : Link, s.judgeLate code bytes = s.setLink l := by
  unfold State.judgeLate
  split
  · exact ⟨s.link, rfl⟩
  · split
    · exact s.collect_frame _
    · split <;> exact ⟨_, rfl⟩

/-- The placing of an answer touches the link alone. -/
theorem State.placeAnswer_frame : ∃ l : Link, s.placeAnswer = s.setLink l := by
  unfold State.placeAnswer
  split
  · exact ⟨_, rfl⟩
  · exact ⟨s.link, rfl⟩

/-- What a frame in EXECUTING can do after it: nothing, or the request is taken by its block; and then the answer waits or
is placed. -/
theorem State.progress_cases :
    ∃ t : State, (t = s ∨ ∃ code payload, s.link.state = .executing code payload none ∧ t = s.takeExecuting code payload) ∧
      (s.progress = t ∨ s.progress = t.placeAnswer) := by
  unfold State.progress
  split
  · rename_i code payload h
    refine ⟨_, .inr ⟨code, payload, h, rfl⟩, ?_⟩
    dsimp only
    split
    · exact .inl rfl
    · exact .inr rfl
  · refine ⟨_, .inl rfl, ?_⟩
    dsimp only
    split
    · exact .inl rfl
    · exact .inr rfl

/-- The taking of a request by its block: nothing, or the block's state with the answer in the link, settled. -/
theorem State.takeExecuting_cases (code : Byte) (payload : List Byte) :
    s.takeExecuting code payload = s ∨
    ∃ c body, decodePayload code payload = some c ∧ requestBody c = some body ∧ ∃ l : Link,
      s.takeExecuting code payload = ((body s).state.setLink l).settle := by
  unfold State.takeExecuting
  split
  · exact .inl rfl
  · rename_i body h
    obtain ⟨c, hc, hb⟩ := Option.bind_eq_some_iff.mp h
    exact .inr ⟨c, body, hc, hb, _, rfl⟩

@[simp] theorem State.respond_status (c : Instr) (r : Reply) :
    (s.respond c r).link.state = .responseReady r.status r.payload := rfl

/-- An answer is the block's state in everything but the link. -/
theorem State.respond_sameButLink (c : Instr) (r : Reply) : SameButLink r.state (s.respond c r) := rfl

theorem SameButLink.refl (s : State) : SameButLink s s := rfl

theorem SameButLink.eq {s t : State} (h : SameButLink s t) (hl : s.link = t.link) : s = t := by
  unfold SameButLink at h
  rw [← h, hl]

@[simp] theorem refuse_state (st : Status) : (refuse st s).state = s := rfl

@[simp] theorem refuse_status (st : Status) : (refuse st s).status = st := rfl

@[simp] theorem refuse_payload (st : Status) : (refuse st s).payload = [] := rfl

@[simp] theorem accept_state (p : List Byte) : (accept p s).state = s := rfl

@[simp] theorem accept_status (p : List Byte) : (accept p s).status = .ok := rfl

@[simp] theorem accept_payload (p : List Byte) : (accept p s).payload = p := rfl

theorem okOr_not_refusal (clamped : Bool) : (okOr clamped).refusal = false := by cases clamped <;> rfl

/-! ### Events -/

theorem State.event_on (f : State → State) (h : s.powered = true) : s.event f = f s := by simp [State.event, h]

theorem State.event_off (f : State → State) (h : s.powered = false) : s.event f = s := by simp [State.event, h]

theorem State.armEvent_on (a : Arm) (f : State → State) (h : s.serves a) : s.armEvent a f = f s := by
  simp [State.armEvent, h.1, h.2]

theorem State.armEvent_off (a : Arm) (f : State → State) (h : s.powered = false) : s.armEvent a f = s := by
  simp [State.armEvent, h]

/-- An event keeps whatever its effect keeps. -/
theorem State.event_keeps {P : State → Prop} (f : State → State) (hs : P s) (hf : P (f s)) : P (s.event f) := by
  unfold State.event
  split <;> assumption

theorem State.armEvent_keeps {P : State → Prop} (a : Arm) (f : State → State) (hs : P s) (hf : P (f s)) :
    P (s.armEvent a f) := by
  unfold State.armEvent
  split <;> assumption

/-! ### Messages -/

theorem State.settleN_of_quiet (n : Nat) (h : s.quiet) : s.settleN n = s := by
  have h : s.mail = [] := h
  cases n with
  | zero => simp only [State.settleN]; rw [← h]
  | succ n => simp only [State.settleN]; rw [h]

theorem State.settle_of_quiet (h : s.quiet) : s.settle = s := s.settleN_of_quiet _ h

/-- No message is left when the part has settled (log 5). -/
theorem State.settleN_quiet (n : Nat) : ∀ s : State, (s.settleN n).quiet := by
  induction n with
  | zero => intro s; rfl
  | succ n ih =>
    intro s
    simp only [State.settleN]
    split
    · assumption
    · exact ih _

theorem State.settle_quiet : s.settle.quiet := s.settleN_quiet _

/-- What every message keeps, and what is kept when a message leaves the list, is kept by the settling of the part. -/
theorem State.settleN_keeps {P : State → Prop} (hmail : ∀ s m, P s → P { s with mail := m })
    (htake : ∀ s m, P s → P (s.takeMessage m)) (n : Nat) : ∀ s : State, P s → P (s.settleN n) := by
  induction n with
  | zero => intro s h; exact hmail _ _ h
  | succ n ih =>
    intro s h
    simp only [State.settleN]
    split
    · exact h
    · exact ih _ (htake _ _ (hmail _ _ h))

theorem State.settle_keeps {P : State → Prop} (hmail : ∀ s m, P s → P { s with mail := m })
    (htake : ∀ s m, P s → P (s.takeMessage m)) (s : State) (h : P s) : P s.settle :=
  State.settleN_keeps hmail htake _ s h

end Sys2Proof.Machine
end

