-- ==== Sys2Proof/Laws/PerInstr.lean ====
section
/-! SUPPORT. The statements made for each command: the payload of a request has the length the request catalogue gives
it (spec 11, R201, R202). -/

namespace Sys2Proof.Laws.CatalogueLength

/-- The request code of a well-formed request stands in the catalogue, and its payload has a length the catalogue
allows. -/
def Statement (i : Instr) : Prop :=
  i.wellFormed = true → ∀ code payload, encodeRequest i = some (code, payload) →
    ∃ rule, catalogue.lookup code.toNat = some rule ∧ rule.allows payload = true

/-- A command that is no request frame has no payload. -/
theorem of_none {i : Instr} (h : encodeRequest i = none) : Statement i := by
  intro _ code payload he
  rw [h] at he
  cases he

/-- The payload length is the one the catalogue gives. -/
theorem of_some {i : Instr} {code : Byte} {payload : List Byte} {rule : LengthRule}
    (h : encodeRequest i = some (code, payload)) (hrule : catalogue.lookup code.toNat = some rule)
    (hlen : rule.allows payload = true) : Statement i := by
  intro _ c p he
  rw [h] at he
  cases he
  exact ⟨rule, hrule, hlen⟩

/-- A list of at most 14 entries has the count byte the catalogue asks for. -/
theorem listOf_allows {n : Nat} (size : Nat) (entries : List Byte) (hn : n ≤ 14) (h : entries.length = n * size) :
    (LengthRule.listOf size).allows (BitVec.ofNat 8 n :: entries) = true := by
  have hb : (BitVec.ofNat 8 n).toNat = n := by simp; omega
  simp [LengthRule.allows, hb, hn, h]

theorem entries_length (l : List AttnEntry) : (l.flatMap entryBytes).length = l.length * 3 := by
  induction l with
  | nil => rfl
  | cons e l ih => simp [entryBytes] at ih ⊢; omega

theorem powerOn : Statement .powerOn := of_none rfl

theorem startUp (levels : Inputs) : Statement (.startUp levels) := of_none rfl

theorem badFrame (bytes : List Byte) : Statement (.badFrame bytes) := of_none rfl

theorem unknownRequestCode (bytes : List Byte) : Statement (.unknownRequestCode bytes) := of_none rfl

theorem discardedRequest (bytes : List Byte) : Statement (.discardedRequest bytes) := of_none rfl

theorem identify : Statement .identify := of_some rfl rfl rfl

theorem collect (n : Nat) : Statement (.collect n) := of_none rfl

theorem restart : Statement .restart := of_some rfl rfl rfl

theorem countersRead (clear : Byte) : Statement (.countersRead clear) := of_some rfl rfl rfl

theorem settingWrite (number : Byte) (value : Word) : Statement (.settingWrite number value) := of_some rfl rfl rfl

theorem settingRead (number : Byte) : Statement (.settingRead number) := of_some rfl rfl rfl

theorem tipWrite (tip : Byte) (moduleId : Word) (cls home : Byte) :
    Statement (.tipWrite tip moduleId cls home) := of_some rfl rfl rfl

theorem tipQualify (tip arm : Byte) (dx dy dz r : Word) (source : Byte) (temp : Word) :
    Statement (.tipQualify tip arm dx dy dz r source temp) := of_some rfl rfl rfl

theorem tipUnqualify (tip arm : Byte) : Statement (.tipUnqualify tip arm) := of_some rfl rfl rfl

theorem tipRead (tip : Byte) : Statement (.tipRead tip) := of_some rfl rfl rfl

theorem tipFind (state cls loc entry0 quality0 entry1 quality1 cursor : Byte) :
    Statement (.tipFind state cls loc entry0 quality0 entry1 quality1 cursor) := of_some rfl rfl rfl

theorem tipRetire (tip : Byte) : Statement (.tipRetire tip) := of_some rfl rfl rfl

theorem tipPurge (tip : Byte) : Statement (.tipPurge tip) := of_some rfl rfl rfl

theorem axisHome (arm axis : Byte) (reference : Word) : Statement (.axisHome arm axis reference) := of_some rfl rfl rfl

theorem armSetup (arm : Byte) (origin : Axes Word) (direction : Axes Byte) (s0 : Axes Word) :
    Statement (.armSetup arm origin direction s0) := of_some rfl rfl rfl

theorem positionRead (arm : Byte) : Statement (.positionRead arm) := of_some rfl rfl rfl

theorem sensorWrite (string address binding : Byte) (trim : Word) (shift : Byte) :
    Statement (.sensorWrite string address binding trim shift) := of_some rfl rfl rfl

theorem sensorRetire (string address : Byte) : Statement (.sensorRetire string address) := of_some rfl rfl rfl

theorem sensorRead (string address clear : Byte) : Statement (.sensorRead string address clear) := of_some rfl rfl rfl

theorem scanControl (mode present : Byte) (period : Word) :
    Statement (.scanControl mode present period) := of_some rfl rfl rfl

theorem scanRead : Statement .scanRead := of_some rfl rfl rfl

theorem lineCheck (string passes : Byte) : Statement (.lineCheck string passes) := of_some rfl rfl rfl

theorem lineCheckRead (string : Byte) : Statement (.lineCheckRead string) := of_some rfl rfl rfl

theorem groupRead : Statement .groupRead := of_some rfl rfl rfl

theorem compSetup (alphaS : Two (Axes Word)) (alphaW : Word) (w0 : Axes Word) :
    Statement (.compSetup alphaS alphaW w0) := of_some rfl rfl rfl

theorem compRead : Statement .compRead := of_some rfl rfl rfl

theorem convert (arm : Byte) : Statement (.convert arm) := of_some rfl rfl rfl

theorem probeArm (arm value : Byte) : Statement (.probeArm arm value) := of_some rfl rfl rfl

theorem touchTake (arm : Byte) : Statement (.touchTake arm) := of_some rfl rfl rfl

theorem pocketWrite (pocket state present0 : Byte) (box0 : Axes Bounds) (present1 : Byte) (box1 : Axes Bounds) :
    Statement (.pocketWrite pocket state present0 box0 present1 box1) := of_some rfl rfl rfl

theorem pocketClearForeign (pocket : Byte) : Statement (.pocketClearForeign pocket) := of_some rfl rfl rfl

theorem pocketRead (pocket : Byte) : Statement (.pocketRead pocket) := of_some rfl rfl rfl

theorem rackUnlock : Statement .rackUnlock := of_some rfl rfl rfl

theorem rackRead : Statement .rackRead := of_some rfl rfl rfl

theorem change (arm target allow : Byte) : Statement (.change arm target allow) := of_some rfl rfl rfl

theorem changeAbort (arm : Byte) : Statement (.changeAbort arm) := of_some rfl rfl rfl

theorem changeRead (arm : Byte) : Statement (.changeRead arm) := of_some rfl rfl rfl

theorem zoneWrite (zone kind arm : Byte) (box : Axes Bounds) (margin : Word) :
    Statement (.zoneWrite zone kind arm box margin) := of_some rfl rfl rfl

theorem zoneSuspend (zone : Byte) : Statement (.zoneSuspend zone) := of_some rfl rfl rfl

theorem zoneResume (zone : Byte) : Statement (.zoneResume zone) := of_some rfl rfl rfl

theorem zoneDelete (zone : Byte) : Statement (.zoneDelete zone) := of_some rfl rfl rfl

theorem zoneRead (zone : Byte) : Statement (.zoneRead zone) := of_some rfl rfl rfl

theorem holdRelease (arm : Byte) : Statement (.holdRelease arm) := of_some rfl rfl rfl

theorem holdRead (arm : Byte) : Statement (.holdRead arm) := of_some rfl rfl rfl

theorem attnFlags (named : List Byte) : Statement (.attnFlags named) := by
  intro h code payload he
  cases he
  exact ⟨_, rfl, listOf_allows 1 named (of_decide_eq_true h) (by simp)⟩

theorem attnConfig (entries : List AttnEntry) : Statement (.attnConfig entries) := by
  intro h code payload he
  cases he
  exact ⟨_, rfl, listOf_allows 3 _ (of_decide_eq_true h) (entries_length entries)⟩

theorem attnTake : Statement .attnTake := of_some rfl rfl rfl

theorem attnRelease : Statement .attnRelease := of_some rfl rfl rfl

theorem quadraturePhase (a : Arm) (i : Axis) (p : Phase) : Statement (.quadraturePhase a i p) := of_none rfl

theorem referenceMark (a : Arm) (i : Axis) : Statement (.referenceMark a i) := of_none rfl

theorem checkPointFormation (a : Arm) : Statement (.checkPointFormation a) := of_none rfl

theorem transactionEnd (g : Strg) (code : BitVec 16) (ready parity : Bool) :
    Statement (.transactionEnd g code ready parity) := of_none rfl

theorem replyTimeout (g : Strg) : Statement (.replyTimeout g) := of_none rfl

theorem scanTimerExpiry : Statement .scanTimerExpiry := of_none rfl

theorem frzActive : Statement .frzActive := of_none rfl

theorem frzInactive : Statement .frzInactive := of_none rfl

theorem holdAgeTick : Statement .holdAgeTick := of_none rfl

theorem groupStale (g : TempGroup) : Statement (.groupStale g) := of_none rfl

theorem triggerLeadingEdge (a : Arm) : Statement (.triggerLeadingEdge a) := of_none rfl

theorem triggerRelease (a : Arm) : Statement (.triggerRelease a) := of_none rfl

theorem qualificationTimeEnd (a : Arm) : Statement (.qualificationTimeEnd a) := of_none rfl

theorem touchComputation (a : Arm) : Statement (.touchComputation a) := of_none rfl

theorem pointRecordReturn (a : Arm) : Statement (.pointRecordReturn a) := of_none rfl

theorem holdCauseAddition (a : Arm) (c : HoldCause) : Statement (.holdCauseAddition a c) := of_none rfl

theorem raiseReport (src : AttnSource) : Statement (.raiseReport src) := of_none rfl

theorem pocketInputEdge (p : Fin 20) (input : PocketInput) (level : Bool) :
    Statement (.pocketInputEdge p input level) := of_none rfl

theorem observedOccupancyChange (p : Fin 20) : Statement (.observedOccupancyChange p) := of_none rfl

theorem lidSenseChange (p : Fin 20) : Statement (.lidSenseChange p) := of_none rfl

theorem lidTimerExpiry (p : Fin 20) : Statement (.lidTimerExpiry p) := of_none rfl

theorem openCommand (a : Arm) (p : Fin 20) : Statement (.openCommand a p) := of_none rfl

theorem closeCommand (a : Arm) (p : Fin 20) : Statement (.closeCommand a p) := of_none rfl

theorem changePocketReport (a : Arm) (pocket : Option (Fin 20)) (suppressed stow : Bool) :
    Statement (.changePocketReport a pocket suppressed stow) := of_none rfl

theorem rackRequest (a : Arm) : Statement (.rackRequest a) := of_none rfl

theorem entryReport (a : Arm) : Statement (.entryReport a) := of_none rfl

theorem exitReport (a : Arm) : Statement (.exitReport a) := of_none rfl

theorem changeEndedReport (a : Arm) : Statement (.changeEndedReport a) := of_none rfl

theorem grantTimerExpiry : Statement .grantTimerExpiry := of_none rfl

theorem doubleFaultReport (a : Arm) : Statement (.doubleFaultReport a) := of_none rfl

theorem granteeNotice (g : Option Arm) : Statement (.granteeNotice g) := of_none rfl

theorem grantedMessage (a : Arm) : Statement (.grantedMessage a) := of_none rfl

theorem lapsedMessage (a : Arm) : Statement (.lapsedMessage a) := of_none rfl

theorem lockedOutMessage (a : Arm) : Statement (.lockedOutMessage a) := of_none rfl

theorem stepTimerExpiry (a : Arm) : Statement (.stepTimerExpiry a) := of_none rfl

theorem modulePresentEdge (a : Arm) (level : Bool) : Statement (.modulePresentEdge a level) := of_none rfl

theorem modulePresentChange (a : Arm) : Statement (.modulePresentChange a) := of_none rfl

theorem identityReply (a : Arm) (moduleId : Word) (checkCorrect : Bool) :
    Statement (.identityReply a moduleId checkCorrect) := of_none rfl

theorem identityAttemptTimeout (a : Arm) : Statement (.identityAttemptTimeout a) := of_none rfl

theorem registrationClaim (moduleId : Word) : Statement (.registrationClaim moduleId) := of_none rfl

theorem stowReleaseBegins (a : Arm) (tip : Fin 64) : Statement (.stowReleaseBegins a tip) := of_none rfl

theorem stowTransferComplete (a : Arm) (tip : Fin 64) : Statement (.stowTransferComplete a tip) := of_none rfl

theorem pickBegins (a : Arm) (tip : Fin 64) : Statement (.pickBegins a tip) := of_none rfl

theorem identityMatched (a : Arm) (tip : Fin 64) : Statement (.identityMatched a tip) := of_none rfl

theorem transitResolved (a : Arm) (tip : Fin 64) (occupied : Bool) :
    Statement (.transitResolved a tip occupied) := of_none rfl

theorem identityReport (a : Arm) (moduleId : Option Word) : Statement (.identityReport a moduleId) := of_none rfl

theorem moduleLost (a : Arm) : Statement (.moduleLost a) := of_none rfl

theorem homePocketSeenEmpty (p : Fin 20) : Statement (.homePocketSeenEmpty p) := of_none rfl

theorem homePocketSeenOccupied (p : Fin 20) : Statement (.homePocketSeenOccupied p) := of_none rfl

theorem restartComparison (p : Fin 20) : Statement (.restartComparison p) := of_none rfl

theorem restartTransactionLimitEnd (g : Strg) : Statement (.restartTransactionLimitEnd g) := of_none rfl

end Sys2Proof.Laws.CatalogueLength
end

