-- ==== Sys2Proof/Laws/Rack.lean ====
section
/-! SUPPORT. What the shared operations of the rack controller can do: an open command, a close command, a jam, the grant
test and a rack request, each said once. -/

namespace Sys2Proof.Machine

variable (s : State)

theorem State.grantedTo_iff (a : Arm) :
    s.grantedTo a = true ↔
      ∃ acknowledged inside ended, s.rack.arbiter = .granted a acknowledged inside ended := by
  unfold State.grantedTo
  cases h : s.rack.arbiter <;> simp

/-- A close command changes nothing, or turns the drive off and moves the lid to CLOSING or to CLOSED (R123). -/
theorem State.closeLid_cases (p : Fin 20) :
    (s.closeLid p).2 = s ∧ ((s.pocket p).lid ≠ .opening ∧ (s.pocket p).lid ≠ .opened) ∨
    ((s.pocket p).lid = .opening ∨ (s.pocket p).lid = .opened) ∧
      s.closeLid p = (if (s.pocket p).sense then (.closing, s.setLid p .closing false (some s.rack.lidTimeout))
        else (.closed, s.setLid p .closed false none)) := by
  unfold State.closeLid
  cases h : (s.pocket p).lid <;> simp [h, State.startLid]

/-- An open command changes nothing, or turns the drive on at the pocket the grantee's report names (R122). -/
theorem State.openLid_cases (a : Arm) (p : Fin 20) :
    (s.openLid a p).2 = s ∨
    (s.grantedTo a = true ∧ (s.report a).pocket = some p ∧ (s.pocket p).state = .enabled ∧
      ((s.pocket p).lid = .closed ∨ (s.pocket p).lid = .closing) ∧
      s.openLid a p = (.opening, if (s.pocket p).sense then s.setLid p .opened true none
        else s.setLid p .opening true (some s.rack.lidTimeout))) := by
  unfold State.openLid
  by_cases hj : (s.pocket p).lid = .jammed
  · simp [hj]
  · by_cases hr : (!s.grantedTo a) = true ∨ (s.report a).pocket ≠ some p ∨ (s.pocket p).state ≠ .enabled
    · simp only [hj, hr, if_true, if_false]
      simp
    · have h1 : s.grantedTo a = true := by
        by_contra h
        exact hr (.inl (by simpa using h))
      have h2 : (s.report a).pocket = some p := by
        by_contra h
        exact hr (.inr (.inl h))
      have h3 : (s.pocket p).state = .enabled := by
        by_contra h
        exact hr (.inr (.inr h))
      simp only [hj, hr, if_false]
      cases hl : (s.pocket p).lid <;> simp [h1, h2, h3, State.startLid]

/-- The grant test changes nothing, or grants a FREE rack to the head of the queue and says so (R128). -/
theorem State.grantTest_cases :
    s.grantTest = s ∧ (s.rack.arbiter ≠ .free ∨ s.rack.queue = []) ∨
    ∃ a rest, s.rack.arbiter = .free ∧ s.rack.queue = a :: rest ∧
      s.grantTest = ((((s.setArbiter (.granted a false false false)).setQueue rest).setGrantTimer
        (some s.rack.grantTimeout)).send (.granted a)).send (.grantee (some a)) := by
  unfold State.grantTest
  cases ha : s.rack.arbiter <;> cases hq : s.rack.queue <;> simp

/-- A rack request changes nothing, continues a grant, or appends the arm and makes the grant test (R128). -/
theorem State.rackRequest_cases (a : Arm) :
    (s.rackRequest a).2 = s ∨
    (∃ acknowledged inside, s.rack.arbiter = .granted a acknowledged inside true ∧ s.rack.queue = [] ∧
      s.rackRequest a = (.granted, s.setArbiter (.granted a acknowledged inside false))) ∨
    (s.rack.arbiter ≠ .lockedOut ∧ a ∉ s.rack.queue ∧
      (s.rackRequest a).2 = (s.setQueue (s.rack.queue ++ [a])).grantTest) := by
  unfold State.rackRequest
  cases h : s.rack.arbiter with
  | free => by_cases hc : a ∈ s.rack.queue <;> simp [hc]
  | lockedOut => simp
  | granted b acknowledged inside ended =>
    by_cases hc : a ∈ s.rack.queue
    · simp [hc]
    · by_cases hb : b = a
      · subst hb
        cases ended
        · simp [hc]
        · cases hq : s.rack.queue with
          | nil => exact .inr (.inl ⟨_, _, rfl, rfl, by simp⟩)
          | cons x l =>
            rw [hq] at hc
            simp_all
      · simp [hc, hb]

/-- The drive of no pocket but `p` changes when the lid of `p` takes a state. -/
theorem State.setLid_pocket (p q : Fin 20) (lid : LidState) (drive : Bool) (timer : Timer) :
    (s.setLid p lid drive timer).pocket q = if p = q then { s.pocket p with lid, drive, timer } else s.pocket q := by
  simp only [State.setLid, State.pocket, State.send_rack, State.setPocket_rack]
  rw [upd_get]

@[simp] theorem State.setLid_mail (p : Fin 20) (lid : LidState) (drive : Bool) (timer : Timer) :
    (s.setLid p lid drive timer).mail = s.mail ++ [.lidChanged p] := rfl

@[simp] theorem State.setLid_arbiter (p : Fin 20) (lid : LidState) (drive : Bool) (timer : Timer) :
    (s.setLid p lid drive timer).rack.arbiter = s.rack.arbiter := rfl

@[simp] theorem State.setLid_reports (p : Fin 20) (lid : LidState) (drive : Bool) (timer : Timer) :
    (s.setLid p lid drive timer).rack.reports = s.rack.reports := rfl

end Sys2Proof.Machine
end

