-- ==== Sys2Proof/Tests/Slice0.lean ====
section
/-! SUPPORT. Tests: ill-formed commands are refused by the check; one step of each family on a small state, with the result
the spec's text or its worked examples give; and for every statement with hypotheses a witness, a state and operands that
meet them, clause by clause. -/

namespace Sys2Proof.Tests

open Sys2Proof.Machine

set_option Elab.async false

/-! ### Well-formedness -/

theorem test_wf_bad_frame : (Instr.badFrame [0x01, 0]).wellFormed = false := by decide

theorem test_wf_unknown_code : (Instr.unknownRequestCode [0x13, 1, 2]).wellFormed = false := by decide

theorem test_wf_discarded_request : (Instr.discardedRequest [0x02, 0]).wellFormed = false := by decide

/-- The empty frame only says that frames end while the request executes (log 3). -/
theorem test_wf_discarded_request_empty : (Instr.discardedRequest []).wellFormed = true := by decide

theorem test_wf_collect : (Instr.collect 0).wellFormed = false := by decide

theorem test_wf_attn_flags : (Instr.attnFlags (List.replicate 15 1)).wellFormed = false := by decide

theorem test_wf_attn_config : (Instr.attnConfig (List.replicate 15 ⟨1, 1, 1⟩)).wellFormed = false := by decide

/-- A wrong length is a bad frame, and 0x7F is no request code. -/
theorem test_wf_good : (Instr.badFrame [0x13, 2, 12, 0]).wellFormed = true ∧
    (Instr.unknownRequestCode [0x7F, 0]).wellFormed = true := by decide

/-! ### Frames written out from the catalogue of spec 11 (R201, R202) -/

/-- TIP_READ of tip 12: code 0x13, length 1. -/
theorem test_frame_tip_read : decodeFrame [0x13, 1, 12] = some (.tipRead 12) := by decide

/-- AXIS_HOME of arm 1, axis Y, reference -2: code 0x20, length 6, most significant byte first. -/
theorem test_frame_axis_home :
    decodeFrame [0x20, 6, 1, 1, 0xFF, 0xFF, 0xFF, 0xFE] = some (.axisHome 1 1 0xFFFFFFFE) := by decide

/-- SENSOR_WRITE: string, address, group, trim, shift. -/
theorem test_frame_sensor_write :
    decodeFrame [0x30, 8, 0, 5, 6, 0, 0, 1, 2, 3] = some (.sensorWrite 0 5 6 0x102 3) := by decide

/-- ZONE_WRITE: zone, kind, arm, the box as minimum and maximum of X, Y and Z, margin. -/
theorem test_frame_zone_write :
    decodeFrame [0x80, 31, 2, 0, 0xFF, 0, 0, 0, 1, 0, 0, 0, 2, 0, 0, 0, 3, 0, 0, 0, 4, 0, 0, 0, 5, 0, 0, 0, 6, 0, 0, 0, 7] =
      some (.zoneWrite 2 0 0xFF ⟨⟨1, 2⟩, ⟨3, 4⟩, ⟨5, 6⟩⟩ 7) := by decide

/-- CHANGE of arm 0 to NONE, and COLLECT of five bytes. -/
theorem test_frame_change : decodeFrame [0x70, 3, 0, 0xFF, 0] = some (.change 0 0xFF 0) := by decide

theorem test_frame_attn_flags : decodeFrame [0x90, 3, 2, 1, 14] = some (.attnFlags [1, 14]) := by decide

/-- A frame with a length its code does not allow is no request. -/
theorem test_frame_wrong_length : decodeFrame [0x13, 2, 12, 0] = none := by decide

/-! ### Small states -/

/-- The state after one command. -/
def after (c : Instr) (s : State) : State :=
  match exec c s with
  | .next t => t
  | _ => s

/-- The status and the payload of the response that waits. -/
def response (s : State) : Option (Status × List Byte) :=
  match s.link.state with
  | .responseReady st payload => some (st, payload)
  | _ => none

/-- An answer of `n` bytes waits. -/
def answering (n : Nat) : State :=
  { State.reset with link := { Link.reset with state := .responseReady .ok (List.replicate n 0) } }

def word (v : Int) : Word := BitVec.ofInt 32 v

def entry : Entry := { offset := ⟨1, 2, 3⟩, radius := 20000, temperature := 20000, state := .qualified }

/-- Tip 12 of the tests: module 7, home pocket 9. -/
def tip (loc : Location) : Tip :=
  { moduleId := 7, cls := .ball, home := 9, location := loc, entries := ⟨some entry, none⟩ }

def withTip (loc : Location) (s : State) : State := s.setTip 12 (.active (tip loc))

def atPocket (f : Pocket → Pocket) (s : State) : State := s.setPocket 9 (f (s.pocket 9))

/-- Pocket 9 with a record. -/
def enabled (s : State) : State := atPocket (fun r => { r with state := .enabled }) s

def unitBox : Box := ⟨⟨-10, -10, -10⟩, ⟨10, 10, 10⟩⟩

def words (b : Int × Int) : Axes Bounds := .all ⟨word b.1, word b.2⟩

def homed (a : Arm) (s : State) : State :=
  s.setArm a { axes := .all { count := 0, state := .referenced, direction := .normal, s0 := 0, phase := some .p0 },
               origin := .all 0 }

def free (a : Arm) (s : State) : State := s.setHold a { s.zones.hold.get a with causes := Causes.none }

def headIs (a : Arm) (st : HeadState) (s : State) : State := s.setHead a { s.head a with state := st }

def oneArmed : State := { State.reset with oneArm := true }

def sensor : Sensor :=
  { state := .active, binding := some .workpiece, trim := 0, shift := 0, last := none, filtered := none, window := [],
    badCount := 0 }

def zoned (k : ZoneKind) (suspended : Bool) (s : State) : State := s.setZone 3 (some ⟨suspended, k, unitBox, 5⟩)

def noMarks : Marks :=
  { suspect := false, unqualified := false, held := false, stale := false, uncompensated := false, tempClamped := false,
    clamped := false }

def standing (a : Arm) (s : State) : State :=
  s.setHold a { s.zones.hold.get a with points := some ⟨.all 0, noMarks, none⟩ }

def insideZone (a : Arm) (s : State) : State :=
  s.setHold a { s.zones.hold.get a with inside := upd (s.zones.hold.get a).inside 3 true }

/-! ### The link and the queue -/

theorem test_step_takes_the_front :
    step { State.reset with pending := [.identify, .attnTake] } = exec .identify { State.reset with pending := [.attnTake] } :=
  rfl

/-- R212. -/
theorem test_identify : response (after .identify oneArmed) = some (.ok, [0x00, 0xA3, 0x03, 0x64, 0x42, 1]) := by decide

/-- R197, case 4. -/
theorem test_bad_frame : response (after (.badFrame [0x13, 1, 2, 3]) State.reset) = some (.badFrame, []) := by decide

/-- R197, case 5. -/
theorem test_unknown_code : response (after (.unknownRequestCode [0x7F, 0]) State.reset) = some (.badArgument, []) := by
  decide

/-- TIP_PURGE of tip 12 is taken, and a frame ends while it executes. -/
def purging : State :=
  after (.tipPurge 12) { withTip .inPocket State.reset with pending := [.discardedRequest [0x22, 1, 0]] }

/-- R196, R198: the request is in the request buffer and RDY is inactive. -/
theorem test_executing : purging.link.state = .executing 0x16 [12] none ∧ purging.rdyActive = false := by decide +kernel

/-- R197, case 3, and R198: the frame is counted, and the request then answered. -/
theorem test_discarded : (after (.discardedRequest [0x22, 1, 0]) { purging with pending := [] }).link.discarded = 1 ∧
    response (after (.discardedRequest [0x22, 1, 0]) { purging with pending := [] }) = some (.wrongState, []) := by
  decide +kernel

/-- R211: a RESTART frame that ends while TIP_PURGE executes is taken, and TIP_PURGE abandoned. -/
theorem test_restart_abandons : response (after (.discardedRequest [0x03, 0]) { purging with pending := [] }) =
    some (.ok, []) := by decide +kernel

/-- R199: 6 + 3 bytes deliver an answer of 6, 8 do not. -/
theorem test_collect : (after (.collect 9) (answering 6)).link.state = .idle ∧
    (after (.collect 8) (answering 6)).link.state ≠ .idle := by decide

/-- R213. -/
theorem test_counters_read : (after (.countersRead 1) { State.reset with link := { Link.reset with badFrames := 3 } }).link.badFrames =
    0 := by decide

/-- R204: a drift window above 10,000 is stored as 10,000. -/
theorem test_setting_write : (after (.settingWrite 1 20000) State.reset).library.driftWindow = 10000 := by decide

theorem test_setting_read : response (after (.settingRead 12) State.reset) = some (.ok, [12, 0, 0, 0x27, 0x10]) := by decide

/-- R24: a module on an arm is MISSING after RESTART. -/
theorem test_restart : (after .restart (withTip (.onArm .one) State.reset)).library.tips[12] = .active (tip .missing) := by
  decide +kernel

/-- R38: the axis records of an absent arm keep their values. -/
theorem test_restart_absent_arm : (after .restart oneArmed).arms.one = oneArmed.arms.one ∧
    ((after .restart oneArmed).axis .zero .x).phase = none := by decide +kernel

/-- R210: HOLD outputs active during power-on. -/
theorem test_power_on : (after .powerOn (free .zero State.reset)).holdActive .zero = true := by decide +kernel

def oneArmLevels : Inputs :=
  { twoArm := false, frz := true, phase := .both (.all .p1), trigger := ⟨true, true⟩, modulePresent := ⟨true, true⟩,
    occupied := Vector.replicate 20 true, lidOpen := Vector.replicate 20 false }

/-- R38, R112: the trigger input of arm 1 is ignored in a one-arm build. -/
theorem test_start_up : (after (.startUp oneArmLevels) State.reset).touch.zero.trigger = .waitRelease ∧
    (after (.startUp oneArmLevels) State.reset).touch.one.trigger = .idle := by decide +kernel

/-- R39, R210: the phase taken during start-up is the first one. -/
theorem test_start_up_phase : ((after (.quadraturePhase .zero .x .p2) (after (.startUp oneArmLevels) State.reset)).axis
    .zero .x).count = 1 := by decide +kernel

/-! ### Attention (the example of R190) -/

def flagged : State :=
  ((({ State.reset with attention := { Attention.reset with stack := [1] } }.setSource 5 ⟨true, true, 2⟩).setSource 8
    ⟨true, true, 2⟩).setSource 0 ⟨true, true, 1⟩)

/-- R190: with service level 1, TOUCH1 and RACK of level 2 and HOLD0 of level 1, TOUCH1 is chosen. -/
theorem test_attn_take : response (after .attnTake flagged) = some (.ok, [6, 2]) := by decide

theorem test_attn_release : response (after .attnRelease flagged) = some (.ok, [0]) := by decide

theorem test_attn_flags : (after (.attnFlags [6, 6]) flagged).attention.sources[5].flag = false := by decide +kernel

theorem test_attn_config : (after (.attnConfig [⟨11, 1, 9⟩]) State.reset).attention.sources[10] = ⟨false, true, 3⟩ := by
  decide +kernel

theorem test_raise : (after (.raiseReport .rack) State.reset).attention.sources[8].flag = true := by decide

/-! ### The library -/

/-- The example of 1.2.1: a FOREIGN module is registered on arm 1. -/
theorem test_tip_write : (after (.tipWrite 30 5120331 0 9) (enabled (headIs .one (.foreignModule (some 5120331))
    State.reset))).library.tips[30] =
      .active { moduleId := 5120331, cls := .ball, home := 9, location := .onArm .one, entries := ⟨none, none⟩ } := by
  decide +kernel

/-- R11: dz -21,500,000 and r 600,000 are stored as -20,000,000 and 500,000. -/
theorem test_tip_qualify : ((after (.tipQualify 12 0 0 0 (word (-21500000)) 600000 0 21000) (withTip .inPocket
    State.reset)).library.tips[12]) = .active { tip .inPocket with
      entries := ⟨some ⟨⟨0, 0, -20000000⟩, 500000, 21000, .qualified⟩, none⟩ } := by decide

theorem test_tip_unqualify : response (after (.tipUnqualify 12 1) (withTip .inPocket State.reset)) = some (.nothing, []) := by
  decide

theorem test_tip_read_vacant : response (after (.tipRead 12) State.reset) = some (.ok, [12, 0]) := by decide

theorem test_tip_find : response (after (.tipFind 1 0xFF 0 0xFF 0 0xFF 0xFF 11) (withTip .inPocket State.reset)) =
    some (.ok, [1, 12, 0]) := by decide +kernel

theorem test_tip_retire : response (after (.tipRetire 12) (withTip (.onArm .zero) State.reset)) = some (.inUse, []) := by
  decide +kernel

theorem test_tip_purge : response (after (.tipPurge 12) (withTip .inPocket State.reset)) = some (.wrongState, []) := by decide

theorem test_stow_release_begins : (after (.stowReleaseBegins .zero 12) (withTip (.onArm .zero) State.reset)).library.tips[12]
    = .active (tip (.inTransit .zero)) := by decide +kernel

theorem test_stow_transfer_complete :
    (after (.stowTransferComplete .zero 12) (withTip (.inTransit .zero) State.reset)).library.tips[12] =
      .active (tip .inPocket) := by decide +kernel

theorem test_pick_begins : (after (.pickBegins .one 12) (withTip .missing State.reset)).answer = some .refused := by
  decide +kernel

theorem test_identity_matched : (after (.identityMatched .one 12) (withTip (.inTransit .one) State.reset)).library.tips[12] =
    .active (tip (.onArm .one)) := by decide +kernel

theorem test_transit_resolved : (after (.transitResolved .one 12 false) (withTip (.inTransit .one)
    State.reset)).library.tips[12] = .active (tip .missing) := by decide +kernel

/-- R19, second case: the record is on the other arm. -/
theorem test_identity_report : (after (.identityReport .zero (some 7)) (withTip (.onArm .one) State.reset)).answer =
    some .notMatched := by decide +kernel

theorem test_module_lost : (after (.moduleLost .zero) (withTip (.onArm .zero) State.reset)).library.tips[12] =
    .active (tip .missing) := by decide +kernel

theorem test_registration_claim : (after (.registrationClaim 7) (headIs .one (.foreignModule (some 7)) State.reset)).answer =
    some (.claimGranted .one) := by decide +kernel

theorem test_home_pocket_seen_occupied : (after (.homePocketSeenOccupied 9) (enabled (withTip .missing
    State.reset))).library.tips[12] = .active { tip .inPocket with entries := ⟨some { entry with state := .suspect }, none⟩ } :=
  by decide +kernel

/-- R20: the record at an empty home pocket is MISSING. -/
theorem test_home_pocket_seen_empty : (after (.homePocketSeenEmpty 9) (enabled (withTip .inPocket
    State.reset))).library.tips[12] = .active (tip .missing) := by decide +kernel

/-! ### The axes -/

theorem test_axis_home : ((after (.axisHome 0 1 (word (-2147483648))) State.reset).axis .zero .y).state =
    .seeking (-2147483647) := by decide

theorem test_arm_setup : ((after (.armSetup 1 (.all 5) ⟨0, 1, 0⟩ (.all 9)) State.reset).axis .one .y).direction = .reversed ∧
    ((after (.armSetup 1 (.all 5) ⟨0, 1, 0⟩ (.all 9)) State.reset).arms.one).origin = .all 5 := by decide

/-- R37, in the layout of log 11: three axis records of 17 bytes, the origin, the guard state and the positions. -/
theorem test_position_read : (response (after (.positionRead 0) State.reset)).map (fun r => r.2.length) = some 93 := by
  decide +kernel

/-- R26: one phase on, one count up; reversed, one count down. -/
theorem test_quadrature_step : ((after (.quadraturePhase .zero .x .p1) (homed .zero State.reset)).axis .zero .x).count = 1 ∧
    ((after (.quadraturePhase .zero .x .p3) (homed .zero State.reset)).axis .zero .x).count = -1 := by decide +kernel

/-- R27: two phases at once are a quadrature error. -/
theorem test_quadrature_error : ((after (.quadraturePhase .zero .x .p2) (homed .zero State.reset)).axis .zero .x).state =
    .fault .quadrature := by decide +kernel

theorem test_reference_mark : ((after (.referenceMark .zero .x) (State.reset.setAxis .zero .x
    { State.reset.axis .zero .x with state := .seeking 77 })).axis .zero .x).count = 77 := by decide +kernel

/-! ### The scanner -/

theorem test_sensor_write : ((after (.sensorWrite 0 5 6 (word (-3000)) 9) State.reset).sensor .zero 5).map
    (fun r => (r.binding, r.trim, r.shift)) = some (some (.head .zero), -2000, 7) := by decide +kernel

theorem test_sensor_retire : ((after (.sensorRetire 0 5) (State.reset.setSensor .zero 5 (some sensor))).sensor .zero 5).map
    Sensor.state = some .retired := by decide +kernel

theorem test_sensor_read : response (after (.sensorRead 0 5 2) State.reset) = some (.badArgument, []) := by decide

/-- R56: with no sensor a CONTINUOUS scan is WAITING at once; 99 ms is stored as 100. -/
theorem test_scan_control : (after (.scanControl 0 1 99) State.reset).scanner.state = .waiting ∧
    (after (.scanControl 0 1 99) State.reset).scanner.period = 100 := by decide +kernel

theorem test_scan_read : (response (after .scanRead State.reset)).map (fun r => r.1) = some .ok := by decide

/-- R61: no pass is stored as 1, with status CLAMPED. -/
theorem test_line_check : response (after (.lineCheck 1 0) State.reset) = some (.clamped, []) ∧
    ((after (.lineCheck 1 0) State.reset).string .one).transaction = some ⟨0, .lineCheck, false⟩ := by decide +kernel

theorem test_line_check_read : response (after (.lineCheckRead 0) State.reset) = some (.ok, [0, 0, 0, 0, 0, 0, 0, 0]) := by
  decide +kernel

/-- A sweep reads sensor 5 of string 0. -/
def reading : State :=
  let s := State.reset.setSensor .zero 5 (some sensor)
  let s := s.setString .zero { s.string .zero with transaction := some ⟨5, .sweep, false⟩, pass := .reading (some 5) }
  { s with scanner := { s.scanner with state := .sweeping, mode := .continuous, timer := some 9 } }

/-- R42, R49: the code 1,600 is 25 °C; an even number of set bits is good parity. -/
theorem test_transaction_end : ((after (.transactionEnd .zero 1600 true false) reading).sensor .zero 5).map
    (fun r => (r.last, r.window)) = some (some 25000, [.good]) := by decide +kernel

/-- R42: no reply is BAD; R57: the CONTINUOUS sweep that ends is WAITING. -/
theorem test_reply_timeout : ((after (.replyTimeout .zero) reading).sensor .zero 5).map (fun r => (r.badCount, r.window)) =
    some (1, [.bad]) ∧ (after (.replyTimeout .zero) reading).scanner.state = .waiting := by decide +kernel

/-- R58: the expiry during a CONTINUOUS sweep is an overrun. -/
theorem test_scan_timer_expiry : (after .scanTimerExpiry reading).scanner.overruns = 1 := by decide +kernel

theorem test_frz_active : (after .frzActive reading).frz = true := by decide

/-- R60: the pass that waited begins its transaction. -/
def frozen : State :=
  let s := { reading with frz := true }
  s.setString .zero { s.string .zero with transaction := none, pass := .reading none }

theorem test_frz_inactive : ((after .frzInactive frozen).string .zero).transaction = some ⟨5, .sweep, false⟩ := by
  decide +kernel

theorem test_restart_limit_end : ((after (.restartTransactionLimitEnd .one) (State.reset.setString .one
    { State.reset.string .one with limit := true })).string .one).limit = false := by decide +kernel

/-! ### Groups, factors and points -/

def workpieceAt (st : GroupState) (s : State) : State :=
  s.setGroups { s.scanner.groups with workpiece := { state := st, contributors := 0 } }

/-- The workpiece group is next in turn, the head group of arm 0 after it. -/
def ageing (age : Nat) : State := (workpieceAt (.held 20000 age) State.reset).setAgeing [[.workpiece], [.head .zero]]

theorem test_hold_age_tick :
    (after .holdAgeTick (ageing 599)).scanner.groups.workpiece.state = .held 20000 600 ∧
    (after .holdAgeTick (after .holdAgeTick (ageing 599))).scanner.groups.workpiece.state = .held 20000 600 ∧
    (after .holdAgeTick (ageing 599)).scanner.ageing = [[.head .zero], [.workpiece]] := by decide +kernel

/-- R68: a LIVE group without a contributor becomes HELD, and ages after the groups that age already. -/
theorem test_group_held : (((ageing 5).setGroups { (ageing 5).scanner.groups with
    scale := .both (.all { state := .live 21000, contributors := 1 }) }).formGroups).scanner.ageing =
    [[.workpiece], [.head .zero], [.scale .zero .x, .scale .zero .y, .scale .zero .z, .scale .one .x, .scale .one .y,
      .scale .one .z]] := by decide +kernel

/-- R70: at the hold limit of 600 s the group becomes STALE. -/
theorem test_group_stale : (after (.groupStale .workpiece) (workpieceAt (.held 20000 600)
    State.reset)).scanner.groups.workpiece.state = .stale 20000 600 := by decide +kernel

theorem test_group_read : (response (after .groupRead State.reset)).map (fun r => r.2.length) = some 156 := by decide +kernel

/-- The workpiece factor of 5.8: 1,180 cppm at 24,150 mK gives 48,970 ppb. -/
theorem test_comp_setup : (after (.compSetup (.both (.all 1150)) 1180 (.all 0)) (workpieceAt (.live 24150)
    State.reset)).comp.factors.workpiece.value = 48970 := by decide +kernel

theorem test_comp_read : (response (after .compRead State.reset)).map (fun r => r.2.length) = some 40 := by decide +kernel

def workedEntry : Entry :=
  { offset := ⟨-1250000, 0, -1800000⟩, radius := 20000, temperature := 21000, state := .qualified }

def workedTip : Tip := { tip (.onArm .zero) with entries := ⟨some workedEntry, none⟩ }

/-- The worked case of 5.8. -/
def workedCase : State :=
  let f (v : Int) : Factor := { value := v, marks := { tempClamped := false, held := false, stale := false, uncompensated := false } }
  let s := State.reset.setTip 12 (.active workedTip)
  let x (n s0 : Int) : AxisRecord := { count := n, state := .referenced, direction := .normal, s0 := s0, phase := some .p0 }
  let s := s.setArm .zero { axes := ⟨x 42500000 0, x 8000000 0, x (-2400000) 5000000⟩, origin := ⟨2000000, -500000, 9000000⟩ }
  let k := { s.comp.factors with scale := ⟨⟨f 39100, f 33350, f 17250⟩, s.comp.factors.scale.one⟩, workpiece := f 48970 }
  { s with comp := { s.comp with
                     coefficients := { s.comp.coefficients with w0 := ⟨30000000, 6000000, 1000000⟩ }
                     factors := k
                     formationDue := ⟨[.motion], []⟩ } }

def raw : Point := ⟨42500000, 8000000, -2400000⟩

/-- 5.8: the coordinates of the point. -/
theorem test_touch_computation : ((after (.touchComputation .zero) (workedCase.setTouch .zero
    { TouchRecord.reset with requests := [raw] })).touch.zero.returned.map PointRecord.coordinates) =
      [⟨43251013, 7500194, 4799686⟩] := by decide +kernel

/-- 5.8: the reference point and the tip point of the check points. -/
theorem test_check_point_formation : ((after (.checkPointFormation .zero) workedCase).zones.hold.zero.points) =
    some ⟨⟨44501662, 7500267, 6599872⟩, noMarks, some ⟨⟨43251662, 7500267, 4799872⟩, 20000, 12, noMarks⟩⟩ := by decide +kernel

theorem test_convert : response (after (.convert 1) workedCase) = some (.notReferenced, []) := by decide +kernel

/-! ### The touch unit -/

/-- R100: a hold refuses the arming. -/
theorem test_probe_arm : response (after (.probeArm 0 1) State.reset) = some (.wrongState, []) ∧
    ((after (.probeArm 0 1) (free .zero State.reset)).touch.zero).armed = true := by decide +kernel

theorem test_touch_take : response (after (.touchTake 0) State.reset) = some (.nothing, []) := by decide

def qualifying : State :=
  State.reset.setTouch .zero { TouchRecord.reset with input := true, trigger := .qualifying ⟨1, 2, 3⟩ 20 7 }

theorem test_leading_edge : ((after (.triggerLeadingEdge .zero) (homed .zero State.reset)).touch.zero).trigger =
    .qualifying ⟨0, 0, 0⟩ 20 0 := by decide +kernel

/-- R103: a bounce. -/
theorem test_trigger_release : (after (.triggerRelease .zero) qualifying).touch.zero.bounces = 1 := by decide

/-- R105, case 2: a trigger while probing is not armed is a collision. -/
theorem test_qualification_end : (after (.qualificationTimeEnd .zero) qualifying).zones.hold.zero.causes.collision = true := by
  decide +kernel

def returnedPoint : PointRecord := workedCase.pointOf .zero raw

/-- R109: the number 65,535 is followed by 0. -/
theorem test_point_return : (after (.pointRecordReturn .zero) (State.reset.setTouch .zero
    { TouchRecord.reset with nextNumber := 65535, returned := [returnedPoint] })).touch.zero.nextNumber = 0 := by
  decide +kernel

/-! ### The rack -/

theorem test_pocket_write : ((after (.pocketWrite 9 1 1 (words (-10, 10)) 0 (words (0, 0))) State.reset).pocket 9).dock.zero =
    some unitBox := by decide +kernel

theorem test_pocket_clear_foreign : response (after (.pocketClearForeign 9)
    (atPocket (fun r => { r with occupied := true }) State.reset)) = some (.wrongState, []) := by decide +kernel

theorem test_pocket_read : response (after (.pocketRead 20) State.reset) = some (.badArgument, []) := by decide

theorem test_rack_unlock : (after .rackUnlock (State.reset.setArbiter .lockedOut)).rack.arbiter = .free := by decide

theorem test_rack_read : (response (after .rackRead State.reset)).map (fun r => r.1) = some .ok := by decide

theorem test_pocket_input_edge : ((after (.pocketInputEdge 9 .occupancy true) State.reset).pocket 9).occupancyInput = true := by
  decide

/-- R118: a module seen where none is expected makes the pocket foreign. -/
def moduleSeen : State := enabled (atPocket (fun r => { r with occupancyInput := true, restartCompare := true }) State.reset)

theorem test_observed_occupancy : ((after (.observedOccupancyChange 9) moduleSeen).pocket 9).foreignMark = true := by
  decide +kernel

theorem test_restart_comparison : ((after (.restartComparison 9) moduleSeen).pocket 9).foreignMark = true := by decide +kernel

/-- R124: a CLOSED lid that is sensed open is JAMMED, and its pocket DISABLED. -/
theorem test_lid_sense : ((after (.lidSenseChange 9) (enabled (atPocket (fun r => { r with senseInput := true })
    State.reset))).pocket 9).state = .disabled := by decide +kernel

theorem test_lid_timer : ((after (.lidTimerExpiry 9) (atPocket (fun r => { r with lid := .closing, timer := some 0 })
    State.reset)).pocket 9).lid = .jammed := by decide +kernel

/-- Arm 0 holds the grant and works at pocket 9. -/
def granted : State :=
  let s := (enabled State.reset).setArbiter (.granted .zero false false false)
  { s with rack := { s.rack with reports := ⟨⟨some 9, false, false⟩, PocketReport.reset⟩ } }

theorem test_open_command : ((after (.openCommand .zero 9) granted).pocket 9).lid = .opening ∧
    (after (.openCommand .one 9) granted).answer = some .refused := by decide +kernel

theorem test_close_command : (after (.closeCommand .zero 9) granted).answer = some .closed := by decide +kernel

theorem test_change_pocket_report : (after (.changePocketReport .one (some 4) true false) State.reset).rack.reports.one =
    ⟨some 4, true, false⟩ := by decide +kernel

/-- R128: a FREE rack is granted at once, with the grant timer running. -/
theorem test_rack_request : (after (.rackRequest .one) State.reset).rack.arbiter = .granted .one false false false ∧
    (after (.rackRequest .one) State.reset).rack.grantTimer = some 60000 := by decide +kernel

theorem test_entry_report : (after (.entryReport .zero) granted).rack.arbiter = .granted .zero true true false := by
  decide +kernel

theorem test_exit_report : (after (.exitReport .zero) (granted.setArbiter (.granted .zero true true false))).rack.arbiter =
    .granted .zero true false false := by decide +kernel

theorem test_change_ended_report : (after (.changeEndedReport .zero) granted).rack.arbiter = .free := by decide +kernel

theorem test_grant_timer_expiry : (after .grantTimerExpiry (granted.setGrantTimer (some 0))).rack.arbiter = .free := by
  decide +kernel

theorem test_double_fault : (after (.doubleFaultReport .zero) granted).rack.arbiter = .lockedOut := by decide +kernel

/-! ### Probe change -/

/-- R140: a BLIND arm is refused NOT_REFERENCED. -/
theorem test_change : response (after (.change 0 12 0) State.reset) = some (.notReferenced, []) := by decide +kernel

/-- Arm 0 fetches: the tip of pocket 9 is to be picked. -/
def fetching (st : ChangeState) : State :=
  granted.setChange .zero { Change.reset with
    state := st, target := some 12, current := some 9, opened := [9], timer := some 5 }

theorem test_change_abort : ((after (.changeAbort 0) (fetching .fetchOpen)).change .zero).faultResult = some .aborted ∧
    response (after (.changeAbort 0) State.reset) = some (.nothing, []) := by decide +kernel

theorem test_change_read : (response (after (.changeRead 0) State.reset)).map (fun r => r.1) = some .ok := by decide +kernel

theorem test_granted_message : ((after (.grantedMessage .zero) (withTip .inPocket (fetching .waitingRack))).change .zero).state =
    .fetchApproach := by decide +kernel

theorem test_lapsed_message : ((after (.lapsedMessage .zero) (fetching .fetchOpen)).change .zero).faultResult =
    some .grantLapsed := by decide +kernel

theorem test_locked_out_message : ((after (.lockedOutMessage .zero) (fetching .waitingRack)).change .zero).last =
    some (.rackLocked, false) := by decide +kernel

theorem test_step_timer : ((after (.stepTimerExpiry .zero) (fetching .fetchPick)).change .zero).faultResult =
    some .timeout := by decide +kernel

theorem test_module_present_edge : ((after (.modulePresentEdge .one true) State.reset).head .one).moduleInput = true := by
  decide

/-- R158: a module that comes is read. -/
theorem test_module_present_change : ((after (.modulePresentChange .one) (State.reset.setHead .one
    { State.reset.head .one with moduleInput := true })).head .one).attempt = some 1 := by decide +kernel

def identifying (n : Nat) : State :=
  State.reset.setHead .one
    { state := .identifying, allowUnqualified := false, modulePresent := true, moduleInput := true, attempt := some n }

theorem test_identity_reply : ((after (.identityReply .one 7 true) (identifying 1)).head .one).state =
    .foreignModule (some 7) := by decide +kernel

/-- R137: the third attempt ends the read with no ID. -/
theorem test_identity_timeout : ((after (.identityAttemptTimeout .one) (identifying 3)).head .one).state =
    .foreignModule none ∧ ((after (.identityAttemptTimeout .one) (identifying 2)).head .one).attempt = some 3 := by
  decide +kernel

/-! ### Zones and holds -/

/-- R166: a FORBIDDEN zone written around a REFERENCED arm is violated at once. -/
theorem test_zone_write : (after (.zoneWrite 3 0 0xFF (words (-10, 10)) 5) (standing .zero (homed .zero
    State.reset))).zones.hold.zero.causes.zone = true := by decide +kernel

theorem test_zone_suspend : response (after (.zoneSuspend 3) State.reset) = some (.wrongState, []) := by decide

theorem test_zone_resume : (after (.zoneResume 3) (zoned .forbidden true State.reset)).zones.table[3] =
    some ⟨false, .forbidden, unitBox, 5⟩ := by decide +kernel

theorem test_zone_delete : (after (.zoneDelete 3) (zoned .forbidden true State.reset)).zones.table[3] = none := by
  decide +kernel

theorem test_zone_read : response (after (.zoneRead 3) State.reset) = some (.ok, [3, 0]) := by decide

/-- R172: the causes go; power-on left one. -/
theorem test_hold_release : (after (.holdRelease 0) State.reset).holdActive .zero = false := by decide +kernel

theorem test_hold_read : (response (after (.holdRead 0) State.reset)).map (fun r => r.2.length) = some 12 := by decide +kernel

theorem test_hold_cause : (after (.holdCauseAddition .zero .collision) (free .zero State.reset)).attention.sources[0].flag =
    true := by decide +kernel

theorem test_grantee_notice : (after (.granteeNotice (some .one)) State.reset).zones.grantee = some .one := by decide +kernel

/-- Log 8: a millisecond on an empty queue. -/
theorem test_tick : (match step (granted.setGrantTimer (some 2)) with
    | .next t => t.rack.grantTimer
    | _ => none) = some 1 := by decide +kernel

/-- R99: the qualification timer runs on during FRZ. -/
theorem test_tick_qualification : (match step ({ qualifying with frz := true } : State) with
    | .next t => t.touch.zero.trigger
    | _ => .idle) = .qualifying ⟨1, 2, 3⟩ 20 20 := by decide +kernel

/-! ### Witnesses: states and operands that meet the hypotheses of each statement, clause by clause -/

/-- What `takesRequests` and `quiet` say, and for an event of an arm `serves`. -/
abbrev Ready (s : State) : Prop :=
  (s.powered = true ∧ s.link.isExecuting = false ∧ lateFrameWaits s.pending = false) ∧ s.mail = []

theorem ready_takes (s : State) (h : Ready s) : s.takesRequests ∧ s.quiet := ⟨h.1, h.2⟩

theorem ready_serves (s : State) (a : Arm) (h : Ready s) (p : s.present a = true) : s.serves a ∧ s.quiet :=
  ⟨⟨h.1.1, p⟩, h.2⟩

theorem arms {P : Arm → Prop} (zero : P .zero) (one : P .one) (a : Arm) : P a := by cases a <;> assumption

theorem axes {P : Axis → Prop} (x : P .x) (y : P .y) (z : P .z) (i : Axis) : P i := by cases i <;> assumption

/-- A property of every value an absent or present field holds. -/
theorem somes {α : Type} {o : Option α} (P : α → Prop) [DecidablePred P] (h : (o.all fun x => decide (P x)) = true)
    (x : α) (e : o = some x) : P x := by
  subst e; simpa using h

def activeAll (P : Tip → Bool) : TipSlot → Bool
  | .active t => P t
  | _ => true

/-- A property of every ACTIVE record, checked slot by slot. -/
theorem actives {s : State} (P : Fin 64 → Tip → Prop) [∀ j t, Decidable (P j t)]
    (h : ∀ j : Fin 64, activeAll (fun t => decide (P j t)) s.library.tips[j] = true)
    (j : Fin 64) (t : Tip) (e : s.library.tips[j] = .active t) : P j t := by
  have := h j; rw [e] at this; simpa [activeAll] using this

theorem lone_lawful {s : State} (k : Fin 64)
    (h : ∀ j : Fin 64, activeAll (fun _ => decide (j = k)) s.library.tips[j] = true) : LibraryLaw s := by
  have lone := actives (s := s) (fun j _ => j = k) h
  exact ⟨fun i j t u a b n => absurd ((lone i t a).trans (lone j u b).symm) n,
    fun _ i j t u a b _ _ => (lone i t a).trans (lone j u b).symm⟩

def onArm (a : Arm) : TipSlot → Bool
  | .active t => decide (t.location = .onArm a)
  | _ => false

theorem mounted_of {s : State} {a : Arm} {tip : Option (Fin 64)}
    (h : ∀ i : Fin 64, decide (tip = some i) = onArm a s.library.tips[i]) : Mounted s a tip := by
  intro i
  have := h i
  constructor
  · intro e
    rw [decide_eq_true e] at this
    cases hs : s.library.tips[i] with
    | active t => rw [hs] at this; exact ⟨t, rfl, of_decide_eq_true this.symm⟩
    | vacant => rw [hs] at this; cases this
    | retired t => rw [hs] at this; cases this
  · rintro ⟨t, e, l⟩
    rw [e] at this
    exact of_decide_eq_true (this.trans (decide_eq_true l))

theorem entry_none (s : State) (a : Arm) : EntryUsed s a none none := ⟨fun _ => rfl, fun _ _ h => by cases h⟩

theorem entry_of {s : State} {a : Arm} {i : Fin 64} {t : Tip} (h : s.library.tips[i] = .active t) :
    EntryUsed s a (some i) (t.entries.get a) :=
  ⟨fun n => (by cases n), fun j u e g => by cases e; rw [h] at g; cases g; rfl⟩

def off : State := { State.reset with powered := false }

def frozenPart : State := { State.reset with frz := true }

theorem witness_StepRunsFrontCommand :
    ({ State.reset with pending := [.identify, .attnTake] } : State).pending = .identify :: [.attnTake] := rfl

theorem witness_EmptyQueueStepRunsTimers :
    (State.reset.pending = [] ∧ State.reset.powered = true ∧ State.reset.frz = false) ∧
    (off.pending = [] ∧ off.powered = false) ∧ frozenPart.pending = [] ∧ frozenPart.frz = true := by decide

theorem witness_PowerStopsAndAbandons :
    off.powered = false ∧ Instr.identify ≠ .powerOn ∧ ∀ l : Inputs, Instr.identify ≠ .startUp l :=
  ⟨rfl, nofun, fun _ => by simp⟩

theorem witness_StartUpValues : State.reset.pending = [] := rfl

/-- Pocket 9 is ENABLED with its lid sensed open: RESTART makes it JAMMED and DISABLED; pocket 8 keeps its state. -/
theorem witness_RestartValues :
    let s := enabled (atPocket (fun r => { r with senseInput := true }) State.reset)
    (Ready s ∧ s.link.executingRestart = false) ∧
    ((s.pocket 9).state = .enabled ∧ (s.pocket 9).lid ≠ .jammed ∧ ((after .restart s).pocket 9).lid = .jammed) ∧
    (s.pocket 8).state ≠ .enabled ∧
    let r : State := { State.reset with link := { Link.reset with state := .executing 3 [] none } }
    r.powered = true ∧ r.link.executingRestart = true := by decide +kernel

/-- A request of this code and payload is in execution, its block having answered or not. -/
def executes (code : Byte) (payload : List Byte) (answer : Option (Status × List Byte)) (rest : List Instr) : State :=
  { State.reset with
    link := { Link.reset with state := .executing code payload answer }, pending := rest }

/-- Lengths 121, 2 for one byte, and 2 for TIP_READ; code 0x7F; lists of fifteen. -/
theorem witness_MalformedAndDiscardedFramesAreCounted :
    Ready State.reset ∧ (0x13 : Byte) ≠ 0x02 ∧ 120 < (121 : Byte).toNat ∧ [12].length ≠ (2 : Byte).toNat ∧
    (catalogue.lookup (0x13 : Byte).toNat).map (fun rule => rule.allows [12, 0]) = some false ∧
    ((0x7F : Byte) ≠ 0x02 ∧ (0 : Byte).toNat ≤ 120 ∧ ([] : List Byte).length = (0 : Byte).toNat ∧
      catalogue.lookup (0x7F : Byte).toNat = none) ∧
    ((answering 0).powered = true ∧ (answering 0).link.state ≠ .idle) ∧
    14 < (List.replicate 15 (1 : Byte)).length ∧ 14 < (List.replicate 15 (⟨1, 1, 1⟩ : AttnEntry)).length := by
  decide

/-- TIP_PURGE and RESTART before a frame that ends while they execute, during another request, and alone. -/
theorem witness_MalformedAndDiscardedFramesAreCounted_requests :
    (∀ c ∈ [Instr.tipPurge 12, .restart],
      let s : State := { State.reset with pending := [.discardedRequest []] }
      s.powered = true ∧ s.mail = [] ∧ c.wellFormed = true ∧ (encodeRequest c).isSome = true ∧ s.link.isExecuting = false ∧
        lateFrameWaits s.pending = true) ∧
    (encodeRequest (.tipPurge 12) = some (0x16, [12]) ∧ (0x16 : Byte) ≠ 0x03 ∧ encodeRequest .restart = some (0x03, [])) ∧
    (Ready State.reset ∧ ∀ c ∈ [Instr.tipPurge 12, .restart],
      ((requestBody c).map fun body => (body State.reset).state.mail) = some []) := by
  decide +kernel

/-- Both requests in execution, answered by their block or not, after the last such frame or before it. -/
theorem witness_MalformedAndDiscardedFramesAreCounted_executing :
    (∀ code ∈ [(0x16 : Byte), 0x03], ∀ last ∈ [true, false], ∀ answer ∈ [none, some (Status.ok, [])],
      let s := executes code (if code = 0x03 then [] else [12]) answer (if last then [] else [.discardedRequest [0x22, 1, 0]])
      s.powered = true ∧ s.mail = [] ∧ s.link.isExecuting = true ∧ s.link.executingRestart = (code == 0x03) ∧
        lateFrameWaits s.pending = !last) ∧
    (judgeFrame [0x13, 1, 2, 3] = .bad ∧ judgeFrame [0x7F, 0] = .unknownCode ∧ (0x22 : Byte) ≠ 0x02 ∧
      [(0x22 : Byte), 1, 0] ≠ [0x03, 0x00] ∧ decodePayload 0x16 [12] = some (.tipPurge 12) ∧
      decodePayload 0x03 [] = some .restart) := by
  decide +kernel

theorem witness_CollectDeliversAWholeResponse :
    ((answering 6).powered = true ∧ (answering 6).link.state = .responseReady .ok (List.replicate 6 0) ∧ 6 + 3 ≤ 9 ∧
      8 < 6 + 3) ∧
    State.reset.powered = true ∧ ∀ (st : Status) (p : List Byte), State.reset.link.state ≠ .responseReady st p :=
  ⟨by decide, rfl, nofun⟩

theorem witness_IdentifyAndCountersAreRead : Ready State.reset ∧ exec .restart State.reset = .next (after .restart State.reset) ∧
    1 < (2 : Byte).toNat := ⟨by decide, rfl, by decide⟩

/-- The first setting, the last, and W of string 0 with a value below K. -/
theorem witness_SettingsAreClampedStoredAndRead :
    let s := State.reset
    12 < (13 : Byte).toNat ∧ Ready s ∧
    (settingArg 1 = some .driftWindow ∧ s.settingAbsent .driftWindow = false ∧ 1 ≤ (s.settingRange .driftWindow).2) ∧
    (settingArg 12 = some .transferTimeout ∧ s.settingAbsent .transferTimeout = false ∧
      1 ≤ (s.settingRange .transferTimeout).2) ∧
    settingArg 2 = some (.windowLength .zero) ∧ 1 ≤ (s.settingRange (.windowLength .zero)).2 ∧
    Setting.holdLimit ≠ .windowLength .zero ∧ Setting.holdLimit ≠ .faultCount .zero ∧
    settingArg 6 = some .holdLimit ∧ s.scanner.groups.workpiece.state = .empty ∧
    (workpieceAt (.held 20000 50) s).scanner.groups.workpiece.state = .held 20000 50 := by decide

theorem witness_ArgumentsOutOfRangeAreRefused :
    Ready State.reset ∧ Ready oneArmed ∧ oneArmed.oneArm = true ∧ 1 < (2 : Byte).toNat ∧ 63 < (64 : Byte).toNat ∧
    19 < (20 : Byte).toNat ∧ 15 < (16 : Byte).toNat ∧ 2 < (3 : Byte).toNat ∧ 12 < (13 : Byte).toNat ∧
    (0 : Byte).toNat ≤ 2 ∧ (∀ i : Axis, ((Axes.all 1 : Axes Byte).get i).toNat ≤ 1) ∧
    ¬ ((3 : Byte).toNat ≤ 2 ∨ (3 : Byte) = 0xFF) ∧ ¬ ((9 : Byte).toNat ≤ 8 ∨ (9 : Byte) = 0xFF) ∧
    ((2 : Byte).toNat ≤ 2 ∧ (0xFF : Byte) = 0xFF ∧ (1 : Byte) ≠ 0xFF) :=
  ⟨by decide, by decide, rfl, by decide, by decide, by decide, by decide, by decide, by decide, by decide,
    axes (by decide) (by decide) (by decide), by decide, by decide, by decide⟩

/-- The answer of the second command is a refusal. -/
theorem witness_RequestsAreAnsweredAndRefusalsChangeNothing :
    Ready State.reset ∧ Instr.identify.wellFormed = true ∧ (encodeRequest .identify).isSome = true ∧
    Instr.identify ≠ .restart ∧ ((response (after (.tipPurge 12) State.reset)).map fun r => r.1.refusal) = some true := by
  decide

theorem witness_FramesAreReadBack :
    (Instr.tipRead 63).wellFormed = true ∧ encodeFrame (.tipRead 63) = some [0x13, 1, 63] ∧
    (Instr.collect 1).wellFormed = true ∧ encodeFrame (.collect 1) = some [0x02] := by decide

/-! #### Witnesses: Attention -/

theorem witness_AttentionIsRaisedReadAndConfigured :
    (Ready State.reset ∧ Ready oneArmed ∧ sourceArm (.hold .one) = some .one ∧ oneArmed.oneArm = true ∧
      ¬ (sourceArm (.hold .one) = some .one ∧ State.reset.oneArm = true)) ∧
    ([15] : List Byte).length ≤ 14 ∧ (∃ b ∈ ([15] : List Byte), b = 0 ∨ 14 < b.toNat) ∧
    (∀ b ∈ ([1, 14] : List Byte), 1 ≤ b.toNat ∧ b.toNat ≤ 14) ∧
    let legal (e : AttnEntry) : Prop := 1 ≤ e.source.toNat ∧ e.source.toNat ≤ 14 ∧ e.enable.toNat ≤ 1
    (∃ e ∈ ([⟨15, 0, 0⟩] : List AttnEntry), ¬ legal e) ∧
    ¬ (([⟨1, 0, 0⟩, ⟨1, 1, 1⟩] : List AttnEntry).map AttnEntry.source).Nodup ∧
    (∀ e ∈ ([⟨1, 0, 0⟩, ⟨14, 1, 9⟩] : List AttnEntry), legal e) ∧
    (([⟨1, 0, 0⟩, ⟨14, 1, 9⟩] : List AttnEntry).map AttnEntry.source).Nodup ∧
    (14 : Byte).toNat = (13 : Fin 14).val + 1 ∧
    ∀ e ∈ ([⟨1, 0, 0⟩, ⟨14, 1, 9⟩] : List AttnEntry), e.source.toNat ≠ (4 : Fin 14).val + 1 := by decide

/-- Sources 6 and 9 share level 2 above service level 1: source 6 is chosen. -/
theorem witness_AttnTakeAndReleaseMoveTheServiceLevel :
    let qualifies (i : Fin 14) : Prop := flagged.attention.sources[i].flag = true ∧
      flagged.attention.sources[i].enable = true ∧
      flagged.attention.stack.headD 0 < flagged.attention.sources[i].level
    Ready flagged ∧ (qualifies 5 ∧ ∀ j : Fin 14, qualifies j →
      flagged.attention.sources[j].level < flagged.attention.sources[(5 : Fin 14)].level ∨
        flagged.attention.sources[j].level = flagged.attention.sources[(5 : Fin 14)].level ∧ (5 : Fin 14) ≤ j) ∧
    flagged.attention.stack = 1 :: [] ∧ State.reset.attention.stack = [] ∧
    ∀ i : Fin 14, State.reset.attention.sources[i].flag = false := by decide +kernel

/-! #### Witnesses: The library -/

def bothHeads (id : Word) (s : State) : State := headIs .zero (.foreignModule (some id)) (headIs .one (.foreignModule (some id)) s)

/-- Arm 0 fetches tip 12. -/
def namedTip (s : State) : State := s.setChange .zero { Change.reset with state := .fetchOpen, target := some 12 }

theorem vacantElsewhere {s : State} (i : Fin 64) (p : Fin 20) (id : Word)
    (h : ∀ j : Fin 64, activeAll (fun u => decide (j ≠ i → u.moduleId ≠ id ∧ u.home ≠ p)) s.library.tips[j] = true)
    (j : Fin 64) (u : Tip) (n : j ≠ i) (e : s.library.tips[j] = .active u) : u.moduleId ≠ id ∧ u.home ≠ p :=
  actives (fun j u => j ≠ i → u.moduleId ≠ id ∧ u.home ≠ p) h j u e n

/-- The refusals; then a VACANT slot, with a FOREIGN head and without one; then tip 12 with the ID and home pocket it has,
with another home pocket, and MISSING with the ID of the FOREIGN head of arm 1. -/
theorem witness_TipWriteFollowsItsRules :
    (Ready State.reset ∧ 63 < (64 : Byte).toNat ∧ 3 < (4 : Byte).toNat ∧ 19 < (20 : Byte).toNat ∧
      (63 : Byte).toNat = (63 : Fin 64).val ∧ (19 : Byte).toNat = (19 : Fin 20).val ∧ (3 : Byte).toNat ≤ 3) ∧
    ((State.reset.setTip 63 (.retired (tip .inPocket))).library.tips[(63 : Fin 64)] = .retired (tip .inPocket) ∧
      (State.reset.pocket 19).state = .vacant ∧ State.reset.library.tips[(63 : Fin 64)] = .vacant) ∧
    (let s := enabled (withTip .inPocket State.reset)
     Ready s ∧ (s.pocket 9).state ≠ .vacant ∧ s.library.tips[(30 : Fin 64)] = .vacant ∧ (12 : Fin 64) ≠ 30 ∧
       s.library.tips[(12 : Fin 64)] = .active (tip .inPocket) ∧ (tip .inPocket).home = 9) ∧
    (let s := bothHeads 8 (enabled State.reset)
     Ready s ∧ s.oneArm = false ∧ ((s.head .zero).state = .foreignModule (some 8) ∧
       (s.head .one).state = .foreignModule (some 8)) ∧ (s.pocket 9).state ≠ .vacant) ∧
    (let s := enabled (withTip (.onArm .zero) State.reset)
     s.library.tips[(12 : Fin 64)] = .active (tip (.onArm .zero)) ∧ (8 : Word) ≠ 7 ∧
       (tip (.onArm .zero)).location ≠ .inPocket ∧ (tip (.onArm .zero)).location ≠ .missing ∧
       (namedTip (enabled (withTip .missing State.reset))).tipNamed 12 = true) ∧
    (let s := bothHeads 8 (enabled (withTip .missing State.reset))
     s.library.tips[(12 : Fin 64)] = .active (tip .missing) ∧ s.tipNamed 12 = false ∧ (8 : Word) ≠ (tip .missing).moduleId) ∧
    (let s := headIs .one (.foreignModule (some 8)) (enabled State.reset)
     Ready s ∧ (30 : Byte).toNat = (30 : Fin 64).val ∧ classArg 0 = some .ball ∧ (9 : Byte).toNat = (9 : Fin 20).val ∧
       s.library.tips[(30 : Fin 64)] = .vacant ∧ (s.pocket 9).state ≠ .vacant ∧
       (s.present .one = true ∧ (s.head .one).state = .foreignModule (some 8) ∧
         (s.head .zero).state ≠ .foreignModule (some 8)) ∧
       (s.head .one).state ≠ .foreignModule (some 9)) ∧
    (let s := headIs .one (.foreignModule (some 8)) (enabled (withTip .missing State.reset))
     (tip .missing).location = .missing ∧ s.tipNamed 12 = false ∧ (s.head .one).state = .foreignModule (some 8) ∧
       s.present .one = true ∧ (s.head .zero).state ≠ .foreignModule (some 8)) := by decide +kernel

/-- No other record has ID 8 or home pocket 9. -/
theorem witness_TipWriteFollowsItsRules_noOther (j : Fin 64) (u : Tip) (n : j ≠ 12)
    (e : (headIs .one (.foreignModule (some 8)) (enabled (withTip .missing State.reset))).library.tips[j] = .active u) :
    u.moduleId ≠ 8 ∧ u.home ≠ 9 := vacantElsewhere 12 9 8 (by decide +kernel) j u n e

/-- An absent arm, a slot that is not ACTIVE, a tip in transit, one in its pocket with its entry for arm 0 only, an EMPTY
head group and a LIVE one. -/
theorem witness_TipEntriesAreStoredAndDeleted :
    (Ready oneArmed ∧ (12 : Byte).toNat = (12 : Fin 64).val ∧ (1 : Byte).toNat = Side.one.toNat ∧ (1 : Byte).toNat ≤ 1 ∧
      oneArmed.present .one = false) ∧
    (Ready State.reset ∧ State.reset.present .one = true ∧ State.reset.library.tips[(12 : Fin 64)] = .vacant) ∧
    (withTip (.inTransit .one) State.reset).library.tips[(12 : Fin 64)] = .active (tip (.inTransit .one)) ∧
    (let s := withTip .inPocket State.reset
     Ready s ∧ s.library.tips[(12 : Fin 64)] = .active (tip .inPocket) ∧
       s.scanner.groups.head.zero.state = .empty ∧ (tip .inPocket).entries.zero ≠ none ∧
       (tip .inPocket).entries.one = none ∧ (s.change .zero).state = .idle) ∧
    (let s := withTip .inPocket State.reset
     let t := s.setGroups { s.scanner.groups with head := .both { state := .live 21000, contributors := 1 } }
     Ready t ∧ t.scanner.groups.head.zero.state ≠ .empty) ∧
    (namedTip (withTip .inPocket State.reset)).change .zero = { Change.reset with state := .fetchOpen, target := some 12 } := by
  decide +kernel

/-- Slots of each kind; a pattern with nothing given and one that gives the state VACANT alone; a tip on arm 0, one that a
change names, and one that may be retired. -/
theorem witness_TipsAreReadFoundRetiredAndPurged :
    Ready State.reset ∧ (63 : Byte).toNat = (63 : Fin 64).val ∧ State.reset.library.tips[(63 : Fin 64)] = .vacant ∧
    (withTip .inPocket State.reset).library.tips[(12 : Fin 64)] = .active (tip .inPocket) ∧
    (State.reset.setTip 12 (.retired (tip .missing))).library.tips[(12 : Fin 64)] = .retired (tip .missing) ∧
    (patternArg 0xFF 0xFF 0xFF 0xFF 0xFF 0xFF 0xFF).isSome = true ∧ (patternArg 0 0xFF 0xFF 0xFF 0xFF 0xFF 0xFF).isSome = true ∧
    (optionalArg tipArg 63).isSome = true ∧ optionalArg tipArg 0xFF = some none ∧ State.reset.oneArm = false ∧
    (withTip (.onArm .zero) State.reset).library.tips[(12 : Fin 64)] = .active (tip (.onArm .zero)) ∧
    (namedTip (withTip .inPocket State.reset)).tipNamed 12 = true ∧ (withTip .inPocket State.reset).tipNamed 12 = false := by
  decide +kernel

/-- The slot VACANT, and the tip in each location a report takes it from. -/
theorem witness_ChangeReportsMoveTheTip :
    Ready State.reset ∧ State.reset.present .one = true ∧ State.reset.library.tips[(12 : Fin 64)] = .vacant ∧
    (withTip (.onArm .one) State.reset).library.tips[(12 : Fin 64)] = .active (tip (.onArm .one)) ∧
    (withTip .inPocket State.reset).library.tips[(12 : Fin 64)] = .active (tip .inPocket) ∧
    (withTip (.inTransit .one) State.reset).library.tips[(12 : Fin 64)] = .active (tip (.inTransit .one)) ∧
    (∀ j : Fin 64, onArm .one (withTip (.inTransit .one) State.reset).library.tips[j] = false) ∧
    (headIs .one .empty (withTip (.inTransit .one) State.reset)).library.tips[(12 : Fin 64)] =
      .active (tip (.inTransit .one)) := by decide +kernel

/-- No record carries the ID; the one record that carries it in each location; no tip on the arm and one; a claim with no
head and with the head of arm 1. -/
theorem witness_IdentitiesAreReportedAndClaimed :
    (Ready State.reset ∧ State.reset.present .zero = true ∧
      ∀ j : Fin 64, activeAll (fun v => decide (v.moduleId ≠ 8)) (withTip .inPocket State.reset).library.tips[j] = true) ∧
    (∀ loc ∈ [Location.onArm .one, .inTransit .one, .onArm .zero, .inTransit .zero, .inPocket, .missing],
      let s := withTip loc State.reset
      s.library.tips[(12 : Fin 64)] = .active (tip loc) ∧ (tip loc).moduleId = 7 ∧
        ∀ j : Fin 64, activeAll (fun v => decide (v.moduleId = 7 → j = 12)) s.library.tips[j] = true) ∧
    (∀ j : Fin 64, onArm .zero (withTip .inPocket State.reset).library.tips[j] = false) ∧
    (State.reset.head .zero).state ≠ .foreignModule (some 7) ∧ (State.reset.head .one).state ≠ .foreignModule (some 7) ∧
    let s := headIs .one (.foreignModule (some 7)) State.reset
    s.powered = true ∧ s.present .one = true ∧ (s.head .one).state = .foreignModule (some 7) ∧
      (s.head .zero).state ≠ .foreignModule (some 7) := by decide +kernel

/-- No record at home in the pocket; the one record at home there in its pocket, so that a module is expected; and MISSING. -/
theorem witness_HomePocketReports :
    (let s := enabled State.reset
     s.powered = true ∧ (s.pocket 9).state ≠ .vacant ∧ s.expected 9 = false ∧
       ∀ j : Fin 64, activeAll (fun v => decide (v.home ≠ 9)) s.library.tips[j] = true) ∧
    (∀ loc ∈ [Location.inPocket, .missing],
      let s := enabled (withTip loc State.reset)
      s.powered = true ∧ (s.pocket 9).state ≠ .vacant ∧ s.library.tips[(12 : Fin 64)] = .active (tip loc) ∧
        (tip loc).home = 9 ∧ ∀ j : Fin 64, activeAll (fun v => decide (v.home = 9 → j = 12)) s.library.tips[j] = true) ∧
    (enabled (withTip .inPocket State.reset)).expected 9 = true := by decide +kernel

theorem witness_LibraryLawIsKept :
    let s := withTip (.onArm .zero) { State.reset with pending := [.moduleLost .zero] }
    LibraryLaw s ∧ step s = .next (after (.moduleLost .zero) (withTip (.onArm .zero) State.reset)) :=
  ⟨lone_lawful 12 (by decide +kernel), rfl⟩

/-! #### Witnesses: The axes -/

def axisAt (count : Int) (st : AxisState) (d : Direction) : State :=
  State.reset.setAxis .zero .x { count := count, state := st, direction := d, s0 := 0, phase := some .p0 }

/-- No phase yet; an axis in FAULT; counting up to the limit and down to it, REFERENCED and not; and at both limits one
step more, in both directions. -/
theorem witness_PhasesAreCountedOrFault :
    (let s := after .restart State.reset
     Ready s ∧ s.present .zero = true ∧ (s.axis .zero .x).phase = none) ∧
    ((axisAt 0 (.fault .overrange) .normal).axis .zero .x).state = .fault .overrange ∧
    (Ready (homed .zero State.reset) ∧ ((homed .zero State.reset).axis .zero .x).phase = some .p0 ∧
      (homed .zero State.reset).referenced .zero = true ∧ State.reset.referenced .zero = false ∧
      (free .zero (homed .zero State.reset)).zones.hold.zero.causes = Causes.none) ∧
    (∀ d ∈ [Direction.normal, .reversed], ∀ n ∈ [2147483647, -2147483647, 2147483646, -2147483646],
      let s := axisAt n .unreferenced d
      Ready s ∧ s.present .zero = true ∧ (s.axis .zero .x).phase = some .p0 ∧
        (s.axis .zero .x).state = .unreferenced ∧ (s.axis .zero .x).count = n ∧ (s.axis .zero .x).direction = d) ∧
    (2147483646 + 1 : Int) ≤ 2147483647 ∧ -2147483647 ≤ (-2147483646 - 1 : Int) := by decide +kernel

theorem witness_ReferenceSearchSetsTheCount :
    (Ready State.reset ∧ State.reset.present .one = true ∧ (1 : Byte).toNat = Side.one.toNat ∧
      (2 : Byte).toNat = Axis.z.toNat ∧ State.reset.referenced .one = false) ∧
    (homed .one State.reset).referenced .one = true ∧
    (State.reset.axis .one .z).state = .unreferenced ∧
    (let s := (homed .zero State.reset).setAxis .zero .x { AxisRecord.reset with state := .seeking 2147483647 }
     Ready s ∧ (s.axis .zero .x).state = .seeking 2147483647 ∧ (s.axis .zero .y).state = .referenced ∧
       (s.axis .zero .z).state = .referenced) ∧
    (axisAt 0 (.seeking 0) .normal).axis .zero .y = AxisRecord.reset := by decide +kernel

/-- A direction of 2; an origin of -2,147,483,648 for a REFERENCED arm, and the origin it has. -/
theorem witness_ArmSetupIsStored :
    (Ready State.reset ∧ State.reset.present .zero = true ∧ (0 : Byte).toNat = Side.zero.toNat ∧
      1 < ((Axes.all 2 : Axes Byte).get .x).toNat ∧ ((Axes.all 1 : Axes Byte).get .x).toNat ≤ 1) ∧
    (homed .zero State.reset).referenced .zero = true ∧ (0x80000000 : Word).toInt = -2147483648 ∧
    (-2147483647 : Int) ≠ (homed .zero State.reset).arms.zero.origin.x ∧
    max (-2147483647) (0 : Word).toInt = (homed .zero State.reset).arms.zero.origin.x := by decide +kernel

/-! #### Witnesses: The scanner -/

/-- Four sensors of string 1 are bound to the head group of arm 0. -/
def crowded : State :=
  let r := some { sensor with binding := some (.head .zero) }
  (((State.reset.setSensor .one 0 r).setSensor .one 1 r).setSensor .one 2 r).setSensor .one 15 r

def withSensor (st : SensorState) : State := State.reset.setSensor .zero 5 (some { sensor with state := st })

theorem witness_SensorRecordsAreWrittenRetiredAndRead :
    (Ready State.reset ∧ (0 : Byte).toNat = Side.zero.toNat ∧ (15 : Byte).toNat = (15 : Fin 16).val ∧
      groupArg 0xFF = some none ∧ groupArg 6 = some (some (.head .zero)) ∧ groupArg 7 = some (some (.head .one)) ∧
      groupArg 5 = some (some (.scale .one .z))) ∧
    (Ready oneArmed ∧ oneArmed.oneArm = true) ∧
    (Ready crowded ∧ crowded.sensor .zero 15 = none ∧ 4 ≤
      ((List.finRange 16).countP fun j =>
          (crowded.sensor .zero j).any fun r => r.binding == some (.head .zero) && r.state != .retired) +
        ((List.finRange 16).countP fun j =>
          (crowded.sensor .one j).any fun r => r.binding == some (.head .zero) && r.state != .retired)) ∧
    (withSensor .retired).sensor .zero 5 = some { sensor with state := .retired } ∧
    ((withSensor .active).sensor .zero 5 = some sensor ∧ sensor.state ≠ .retired ∧ sensor.trim = 0 ∧
      (withSensor .active).string .zero = StringControl.reset) ∧
    1 < (2 : Byte).toNat := by decide +kernel

/-- The reading of sensor 5 of string 0, with other fields of its record and of the transaction. -/
def readingOf (r : Sensor) (stale : Bool) : State :=
  (reading.setSensor .zero 5 (some r)).setString .zero
    { reading.string .zero with transaction := some ⟨5, .sweep, stale⟩ }

def setBits (code : BitVec 16) (ready parity : Bool) : Nat :=
  ((List.range 16).countP fun i => code.getLsbD i) + ready.toNat + parity.toNat

/-- A stale transaction, a RETIRED record, a registered one; replies with odd parity, not ready, below 0, above 50,000 mK and
at 50,000; and records whose window makes them FAILED, keeps them ACTIVE, makes them ACTIVE again and keeps them FAILED. -/
theorem witness_SweepReadingsAreJudged :
    (let s := readingOf sensor true
     s.powered = true ∧ (s.string .zero).transaction = some ⟨5, .sweep, true⟩) ∧
    ((readingOf { sensor with state := .retired } false).sensor .zero 5 = some { sensor with state := .retired }) ∧
    ((readingOf sensor false).sensor .zero 5 = some sensor ∧
      (readingOf sensor false).string .zero = { reading.string .zero with transaction := some ⟨5, .sweep, false⟩ } ∧
      sensor.state = .active) ∧
    (setBits 1600 true true % 2 = 1 ∧ setBits 1600 false true % 2 = 0 ∧ setBits (-1) true true % 2 = 0 ∧
      setBits 3201 true true % 2 = 0 ∧ setBits 3200 true false % 2 = 0 ∧ setBits 0 true true % 2 = 0) ∧
    (roundDiv ((-1 : BitVec 16).toInt * 125) 8 + 0 < 0 ∧ 50000 < roundDiv ((3201 : BitVec 16).toInt * 125) 8 + 0 ∧
      roundDiv ((3200 : BitVec 16).toInt * 125) 8 + 0 = 50000 ∧ roundDiv ((0 : BitVec 16).toInt * 125) 8 + 0 = 0) ∧
    ((reading.string .zero).windowLength = 8 ∧ (reading.string .zero).faultCount = 3 ∧
      3 ≤ ([.bad, .bad, .bad] : List Judged).countP (· == .bad) ∧
      ([.bad, .bad, .good] : List Judged).countP (· == .bad) < 3 ∧
      (List.replicate 8 Judged.good).length = 8 ∧ (List.replicate 7 Judged.good).length ≠ 8) := by decide +kernel

/-- The pass goes on to sensor 15, or ends, with a check that waits and without; FRZ active and the limit of RESTART. -/
theorem witness_SweepReadingsAreJudged_next :
    (let s := reading.setSensor .zero 15 (some sensor)
     (s.string .zero).pass = .reading (some 5) ∧ s.sensor .zero 15 = some sensor ∧ sensor.state ≠ .retired ∧
       (∀ i : Fin 16, 5 < i → i < 15 → s.sensor .zero i = none) ∧ s.frz = false ∧ (s.string .zero).limit = false) ∧
    (let s := reading.setString .zero
       { reading.string .zero with check := { LineCheck.reset with state := .running, requested := 1 } }
     (s.string .zero).pass = .reading (some 5) ∧ (s.string .zero).check.state = .running ∧
       ∀ i : Fin 16, 5 < i → s.sensor .zero i = none) ∧
    (reading.string .zero).check.state ≠ .running ∧ ({ reading with frz := true } : State).frz = true ∧
    ((reading.setString .zero { reading.string .zero with limit := true }).string .zero).limit = true := by decide +kernel

def checking (address : Fin 16) (completed requested : Nat) : State :=
  State.reset.setString .one { StringControl.reset with
    transaction := some ⟨address, .lineCheck, false⟩
    check := { LineCheck.reset with state := .running, completed := completed, requested := requested, next := address } }

/-- A check that runs; none, with the string free and with a sweep's transaction in flight; the reading of an address before
the last, of the last with a pass to come, and of the last in the last pass, with and without a failed pass. -/
theorem witness_LineChecksReadEveryAddress :
    (Ready (checking 0 0 1) ∧ (1 : Byte).toNat = Side.one.toNat ∧ ((checking 0 0 1).string .one).check.state = .running) ∧
    ((State.reset.string .one).check.state ≠ .running ∧ (State.reset.string .one).transaction = none ∧
      State.reset.frz = false ∧ (State.reset.string .one).limit = false) ∧
    ((reading.string .zero).check.state ≠ .running ∧ (reading.string .zero).transaction = some ⟨5, .sweep, false⟩) ∧
    ((checking 14 0 1).powered = true ∧ ((checking 14 0 1).string .one).transaction = some ⟨14, .lineCheck, false⟩ ∧
      (14 : Fin 16).val < 15 ∧ (15 : Fin 16).val = 15 ∧ ((checking 15 0 2).string .one).check.completed + 1 < 2 ∧
      1 ≤ ((checking 15 0 1).string .one).check.completed + 1) ∧
    ((∀ j : Fin 16, LineCheck.reset.failedPasses[j] = 0) ∧
      ∃ j : Fin 16, (upd LineCheck.reset.failedPasses 3 1)[j] ≠ 0) := by decide +kernel

def scanning (st : ScanState) (m : ScanMode) : State :=
  { withSensor .active with scanner := { (withSensor .active).scanner with state := st, mode := m, timer := some 500 } }

/-- Each scan state; sensor 5, with none registered below it; no sensor at all; a running and a stopped timer. -/
theorem witness_ScanFollowsItsTable :
    (scanModeArg 0 = some .continuous ∧ scanModeArg 1 = some .single ∧ scanModeArg 2 = some .stop ∧ (1 : Byte).toNat ≤ 1) ∧
    (∀ st ∈ [ScanState.stopped, .waiting, .sweeping, .stopping],
      let s := scanning st .continuous
      Ready s ∧ s.scanner.state = st ∧ s.scanner.mode = .continuous ∧ s.scanner.timer ≠ none ∧ s.frz = false ∧
        (s.string .zero).check.state ≠ .running ∧ (s.string .zero).transaction = none ∧
        (s.string .zero).limit = false ∧ s.sensor .zero 5 = some sensor ∧ sensor.state ≠ .retired ∧
        ∀ j < (5 : Fin 16), s.sensor .zero j = none) ∧
    ((State.reset.string .zero).pass = .ended ∧ (State.reset.string .one).transaction = none ∧
      (∀ i : Fin 16, State.reset.sensor .zero i = none ∧ State.reset.sensor .one i = none) ∧
      State.reset.scanner.state = .stopped ∧ State.reset.scanner.timer = none) ∧
    frozenPart.frz = true := by decide +kernel

/-- A transaction in flight; a pass that waits with its first address and with the next one; a check that waits; and the same
under the limit after RESTART. -/
theorem witness_FrzAndTheRestartLimitHoldTransactions :
    ((reading.string .zero).transaction = some ⟨5, .sweep, false⟩ ∧ reading.powered = true) ∧
    (frozen.powered = true ∧ (frozen.string .zero).transaction = none ∧ (frozen.string .zero).limit = false ∧
      (frozen.string .zero).pass = .reading none ∧ frozen.sensor .zero 5 = some sensor ∧
      ∀ j < (5 : Fin 16), frozen.sensor .zero j = none) ∧
    (let s := (frozen.setSensor .zero 15 (some sensor)).setString .zero { frozen.string .zero with pass := .reading (some 5) }
     (s.string .zero).pass = .reading (some 5) ∧ s.sensor .zero 15 = some sensor ∧ (5 : Fin 16) < 15 ∧
       ∀ j < (15 : Fin 16), 5 < j → s.sensor .zero j = none) ∧
    (let s := (checking 7 0 1).setString .one { (checking 7 0 1).string .one with transaction := none, limit := true }
     s.powered = true ∧ (s.string .one).transaction = none ∧ s.frz = false ∧ (s.string .one).pass = .ended ∧
       (s.string .one).check.state = .running) ∧
    (let s := { frozen with frz := false }.setString .zero { frozen.string .zero with limit := true }
     s.powered = true ∧ (s.string .zero).transaction = none ∧ s.frz = false ∧ (s.string .zero).limit = true ∧
       (s.string .zero).pass = .reading none) ∧
    ((after .frzActive reading).frz = true ∧ ((after .frzActive reading).string .zero).transaction =
      some ⟨5, .sweep, false⟩) := by decide +kernel

theorem witness_FrzAndTheRestartLimitHoldTransactions_step :
    exec .frzActive reading = .next (after .frzActive reading) := rfl

theorem witness_HeldGroupsAgeAndBecomeStale :
    let s (age : Nat) := workpieceAt (.held 20000 age) State.reset
    ((s 599).powered = true ∧ (s 599).scanner.groups.workpiece.state = .held 20000 599 ∧
      599 < (s 599).scanner.holdLimit) ∧
    (s 600).scanner.groups.workpiece.state = .held 20000 600 ∧ (s 600).scanner.holdLimit ≤ 600 ∧
    (State.reset.powered = true ∧ State.reset.scanner.ageing = []) ∧
    ((ageing 65535).powered = true ∧ (ageing 65535).scanner.ageing = [.workpiece] :: [[.head .zero]] ∧
      TempGroup.workpiece ∈ [TempGroup.workpiece] ∧ TempGroup.head .zero ∉ [TempGroup.workpiece]) := by decide +kernel

/-! #### Witnesses: Groups and factors -/

theorem witness_FactorsAreFormedFromGroups :
    (0 : Int) < 1 ∧ GroupState.empty = .empty ∧ (GroupState.live 40001).value = some 40001 ∧
    (GroupState.held (-1) 5).value = some (-1) ∧ (20000 : Int) < 40001 - 20000 ∧ (-1 : Int) - 20000 < -20000 ∧
    (0 : Int) ≤ 0 ∧ (5000 : Int) ≤ 5000 := by decide

/-- The reading of sensor 5, the last of string 0, ends the sweep; tip 12 has a QUALIFIED entry 2,001 mK off its head's
temperature, and one 2,000 mK off it. -/
theorem witness_SweepEndFormsTheGroups :
    (reading.powered = true ∧ reading.scanner.state = .sweeping ∧ reading.scanner.mode = .continuous ∧
      (reading.string .zero).transaction = some ⟨5, .sweep, false⟩ ∧ (reading.string .zero).pass = .reading (some 5) ∧
      (∀ j : Fin 16, 5 < j → reading.sensor .zero j = none) ∧ (reading.string .one).pass = .ended) ∧
    ({ reading with scanner := { reading.scanner with state := .stopping, mode := .stop } } : State).scanner.state =
      .stopping ∧
    (State.reset.present .zero = true ∧ State.reset.library.driftWindow = 2000 ∧ entry.state = .qualified ∧
      2000 < |entry.temperature - 22001| ∧ ¬ 2000 < |entry.temperature - 22000|) := by decide +kernel

theorem witness_CompSetupStoresAndRecomputes : Ready (homed .zero State.reset) := by decide +kernel

theorem homed_lengths : CountLaw (homed .zero { State.reset with pending := [.groupRead] }) :=
  fun a i => by
    cases a <;> cases i <;>
      exact ⟨⟨⟨by decide, by decide⟩, ⟨by decide, by decide⟩, nofun⟩, ⟨by decide, by decide⟩⟩

theorem homed_factors : FactorLaw (homed .zero { State.reset with pending := [.groupRead] }) :=
  ⟨arms (axes (by decide) (by decide) (by decide)) (axes (by decide) (by decide) (by decide)), by decide, by decide, rfl⟩

theorem homed_ages : AgeLaw (homed .zero { State.reset with pending := [.groupRead] }) :=
  ⟨fun g => by
     match g with
     | .workpiece => exact ⟨nofun, fun ⟨_, _, h⟩ => h.elim nofun nofun⟩
     | .scale a i => cases a <;> cases i <;> exact ⟨nofun, fun ⟨_, _, h⟩ => h.elim nofun nofun⟩
     | .head a => cases a <;> exact ⟨nofun, fun ⟨_, _, h⟩ => h.elim nofun nofun⟩,
   by decide, by decide⟩

theorem witness_LengthsAndFactorsInForceAreKept :
    let s := homed .zero { State.reset with pending := [.groupRead] }
    CountLaw s ∧ FactorLaw s ∧ AgeLaw s ∧ step s = .next (after .groupRead (homed .zero State.reset)) :=
  ⟨homed_lengths, homed_factors, homed_ages, rfl⟩

/-- AgeLaw where a group ages. -/
theorem witness_AgeLaw_held : AgeLaw ((workpieceAt (.held 20000 599) State.reset).setAgeing [[.workpiece]]) :=
  ⟨fun g => by
     match g with
     | .workpiece => exact ⟨fun _ => ⟨_, _, .inl rfl⟩, fun _ => by decide⟩
     | .scale a i => cases a <;> cases i <;> exact ⟨fun h => absurd h (by decide), fun ⟨_, _, h⟩ => h.elim nofun nofun⟩
     | .head a => cases a <;> exact ⟨fun h => absurd h (by decide), fun ⟨_, _, h⟩ => h.elim nofun nofun⟩,
   by decide, by decide⟩

/-! #### Witnesses: Points -/

theorem worked_mounted : Mounted workedCase .zero (some 12) := mounted_of (by decide +kernel)

theorem worked_entry : EntryUsed workedCase .zero (some 12) (some workedEntry) :=
  entry_of (i := 12) (t := workedTip) rfl

theorem reset_mounted (a : Arm) : Mounted State.reset a none := by cases a <;> exact mounted_of (by decide +kernel)

/-- An absent arm, a BLIND one, and the worked case of section 5.8 with and without a request. -/
theorem witness_PointsAreComputed :
    ((Ready oneArmed ∧ (1 : Byte).toNat = Side.one.toNat ∧ oneArmed.present .one = false) ∧
      State.reset.present .zero = true ∧ (State.reset.axis .zero .x).state ≠ .referenced ∧
      (Ready workedCase ∧ workedCase.present .zero = true ∧ (workedCase.axis .zero .x).state = .referenced ∧
        (workedCase.axis .zero .y).state = .referenced ∧ (workedCase.axis .zero .z).state = .referenced) ∧
      workedCase.touch.zero.requests = [] ∧
      (workedCase.setTouch .zero { TouchRecord.reset with requests := [raw] }).touch.zero.requests = raw :: []) ∧
    Mounted workedCase .zero (some 12) ∧ EntryUsed workedCase .zero (some 12) (some workedEntry) ∧
    Mounted State.reset .one none ∧ EntryUsed State.reset .one none none :=
  ⟨by decide +kernel, worked_mounted, worked_entry, reset_mounted _, entry_none _ _⟩

def nearBox : Box := ⟨⟨0, 0, 0⟩, ⟨44501662, 7500267, 6599872⟩⟩

/-- The reference point of the worked case lies on the corner of the box, and outside the box 5 lu and more away. -/
theorem worked_inside (k : ZoneKind) : Inside ⟨false, k, nearBox, 0⟩ ⟨⟨44501662, 7500267, 6599872⟩, noMarks, none⟩ :=
  .inl (axes (by simp [nearBox, Axes.get]) (by simp [nearBox, Axes.get]) (by simp [nearBox, Axes.get]))

theorem worked_outside (k : ZoneKind) : ¬ Inside ⟨false, k, unitBox, 5⟩ ⟨⟨44501662, 7500267, 6599872⟩, noMarks, none⟩ := by
  rintro (h | ⟨t, e, _⟩)
  · have := h .x; simp [unitBox, Axes.get] at this
  · cases e

/-- No formation due; due for a BLIND arm; due for the worked case, with a zone of each kind of the statement. -/
theorem witness_CheckPointsAreFormedAndJudged :
    (Ready State.reset ∧ State.reset.present .zero = true ∧ State.reset.comp.formationDue.zero = []) ∧
    ((State.reset.askFormation .zero).comp.formationDue.zero = [.motion] ∧
      ((State.reset.askFormation .zero).axis .zero .x).state ≠ .referenced) ∧
    (workedCase.comp.formationDue.zero = [.motion] ∧ (workedCase.axis .zero .x).state = .referenced) ∧
    (∀ k ∈ [ZoneKind.forbidden, .privateTo .one, .shared (some .one), .shared none, .shared (some .zero)],
      let s := workedCase.setZone 3 (some ⟨false, k, nearBox, 0⟩)
      Ready s ∧ s.zone 3 = some ⟨false, k, nearBox, 0⟩ ∧ s.zones.hold.zero.permit[(3 : Fin 16)] = false ∧
        s.zones.hold.zero.violated[(3 : Fin 16)] = false) ∧
    (standing .one (homed .one workedCase)).referenced .one = true ∧
    (standing .one (homed .one workedCase)).zones.hold.one.points = some ⟨.all 0, noMarks, none⟩ ∧
    State.reset.referenced .one = false ∧ (free .zero workedCase).zones.hold.zero.causes = Causes.none := by decide +kernel

/-- The worked case with zone 3 as RACK zone, around the reference point or not, and the rack granted to arm 0, which was
inside or not, at rest or on its way to pocket 9. -/
def atRack (near was ended : Bool) (st : ChangeState) : State :=
  let s := workedCase.setZone 3 (some ⟨false, .rack, if near then nearBox else unitBox, 0⟩)
  let s := s.setHold .zero { s.zones.hold.zero with inside := upd s.zones.hold.zero.inside 3 was }
  let s := (s.setArbiter (.granted .zero true was ended)).setChange .zero { Change.reset with state := st, current := some 9 }
  { s with zones := { s.zones with grantee := some .zero } }

theorem witness_CheckPointsAreFormedAndJudged_rack :
    ∀ near ∈ [true, false], ∀ was ∈ [true, false], ∀ ended ∈ [true, false],
      ∀ st ∈ [ChangeState.idle, .stowApproach, .fetchApproach],
      let s := atRack near was ended st
      Ready s ∧ s.present .zero = true ∧ s.comp.formationDue.zero = [.motion] ∧ s.zones.grantee = some .zero ∧
        s.zone 3 = some ⟨false, .rack, if near then nearBox else unitBox, 0⟩ ∧ (∀ z : Fin 16, z ≠ 3 → s.zone z = none) ∧
        s.rack.arbiter = .granted .zero true was ended ∧ s.zones.hold.zero.inside[(3 : Fin 16)] = was ∧
        (s.change .zero).state = st ∧ (s.change .zero).stowClose = false ∧ (s.change .zero).current = some 9 ∧
        (s.pocket 9).dock.zero = none ∧ s.rack.queue = [] ∧ ∀ p : Fin 20, (s.pocket p).drive = false := by decide +kernel

/-! #### Witnesses: The touch unit -/

theorem witness_ProbeArmSetsTheFlag :
    (Ready State.reset ∧ (0 : Byte).toNat = Side.zero.toNat ∧ State.reset.present .zero = true ∧ 1 < (2 : Byte).toNat ∧
      State.reset.zones.hold.zero.causes ≠ Causes.none) ∧
    ((namedTip (free .zero State.reset)).change .zero).state ≠ .idle ∧
    (free .zero State.reset).zones.hold.zero.causes = Causes.none ∧ ((free .zero State.reset).change .zero).state = .idle := by
  decide +kernel

/-- The worked case with its trigger QUALIFYING; `armed` and the head state are varied. -/
def judging (armed : Bool) (st : HeadState) (s : State) : State :=
  (headIs .zero st s).setTouch .zero { TouchRecord.reset with armed := armed, input := true, trigger := .qualifying raw 20 20 }

theorem witness_TriggersAreQualifiedAndJudged :
    (Ready State.reset ∧ State.reset.present .zero = true ∧ State.reset.touch.zero.input = false ∧
      State.reset.touch.zero.trigger = .idle) ∧
    (qualifying.touch.zero.input = true ∧ qualifying.touch.zero.trigger = .qualifying ⟨1, 2, 3⟩ 20 7) ∧
    ((State.reset.setTouch .zero { TouchRecord.reset with input := true, trigger := .waitRelease }).touch.zero =
      { TouchRecord.reset with input := true, trigger := .waitRelease }) ∧
    ((judging false .tip (namedTip workedCase)).change .zero).state ≠ .idle ∧
    ((judging false .tip workedCase).touch.zero.armed = false ∧ ((judging false .tip workedCase).change .zero).state = .idle) ∧
    ((judging true .tip State.reset).axis .zero .x).state ≠ .referenced ∧
    ((judging true .identifying workedCase).head .zero).state ≠ .tip ∧
    (let s := judging true .tip workedCase
     Ready s ∧ s.touch.zero.armed = true ∧ (s.head .zero).state = .tip ∧ (s.axis .zero .x).state = .referenced ∧
       (s.axis .zero .y).state = .referenced ∧ (s.axis .zero .z).state = .referenced) := by decide +kernel

/-- The tip of the judged cases: with an entry, and none at all. -/
theorem witness_TriggersAreQualifiedAndJudged_tip :
    Mounted (judging true .tip workedCase) .zero (some 12) ∧
    EntryUsed (judging true .tip workedCase) .zero (some 12) (some workedEntry) ∧
    Mounted (judging true .tip (homed .zero State.reset)) .zero none ∧
    EntryUsed (judging true .tip (homed .zero State.reset)) .zero none none ∧
    ((judging true .tip (homed .zero State.reset)).head .zero).allowUnqualified = false :=
  ⟨mounted_of (by decide +kernel), entry_of (i := 12) (t := workedTip) rfl, mounted_of (by decide +kernel), entry_none _ _, by decide +kernel⟩

theorem witness_PointsAreNumberedPlacedAndTaken :
    (Ready State.reset ∧ State.reset.present .zero = true ∧ State.reset.touch.zero.returned = [] ∧
      State.reset.touch.zero.slot = none ∧ 1 < (2 : Byte).toNat ∧ (0 : Byte).toNat = Side.zero.toNat) ∧
    (Ready oneArmed ∧ oneArmed.present .one = false ∧ (1 : Byte).toNat = Side.one.toNat) ∧
    (∀ o ∈ [none, some returnedPoint],
      let s := State.reset.setTouch .zero { TouchRecord.reset with slot := o, nextNumber := 65535, returned := [returnedPoint] }
      Ready s ∧ s.touch.zero.returned = returnedPoint :: [] ∧ s.touch.zero.slot = o) := by decide +kernel

theorem witness_ProbingLawIsKept :
    let s := (free .zero { State.reset with pending := [.probeArm 0 1] })
    ProbingLaw s ∧ step s = .next (after (.probeArm 0 1) (free .zero State.reset)) :=
  ⟨arms nofun nofun, rfl⟩

/-! #### Witnesses: The rack -/

/-- The last change pocket report of arm 0. -/
def reporting (r : PocketReport) (s : State) : State :=
  { s with rack := { s.rack with reports := s.rack.reports.set .zero r } }

/-- A box of one point is legal, a maximum below its minimum is not; the pocket named by a report and by the tip a change
names; a sensed lid; a JAMMED lid; a pocket VACANT and OCCUPIED, and one that is not. -/
theorem witness_PocketsAreWrittenAndCleared :
    (Ready State.reset ∧ (19 : Byte).toNat = (19 : Fin 20).val ∧ (19 : Fin 20) ∉ (State.reset.change .zero).opened ∧
      (19 : Fin 20) ∉ (State.reset.change .one).opened) ∧
    (¬ ((3 : Byte) = 1 ∨ (3 : Byte) = 2) ∧ ((words (4, 4)).get .x).lo.toInt ≤ ((words (4, 4)).get .x).hi.toInt ∧
      ¬ ((words (5, 4)).get .x).lo.toInt ≤ ((words (5, 4)).get .x).hi.toInt) ∧
    (Ready oneArmed ∧ oneArmed.oneArm = true) ∧
    ((granted.report .zero).pocket = some 9 ∧ Ready granted) ∧
    (let s := namedTip (withTip .inPocket State.reset)
     s.tipNamed 12 = true ∧ s.library.tips[(12 : Fin 64)] = .active (tip .inPocket) ∧ (tip .inPocket).home = 9) ∧
    ((atPocket (fun r => { r with sense := true }) State.reset).pocket 9).sense = true ∧
    ((State.reset.report .zero).pocket ≠ some 9 ∧ (State.reset.report .one).pocket ≠ some 9 ∧
      State.reset.tipNamed 12 = false ∧ (State.reset.pocket 9).sense = false ∧ (State.reset.pocket 9).state = .vacant ∧
      ∀ j : Fin 64, State.reset.library.tips[j] = .vacant) ∧
    ((atPocket (fun r => { r with lid := .jammed, state := .disabled }) State.reset).pocket 9).lid = .jammed ∧
    ((atPocket (fun r => { r with occupied := true }) State.reset).pocket 9).occupied = true ∧
    (State.reset.pocket 9).occupied = false ∧
    (Ready (State.reset.setArbiter .lockedOut) ∧ (State.reset.setArbiter .lockedOut).rack.arbiter = .lockedOut ∧
      State.reset.rack.arbiter ≠ .lockedOut) := by decide +kernel

theorem tip_lawful (loc : Location) (f : Pocket → Pocket) : LibraryLaw (atPocket f (withTip loc State.reset)) :=
  lone_lawful 12 (by
    intro j
    change activeAll _ (withTip loc State.reset).library.tips[j] = true
    cases loc <;> try (rename_i a; cases a)
    all_goals (revert j; decide +kernel))

/-- The input differs from the observed occupancy, with the tip at home expected and observed, and absent; the same for a
restart comparison; a VACANT pocket and a suppressed one. -/
theorem witness_OccupancyIsComparedWithItsExpectation :
    (∀ input ∈ [true, false],
      ∀ loc ∈ [Location.inPocket, .missing],
      let s := atPocket (fun r => { r with state := .enabled, occupied := !input, occupancyInput := input,
                                           restartCompare := true }) (withTip loc State.reset)
      Ready s ∧ (s.change .zero).state = .idle ∧ (s.change .one).state = .idle ∧
        (s.pocket 9).occupancyInput ≠ (s.pocket 9).occupied ∧ (s.pocket 9).restartCompare = true ∧
        (s.pocket 9).state ≠ .vacant ∧ (s.report .zero).pocket ≠ some 9 ∧ (s.report .one).pocket ≠ some 9 ∧
        s.library.tips[(12 : Fin 64)] = .active (tip loc) ∧ (tip loc).home = 9) ∧
    ((State.reset.pocket 9).occupancyInput = (State.reset.pocket 9).occupied ∧
      (State.reset.pocket 9).restartCompare = false ∧ (State.reset.pocket 9).state = .vacant) ∧
    ((reporting ⟨some 9, true, false⟩ State.reset).report .zero).pocket = some 9 := by decide +kernel

theorem witness_OccupancyIsComparedWithItsExpectation_law :
    LibraryLaw (atPocket (fun r => { r with state := .enabled, occupancyInput := true }) (withTip .missing State.reset)) :=
  tip_lawful _ _

def lidAt (st : LidState) (sense input : Bool) (s : State) : State :=
  atPocket (fun r => { r with lid := st, sense := sense, senseInput := input,
                              timer := if st = .opening ∨ st = .closing then some 0 else none }) s

/-- Each lid state with each sense, with the grant and without; the debounced sense that changes either way; and the
timer. -/
theorem witness_LidsFollowTheirTables :
    (∀ st ∈ [LidState.closed, .opening, .opened, .closing, .jammed], ∀ sense ∈ [true, false],
      let s := lidAt st sense (!sense) granted
      Ready s ∧ s.present .zero = true ∧ (9 : Fin 20) ∉ (s.change .zero).opened ∧ (9 : Fin 20) ∉ (s.change .one).opened ∧
        (s.pocket 9).lid = st ∧ (s.pocket 9).sense = sense ∧ (s.pocket 9).senseInput = !sense ∧
        s.rack.arbiter = .granted .zero false false false ∧ (s.report .zero).pocket = some 9 ∧
        (s.pocket 9).state = .enabled ∧ s.frz = false ∧ ((s.pocket 9).timer ≠ none ↔ st = .opening ∨ st = .closing)) ∧
    (State.reset.rack.arbiter = .free ∧ (State.reset.pocket 9).lid ≠ .jammed ∧
      (State.reset.pocket 9).senseInput = (State.reset.pocket 9).sense ∧ (State.reset.pocket 9).timer = none ∧
      (State.reset.pocket 9).state = .vacant ∧ frozenPart.frz = true) := by decide +kernel

/-- A report that ends no suppression; one that ends that of pocket 9, observed EMPTY and OCCUPIED, expected and not; and
one of the grantee that leaves a driven lid. -/
theorem witness_PocketReportsAreKept :
    (Ready State.reset ∧ State.reset.present .zero = true ∧ (State.reset.change .zero).opened = [] ∧
      (State.reset.change .one).state = .idle ∧ (State.reset.report .zero).suppressed = false) ∧
    (∀ full ∈ [true, false], ∀ loc ∈ [Location.inPocket, .missing],
      let s := reporting ⟨some 9, true, false⟩
        (atPocket (fun r => { r with state := .enabled, occupied := full }) (withTip loc State.reset))
      Ready s ∧ (s.report .zero).pocket = some 9 ∧ (s.report .zero).suppressed = true ∧ (s.report .one).pocket = none ∧
        s.rack.arbiter = .free ∧ (s.pocket 9).state ≠ .vacant ∧ (s.pocket 9).occupied = full ∧
        s.library.tips[(12 : Fin 64)] = .active (tip loc)) ∧
    (∀ st ∈ [LidState.opening, .opened],
      let s := atPocket (fun r => { r with drive := true }) (lidAt st false false granted)
      Ready s ∧ s.rack.arbiter = .granted .zero false false false ∧ (s.report .zero).pocket = some 9 ∧
        (s.report .zero).suppressed = false ∧ (none : Option (Fin 20)) ≠ some 9 ∧ (s.pocket 9).drive = true ∧
        (s.pocket 9).lid = st ∧ (s.pocket 8).drive = false) := by decide +kernel

theorem witness_PocketReportsAreKept_law :
    LibraryLaw (reporting ⟨some 9, true, false⟩
      (atPocket (fun r => { r with state := .enabled }) (withTip .inPocket State.reset))) := lone_lawful 12 (by decide +kernel)

theorem calm_of {s : State} (q : s.quiet)
    (h : (s.change .zero).state = .idle ∧ (s.change .zero).opened = [] ∧ (s.change .one).state = .idle ∧
      (s.change .one).opened = [] ∧ (∀ p : Fin 20, (s.pocket p).drive = false) ∧
      ∀ z : Fin 16, s.zones.hold.zero.inside[z] = false ∧ s.zones.hold.one.inside[z] = false) : s.calm :=
  ⟨q, arms ⟨h.1, h.2.1⟩ ⟨h.2.2.1, h.2.2.2.1⟩, h.2.2.2.2.1, arms (fun z _ => (h.2.2.2.2.2 z).1) fun z _ => (h.2.2.2.2.2 z).2⟩

def arbitrated (r : Arbiter) (q : List Arm) (t : Timer) : State :=
  { State.reset with rack := { Rack.reset with arbiter := r, queue := q, grantTimer := t } }

/-- The rack LOCKED_OUT, FREE, granted to the arm in each condition with the queue empty and not, and granted to the other
arm with the arm queued and not. -/
theorem witness_ArbiterFollowsItsTables :
    (∀ r ∈ [Arbiter.lockedOut, .free], (arbitrated r [] none).rack.arbiter = r ∧ (arbitrated r [] none).rack.queue = []) ∧
    (∀ acknowledged ∈ [true, false], ∀ inside ∈ [true, false], ∀ ended ∈ [true, false], ∀ q ∈ [[], [Side.one]],
      ∀ t ∈ [none, some 0],
      let s := arbitrated (.granted .zero acknowledged inside ended) q t
      Ready s ∧ s.present .zero = true ∧ s.rack.arbiter = .granted .zero acknowledged inside ended ∧
        s.rack.queue = q ∧ s.rack.grantTimer = t ∧ s.frz = false ∧ Side.zero ∉ q) ∧
    (Side.zero ∈ (arbitrated (.granted .zero true true true) [.zero] none).rack.queue ∧
      (arbitrated (.granted .one true true false) [.zero] none).rack.arbiter = .granted Side.zero.other true true false ∧
      Side.zero ∉ (arbitrated (.granted .one true true false) [] none).rack.queue) := by decide +kernel

theorem witness_ArbiterFollowsItsTables_calm (r : Arbiter) (q : List Arm) (t : Timer) : (arbitrated r q t).calm :=
  calm_of rfl ⟨rfl, rfl, rfl, rfl, fun p => (by revert p; decide +kernel : ∀ p : Fin 20, (State.reset.pocket p).drive = false) p,
    fun z => (by decide +kernel : ∀ z : Fin 16, State.reset.zones.hold.zero.inside[z] = false ∧
      State.reset.zones.hold.one.inside[z] = false) z⟩

def requested : State := { State.reset with pending := [.rackRequest .zero] }

theorem requested_pockets (p : Fin 20) : requested.pocket p = Pocket.reset := by revert p; decide +kernel

theorem witness_RackLawsAreKept :
    LidLaw requested ∧ ArbiterLaw requested ∧ step requested = .next (after (.rackRequest .zero) State.reset) := by
  refine ⟨fun p => ?_, ⟨List.nodup_nil, fun _ => rfl, nofun, nofun⟩, rfl⟩
  rw [requested_pockets]
  exact ⟨nofun, fun _ h => (by rcases h with h | h <;> cases h), nofun, fun _ h => (by rcases h with h | h <;> cases h), nofun⟩

/-! #### Witnesses: Probe change -/

/-- Both arms REFERENCED, an ACTIVE RACK zone 0, and pocket 9 ENABLED with a dock box for both arms. -/
def docked (s : State) : State :=
  let s := atPocket (fun r => { r with state := .enabled, dock := .both (some unitBox) }) (homed .one (homed .zero s))
  s.setZone 0 (some ⟨false, .rack, unitBox, 0⟩)

def entryFree : Tip := { tip .inPocket with entries := ⟨none, none⟩ }

/-- The refusals in order: each state meets the tests before its own. -/
theorem witness_ChangeRefusals :
    (Ready State.reset ∧ 1 < (2 : Byte).toNat ∧ 63 < (64 : Byte).toNat ∧ (64 : Byte) ≠ 0xFF ∧
      (63 : Byte).toNat ≤ 63 ∧ (0 : Byte).toNat = Side.zero.toNat ∧ (1 : Byte).toNat ≤ 1) ∧
    (Ready oneArmed ∧ oneArmed.present .one = false) ∧
    (let s := State.reset.setChange .zero { Change.reset with state := .waitingRack, staged := some ⟨none, false⟩ }
     Ready s ∧ (s.change .zero).state ≠ .idle ∧ (s.change .zero).staged ≠ none) ∧
    ((State.reset.change .zero).state = .idle ∧ (State.reset.axis .zero .x).state ≠ .referenced) ∧
    (∀ z : Fin 16, (homed .zero State.reset).zone z = none) ∧
    (let s := docked State.reset
     Ready s ∧ (s.axis .zero .x).state = .referenced ∧ (s.axis .zero .y).state = .referenced ∧
       (s.axis .zero .z).state = .referenced ∧ s.zone 0 = some ⟨false, .rack, unitBox, 0⟩ ∧ s.rack.arbiter ≠ .lockedOut ∧
       (s.head .zero).state = .empty ∧ (12 : Byte).toNat = (12 : Fin 64).val ∧ s.library.tips[(12 : Fin 64)] = .vacant) ∧
    ((docked (State.reset.setArbiter .lockedOut)).rack.arbiter = .lockedOut ∧
      ((headIs .zero .identifying (docked State.reset)).head .zero).state = .identifying ∧
      ((headIs .zero (.foreignModule none) (docked State.reset)).head .zero).state = .foreignModule none) ∧
    (withTip .missing (docked State.reset)).library.tips[(12 : Fin 64)] = .active (tip .missing) ∧
    (let s := withTip .inPocket (homed .zero State.reset)
     s.library.tips[(12 : Fin 64)] = .active (tip .inPocket) ∧ (s.pocket (tip .inPocket).home).state ≠ .enabled) ∧
    (let s := (docked State.reset).setTip 12 (.active entryFree)
     (s.pocket entryFree.home).state = .enabled ∧ (s.pocket entryFree.home).dock.zero ≠ none ∧
       entryFree.entries.zero = none) ∧
    (let s := (docked (withTip .inPocket State.reset)).setChange .one
       { Change.reset with state := .fetchOpen, target := some 12 }
     Ready s ∧ s.library.tips[(12 : Fin 64)] = .active (tip .inPocket) ∧ (tip .inPocket).entries.zero ≠ none ∧
       (s.change .one).names 12 = true) := by decide +kernel

/-- Tip 13, with home pocket 8, is the target, and tip 12 is on arm 0 with pocket 9 as it is left. -/
def exchanging (f : Pocket → Pocket) : State :=
  let s := headIs .zero .tip (docked (withTip (.onArm .zero) State.reset))
  let s := s.setTip 13 (.active { tip .inPocket with moduleId := 8, home := 8 })
  atPocket f (s.setPocket 8 { s.pocket 8 with state := .enabled, dock := .both (some unitBox) })

/-- The stowing tip with its home pocket DISABLED, OCCUPIED and foreign, the target passing; and no target. -/
theorem witness_ChangeRefusals_stow :
    (let s := exchanging id
     Ready s ∧ (13 : Byte).toNat = (13 : Fin 64).val ∧ (s.head .zero).state = .tip ∧
       s.library.tips[(13 : Fin 64)] = .active { tip .inPocket with moduleId := 8, home := 8 } ∧
       s.library.tips[(12 : Fin 64)] = .active (tip (.onArm .zero)) ∧ (s.pocket 8).state = .enabled ∧
       (s.pocket 8).dock.zero ≠ none ∧ (tip .inPocket).entries.zero ≠ none ∧
       (s.change .one).names 13 = false ∧ (0xFF : Byte) = 0xFF) ∧
    ((exchanging fun r => { r with state := .disabled }).pocket 9).state ≠ .enabled ∧
    (∀ f ∈ [(true, false), (false, true)],
      let s := exchanging fun r => { r with occupied := f.1, foreignMark := f.2 }
      (s.pocket 9).state = .enabled ∧ (s.pocket 9).dock.zero ≠ none ∧ (s.pocket 9).occupied = f.1 ∧
        (s.pocket 9).foreignMark = f.2) := by decide +kernel

theorem witness_ChangeRefusals_stow_mounted : Mounted (exchanging id) .zero (some 12) := mounted_of (by decide +kernel)

theorem witness_ChangeRefusals_mounted :
    Mounted (docked State.reset) .zero none ∧
    Mounted (headIs .zero .tip (docked (withTip (.onArm .zero) State.reset))) .zero (some 12) :=
  ⟨mounted_of (by decide +kernel), mounted_of (by decide +kernel)⟩

/-- Staging behind a change; nothing to do, with an EMPTY head and with the tip mounted; a fetch to an EMPTY head and a stow,
with the rack granted to the other arm and FREE. -/
theorem witness_ChangesAreStagedQueuedAndStarted :
    (let s := namedTip State.reset
     Ready s ∧ s.present .zero = true ∧ (0 : Byte).toNat = Side.zero.toNat ∧ (1 : Byte).toNat ≤ 1 ∧
       (63 : Byte) ≠ 0xFF ∧ (63 : Byte).toNat = (63 : Fin 64).val ∧ (s.change .zero).state ≠ .idle ∧
       (s.change .zero).staged = none) ∧
    (let s := docked (withTip .inPocket State.reset)
     Ready s ∧ (s.change .zero).state = .idle ∧ (s.axis .zero .x).state = .referenced ∧
       (s.axis .zero .y).state = .referenced ∧ (s.axis .zero .z).state = .referenced ∧
       s.zone 0 = some ⟨false, .rack, unitBox, 0⟩ ∧ s.rack.arbiter = .free ∧ s.rack.queue = [] ∧
       (s.head .zero).state = .empty ∧ s.library.tips[(12 : Fin 64)] = .active (tip .inPocket) ∧
       (s.pocket 9).state = .enabled ∧ (s.pocket 9).dock.zero ≠ none ∧ (tip .inPocket).entries.zero ≠ none ∧
       (s.change .one).names 12 = false ∧ (s.report .zero).suppressed = false ∧
       (s.change .zero).lastReference = none) ∧
    (let s := headIs .zero .tip (docked (withTip (.onArm .zero) State.reset))
     Ready s ∧ (s.head .zero).state = .tip ∧ s.library.tips[(12 : Fin 64)] = .active (tip (.onArm .zero)) ∧
       (s.pocket 9).occupied = false ∧ (s.pocket 9).foreignMark = false ∧ (s.change .zero).lastReference = none) ∧
    (let s := (docked (withTip .inPocket State.reset)).setArbiter (.granted .one true true false)
     Ready s ∧ s.rack.arbiter = .granted Side.zero.other true true false ∧ Side.zero ∉ s.rack.queue) := by decide +kernel

theorem witness_ChangesAreStagedQueuedAndStarted_calm :
    Mounted (docked (withTip .inPocket State.reset)) .zero none ∧ (docked (withTip .inPocket State.reset)).calm ∧
    Mounted (headIs .zero .tip (docked (withTip (.onArm .zero) State.reset))) .zero (some 12) :=
  ⟨mounted_of (by decide +kernel), calm_of rfl (by decide +kernel), mounted_of (by decide +kernel)⟩

def waiting (r : Arbiter) (q : List Arm) (stowing target : Option (Fin 64)) : State :=
  let s := (docked (withTip .inPocket State.reset)).setChange .zero
    { Change.reset with state := .waitingRack, target := target, stowing := stowing }
  { s with rack := { s.rack with arbiter := r, queue := q } }

/-- The last lid of arm 0 reaches CLOSED, with a staged request or none; the arm is REFERENCED or BLIND. -/
def lastLid (st : ChangeState) (staged : Option ChangeRequest) (q : List Arm) (head : HeadState) (blind : Bool) : State :=
  let s := headIs .zero head (docked (withTip (.onArm .zero) State.reset))
  let s := if blind then s.setArm .zero State.reset.arms.zero else s
  let s := s.setChange .zero { Change.reset with
    state := st, wait := .lids, opened := [9], current := some 9, staged := staged }
  let s := lidAt .closing true false (reporting ⟨some 9, false, false⟩ (s.setArbiter (.granted .zero true true false)))
  s.setQueue q

theorem witness_ChangesAreStagedQueuedAndStarted_completed :
    ∀ st ∈ [ChangeState.stowClear, .fetchClear], ∀ staged ∈ [none, some ⟨none, false⟩], ∀ q ∈ [[], [Side.one]],
      ∀ head ∈ [HeadState.empty, .tip], ∀ blind ∈ [true, false],
      let s := lastLid st staged q head blind
      Ready s ∧ s.present .zero = true ∧ (s.change .zero).state = st ∧ (s.change .zero).wait = .lids ∧
        (s.change .zero).opened = [9] ∧ (9 : Fin 20) ∉ (s.change .one).opened ∧ (s.change .zero).current = some 9 ∧
        s.report .zero = { pocket := some 9, suppressed := false, stow := false } ∧ (s.pocket 9).lid = .closing ∧
        (s.pocket 9).sense = true ∧ (s.pocket 9).senseInput = false ∧ (∀ p : Fin 20, (s.pocket p).drive = false) ∧
        s.rack.arbiter = .granted .zero true true false ∧ s.rack.queue = q ∧ (s.change .zero).staged = staged ∧
        s.referenced .zero = !blind ∧ s.zone 0 = some ⟨false, .rack, unitBox, 0⟩ ∧ (s.head .zero).state = head ∧
        s.library.tips[(12 : Fin 64)] = .active (tip (.onArm .zero)) ∧ (s.pocket 9).state = .enabled ∧
        (s.pocket 9).dock.zero ≠ none ∧ (s.pocket 9).occupied = false ∧ (s.pocket 9).foreignMark = false ∧
        (s.change .zero).lastReference = none := by decide +kernel

theorem witness_ChangesAreStagedQueuedAndStarted_completed_mounted :
    Mounted (lastLid .fetchClear (some ⟨none, false⟩) [] .tip false) .zero (some 12) := mounted_of (by decide +kernel)

/-- R152: the staged CHANGE to NONE is STARTED, and the grant goes on. -/
theorem test_staged_start : ((after (.lidSenseChange 9) (lastLid .fetchClear (some ⟨none, false⟩) [] .tip false)).change
    .zero).state = .stowApproach ∧ (after (.lidSenseChange 9) (lastLid .fetchClear (some ⟨none, false⟩) [] .tip
    false)).rack.arbiter = .granted .zero true true false := by decide +kernel

theorem witness_ChangesAreAbortedAndAnswered :
    ((State.reset.change .zero).state = .idle ∧ Ready State.reset ∧ (0 : Byte).toNat = Side.zero.toNat) ∧
    ((State.reset.setChange .zero { Change.reset with state := .reconciling }).change .zero).state = .reconciling ∧
    (let s := waiting (.granted .one true true false) [.zero] none (some 12)
     Ready s ∧ (s.change .zero).state = .waitingRack ∧ Side.zero ∈ s.rack.queue ∧
       s.rack.arbiter = .granted Side.zero.other true true false ∧ (s.report .zero).suppressed = false ∧
       (s.change .zero).double = false) ∧
    (∀ o ∈ [none, some (12 : Fin 64)],
      let s := waiting .free [] o (some 12)
      Ready s ∧ s.present .zero = true ∧ (s.change .zero).state = .waitingRack ∧ s.grantedTo .zero = false ∧
        (s.report .zero).suppressed = false ∧ (s.change .zero).stowing = o ∧ (s.change .zero).target = some 12 ∧
        (s.change .zero).stowClose = false ∧ s.library.tips[(12 : Fin 64)] = .active (tip .inPocket) ∧
        (s.change .zero).lastReference = none ∧ (s.change .zero).timer = none) ∧
    (let s := waiting .lockedOut [] none (some 12)
     s.rack.arbiter = .lockedOut ∧ s.rack.queue = [] ∧ (s.change .zero).double = false ∧ (s.change .zero).staged = none) := by
  decide +kernel

/-- The other arm leaves the rack to a queued change; and the head or the pocket of a change that waits changes. -/
theorem witness_ChangesAreAbortedAndAnswered_waiting :
    (let s := waiting (.granted .one true true true) [.zero] none (some 12)
     Ready s ∧ s.present .one = true ∧ (s.change .zero).state = .waitingRack ∧ s.rack.queue = [.zero] ∧
       s.rack.arbiter = .granted .one true true true ∧ (∀ p : Fin 20, (s.pocket p).drive = false) ∧
       (∀ z : Fin 16, s.zones.hold.zero.inside[z] = false ∧ s.zones.hold.one.inside[z] = false) ∧
       (s.change .zero).lastReference = none) ∧
    (let s := (withTip (.onArm .zero) (waiting (.granted .one true true false) [.zero] (some 12) none)).setHead .zero
       { Head.reset with state := .tip, modulePresent := true }
     Ready s ∧ (s.head .zero).moduleInput = false ∧ (s.head .zero).modulePresent = true ∧ (s.head .zero).state = .tip ∧
       (s.change .zero).stowing ≠ none ∧ (s.change .zero).double = false ∧
       s.library.tips[(12 : Fin 64)] = .active (tip (.onArm .zero))) ∧
    (let s := (waiting (.granted .one true true false) [.zero] none (some 12)).setHead .zero
       { Head.reset with moduleInput := true }
     Ready s ∧ (s.head .zero).moduleInput = true ∧ (s.head .zero).modulePresent = false ∧
       (s.head .zero).state = .empty ∧ (s.change .zero).stowing = none) ∧
    (∀ stow ∈ [true, false],
      let s := atPocket (fun r => { r with occupied := !stow, occupancyInput := stow })
        (waiting (.granted .one true true false) [.zero] (if stow then some 12 else none) (if stow then none else some 12))
      Ready s ∧ s.library.tips[(12 : Fin 64)] = .active (tip .inPocket) ∧ (tip .inPocket).home = 9 ∧
        (s.pocket 9).occupied = !stow ∧ (s.pocket 9).occupancyInput = stow) := by decide +kernel

theorem witness_ChangesAreAbortedAndAnswered_mounted :
    Mounted ((withTip (.onArm .zero) (waiting (.granted .one true true false) [.zero] (some 12) none)).setHead .zero
      { Head.reset with state := .tip, modulePresent := true }) .zero (some 12) := mounted_of (by decide +kernel)

/-- Arm 0 stands in the dock box of pocket 9 in each stage. -/
def inDock (st : ChangeState) (module input : Bool) : State :=
  let s := (docked (withTip .inPocket State.reset)).setChange .zero { Change.reset with
    state := st, target := some 12, current := some 9, opened := [9], timer := some 5, lastReference := some (.all 10) }
  (reporting ⟨some 9, true, false⟩ s).setHead .zero
    { Head.reset with modulePresent := module, moduleInput := input, attempt := some 3 }

theorem witness_FaultsEnterReconciling :
    (∀ st ∈ [ChangeState.stowApproach, .stowOpen, .stowClear, .fetchApproach, .fetchOpen, .fetchIdentify, .fetchClear],
      ∀ m ∈ [true, false],
      let s := inDock st m (!m)
      Ready s ∧ s.present .zero = true ∧ (s.change .zero).state = st ∧ (s.change .zero).current = some 9 ∧
        (s.report .zero).pocket = some 9 ∧ (9 : Fin 20) ∈ (s.change .zero).opened ∧
        (s.change .zero).lastReference = some (.all 10) ∧ (s.pocket 9).dock.zero = some unitBox ∧
        unitBox.contains (.all 10) = true ∧ s.link.isExecuting = false ∧ (s.change .zero).timer ≠ none ∧ s.frz = false ∧
        (s.head .zero).moduleInput = !m ∧ (s.head .zero).modulePresent = m ∧ (s.head .zero).attempt = some 3) ∧
    ((inDock .fetchIdentify true true).change .zero).target = some 12 ∧
    (inDock .fetchIdentify true true).library.tips[(12 : Fin 64)] = .active (tip .inPocket) ∧
    (tip .inPocket).moduleId ≠ 8 := by decide +kernel

/-- Arm 0 in a change at pocket 9, its lid OPEN and listed; the formation that is due puts the reference point at `n` on
each axis of the room. -/
def atDock (n : Int) (st : ChangeState) (w : StageWait) (close : Bool) (loc : Location) : State :=
  let s := docked (withTip loc State.reset)
  let s := s.setArm .zero { s.arms.zero with origin := .all n }
  let s := s.setTip 13 (.active { tip .inPocket with moduleId := 8, home := 8 })
  let s := (s.askFormation .zero).setChange .zero { Change.reset with
    state := st, wait := w, opened := [9], stowClose := close, stowing := some 12, target := some 13, current := some 9
    timer := some 5, faultResult := some .aborted }
  let s := reporting ⟨some 9, false, false⟩ (s.setArbiter (.granted .zero true true false))
  lidAt .opened true true s

theorem atDock_forms (n : Int) (st : ChangeState) (w : StageWait) (close : Bool) (h : n = 0 ∨ n = 1000) :
    FormsReference (atDock n st w close (.inTransit .zero)) .zero (.all n) := by
  rcases h with rfl | rfl <;> exact ⟨List.cons_ne_nil _ _, axes rfl rfl rfl, axes rfl rfl rfl⟩

/-- Within the dock box at 0, outside it at 1,000. -/
theorem atDock_dock (st : ChangeState) (w : StageWait) (close : Bool) :
    InDock (atDock 0 st w close (.inTransit .zero)) .zero 9 (.all 0) ∧
    ¬ InDock (atDock 1000 st w close (.inTransit .zero)) .zero 9 (.all 1000) ∧
    ¬ InDock (atDock 1000 st w close (.inTransit .zero)) .zero 8 (.all 1000) := by
  simp only [inDock_iff]
  exact ⟨rfl, Bool.false_ne_true, Bool.false_ne_true⟩

/-- Departures: from each stage that leaves the dock box too soon, and in step 1. -/
theorem witness_FaultsEnterReconciling_departure :
    ∀ st ∈ [ChangeState.stowOpen, .stowRelease, .fetchOpen, .fetchPick, .reconciling],
      let s := atDock 1000 st .departure false (.inTransit .zero)
      Ready s ∧ s.present .zero = true ∧ (∀ acknowledged ∈ [true, false], ∀ inside ∈ [true, false],
        s.rack.arbiter ≠ .granted .zero acknowledged inside true) ∧ (s.change .zero).opened = [9] ∧
      (s.pocket 9).lid = .opened ∧ (s.pocket 9).sense = true ∧ (s.change .zero).current = some 9 ∧
      (s.report .zero).pocket = some 9 ∧ (s.change .zero).state = st ∧ (s.change .zero).wait = .departure := by
  decide +kernel

theorem lidLaw_of {s : State} {a : Arm} {acknowledged inside ended : Bool}
    (g : s.rack.arbiter = .granted a acknowledged inside ended)
    (h : ∀ p : Fin 20,
      ((s.pocket p).drive = true →
        (s.report a).pocket = some p ∧ ((s.pocket p).lid = .opening ∨ (s.pocket p).lid = .opened)) ∧
      ((s.pocket p).lid = .opening ∨ (s.pocket p).lid = .opened → (s.pocket p).drive = true) ∧
      ((s.pocket p).timer.isSome = true → (s.pocket p).lid = .opening ∨ (s.pocket p).lid = .closing) ∧
      ((s.pocket p).lid = .opening ∨ (s.pocket p).lid = .closing → (s.pocket p).timer.isSome = true) ∧
      ((s.pocket p).lid = .jammed → (s.pocket p).state ≠ .enabled)) : LidLaw s := fun p =>
  have ⟨d, o, t, r, j⟩ := h p
  ⟨fun e => ⟨⟨a, acknowledged, inside, ended, g, (d e).1⟩, (d e).2⟩, fun _ => o, t, fun _ => r, j⟩

/-- Arm 0 at pocket 9 in a stage, or in step 1, with the lid of the list as given, and arm 1 waiting for the rack. -/
def besideLid (st : ChangeState) (lid : LidState) : State :=
  let s := (atDock 0 st .departure false (.inTransit .zero)).setChange .one { Change.reset with state := .waitingRack }
  let s := (lidAt lid true false s).setHead .zero { Head.reset with modulePresent := true }
  atPocket (fun r => { r with drive := lid == .opening || lid == .opened }) s

/-- LidLaw in step 1, for the double faults. -/
theorem witness_FaultsEnterReconciling_lidLaw :
    LidLaw (besideLid .reconciling .opened) ∧ LidLaw (besideLid .reconciling .opening) ∧
    LidLaw (besideLid .reconciling .closing) :=
  ⟨lidLaw_of rfl (by decide +kernel), lidLaw_of rfl (by decide +kernel), lidLaw_of rfl (by decide +kernel)⟩

/-- A double fault by the step timer; a lid of the list that jams by its sense and by its timer, in a stage and in step 1;
the other arm waiting for the rack. -/
theorem witness_FaultsEnterReconciling_jam :
    ∀ st ∈ [ChangeState.stowOpen, .fetchClear, .reconciling], ∀ lid ∈ [LidState.opened, .opening, .closing],
      let s := besideLid st lid
      Ready s ∧ s.present .zero = true ∧ (s.head .zero).modulePresent = true ∧ (s.change .one).state = .waitingRack ∧
        s.rack.arbiter ≠ .lockedOut ∧ (∀ p : Fin 20, (s.pocket p).drive = true → (s.pocket p).sense = true) ∧
        (s.change .zero).state = st ∧
        (s.change .zero).wait = .departure ∧ (s.change .zero).timer ≠ none ∧ s.frz = false ∧
        (s.change .zero).opened = [9] ∧ (s.pocket 9).lid = lid ∧ (s.pocket 9).sense = true ∧
        (s.pocket 9).senseInput = false ∧ ((s.pocket 9).timer ≠ none ↔ lid ≠ .opened) ∧
        (s.change .zero).current = some 9 ∧ (s.report .zero).pocket = some 9 := by decide +kernel

/-- The pocket of a change changes, with its lid listed and with none. -/
theorem witness_FaultsEnterReconciling_pocket :
    ∀ st ∈ [ChangeState.stowApproach, .stowOpen, .fetchApproach, .fetchOpen], ∀ listed ∈ [true, false],
      let stow := st == .stowApproach || st == .stowOpen
      let s := inDock st true true
      let s := s.setChange .zero { s.change .zero with
        stowing := if stow then some 12 else none, opened := if listed then [9] else [] }
      let s := atPocket (fun r => { r with occupied := !stow, occupancyInput := stow }) s
      let w := s.setChange .one { Change.reset with state := .waitingRack }
      ((w.change .one).state = .waitingRack ∧ w.grantedTo .one = false) ∧
      Ready s ∧ s.present .zero = true ∧ (s.change .one).state = .idle ∧
        s.library.tips[(12 : Fin 64)] = .active (tip .inPocket) ∧ (tip .inPocket).home = 9 ∧
        (s.change .zero).current = some 9 ∧ (s.report .zero).pocket = some 9 ∧ (s.change .zero).state = st ∧
        (s.change .zero).stowing = (if stow then some 12 else none) ∧ (s.change .zero).target = some 12 ∧
        (s.pocket 9).occupied = !stow ∧ (s.pocket 9).occupancyInput = stow ∧
        (s.change .zero).opened = (if listed then [9] else []) ∧ (s.head .zero).modulePresent = true ∧
        (s.change .zero).lastReference = some (.all 10) := by decide +kernel

theorem witness_FaultsEnterReconciling_notDeparted :
    NotDeparted (inDock .stowOpen true true) .zero 9 := fun q h => by
  have e : (Axes.all 10 : Point) = q := Option.some.inj h
  subst e; exact (inDock_iff _ _ _ _).2 rfl

/-- Step 2 and the end: the read of the head, another module's ID, the ID of tip 12, and no ID; and the last lid CLOSED with
a module on the head and without. -/
theorem witness_FaultsEnterReconciling_end :
    (∀ full ∈ [true, false], ∀ module ∈ [true, false],
      let s := atPocket (fun r => { r with occupied := full }) (atDock 0 .reconciling .identity false (.inTransit .zero))
      let s := s.setHead .zero { Head.reset with state := .identifying, modulePresent := module, attempt := some 3 }
      Ready s ∧ s.present .zero = true ∧ (s.change .zero).state = .reconciling ∧
        (s.change .zero).faultResult = some .aborted ∧ (s.change .one).state = .idle ∧
        s.library.tips[(12 : Fin 64)] = .active (tip (.inTransit .zero)) ∧ (s.change .zero).stowing = some 12 ∧
        (s.change .zero).wait = .identity ∧ (s.head .zero).attempt = some 3 ∧ (s.pocket 9).occupied = full ∧
        (s.head .zero).modulePresent = module ∧
        (∀ j : Fin 64, activeAll (fun v => decide (v.moduleId ≠ 9)) s.library.tips[j] = true) ∧
        (∀ j : Fin 64, activeAll (fun v => decide (v.moduleId = 7 → j = 12)) s.library.tips[j] = true)) := by decide +kernel

theorem witness_FaultsEnterReconciling_lids :
    (∀ module ∈ [true, false],
      let s := (lidAt .closing true false (atDock 0 .reconciling .lids false (.inTransit .zero))).setHead .zero
        { Head.reset with modulePresent := module }
      Ready s ∧ (s.change .zero).wait = .lids ∧ (s.change .zero).opened = [9] ∧ (s.pocket 9).lid = .closing ∧
        (s.pocket 9).sense = true ∧ (s.pocket 9).senseInput = false ∧ (s.head .zero).modulePresent = module) := by
  decide +kernel

/-- R155: the step timer expires in step 1, and the rack is LOCKED_OUT. -/
theorem test_double_fault_end : (after (.stepTimerExpiry .zero) (atDock 0 .reconciling .departure false
    (.inTransit .zero))).rack.arbiter = .lockedOut := by decide +kernel

/-- R131: each arm is told once, whatever the queue. -/
theorem test_locked_out_arms : (arbitrated (.granted .one true true true) [.one, .one] none).lockedOutArms .zero = [.one] ∧
    (arbitrated (.granted .zero true true false) [.one] none).lockedOutArms .zero = [.one] := by decide

theorem witness_HeadsAreFollowedOutsideAChange :
    ((State.reset.head .zero).moduleInput = (State.reset.head .zero).modulePresent ∧ Ready State.reset ∧
      State.reset.present .zero = true ∧ (State.reset.head .zero).attempt = none) ∧
    (∀ st ∈ [HeadState.tip, .identifying, .foreignModule none],
      let s := (withTip (.onArm .zero) State.reset).setHead .zero
        { state := st, allowUnqualified := false, modulePresent := true, moduleInput := false, attempt := none }
      Ready s ∧ (s.change .zero).state = .idle ∧ (s.head .zero).state = st ∧ (s.head .zero).modulePresent = true ∧
        (s.head .zero).moduleInput = false ∧ s.library.tips[(12 : Fin 64)] = .active (tip (.onArm .zero)) ∧
        s.zones.hold.zero.causes ≠ Causes.none) ∧
    (let s := State.reset.setHead .zero { Head.reset with moduleInput := true }
     (s.head .zero).moduleInput = true ∧ (s.head .zero).modulePresent = false ∧ (s.head .zero).state = .empty) ∧
    (∀ n ∈ [1, 2, 3], let s := identifying n
      Ready s ∧ s.present .one = true ∧ (s.head .one).attempt = some n ∧ (s.change .one).state = .idle) ∧
    (let s := withTip (.inTransit .zero) (inDock .fetchIdentify true true)
     (s.change .zero).state = .fetchIdentify ∧ (s.change .zero).target = some 12 ∧
       s.library.tips[(12 : Fin 64)] = .active (tip (.inTransit .zero)) ∧ (tip (.inTransit .zero)).moduleId = 7 ∧
       (s.change .zero).current = some 9 ∧ s.report .zero = { pocket := some 9, suppressed := true, stow := false } ∧
       (s.report .one).pocket ≠ some 9 ∧ (s.pocket 9).occupied = false ∧
       (∀ j : Fin 64, onArm .zero s.library.tips[j] = false ∧
         activeAll (fun v => decide (v.home = 9 → j = 12)) s.library.tips[j] = true) ∧
       (s.pocket 9).dock.zero = some unitBox ∧ unitBox.contains (.all 10) = true) := by decide +kernel

theorem witness_HeadsAreFollowedOutsideAChange_mounted :
    Mounted (withTip (.onArm .zero) State.reset) .zero (some 12) := mounted_of (by decide +kernel)

/-- The two transfers, at the moment module-present and the occupancy hold together. -/
theorem witness_TransfersAreTaken :
    (let s := atPocket (fun r => { r with occupied := true }) (withTip (.inTransit .zero) (inDock .stowRelease true false))
     let s := reporting ⟨some 9, true, true⟩
       (s.setChange .zero { s.change .zero with stowing := some 12, target := none })
     Ready s ∧ s.present .zero = true ∧ (s.change .zero).state = .stowRelease ∧ (s.change .zero).stowing = some 12 ∧
       (s.change .zero).current = some 9 ∧ (s.change .zero).lastReference = some (.all 10) ∧
       (s.pocket 9).dock.zero = some unitBox ∧ unitBox.contains (.all 10) = true ∧
       s.library.tips[(12 : Fin 64)] = .active (tip (.inTransit .zero)) ∧ (tip (.inTransit .zero)).home = 9 ∧
       (∀ j : Fin 64, activeAll (fun v => decide (v.home = 9 → j = 12)) s.library.tips[j] = true) ∧
       (s.report .one).pocket ≠ some 9 ∧ s.report .zero = { pocket := some 9, suppressed := true, stow := true } ∧
       (s.head .zero).moduleInput = false ∧ (s.head .zero).modulePresent = true ∧ (s.pocket 9).occupied = true) ∧
    (let s := withTip (.inTransit .zero) (inDock .fetchPick false true)
     Ready s ∧ (s.change .zero).state = .fetchPick ∧ (s.change .zero).target = some 12 ∧
       s.library.tips[(12 : Fin 64)] = .active (tip (.inTransit .zero)) ∧ (s.head .zero).moduleInput = true ∧
       (s.head .zero).modulePresent = false ∧ (s.pocket 9).occupied = false) := by decide +kernel

/-- The transfers by the change of the pocket's occupancy that comes last. -/
theorem witness_TransfersAreTaken_pocket :
    ∀ stow ∈ [true, false],
      let s := withTip (.inTransit .zero) (inDock (if stow then .stowRelease else .fetchPick) (!stow) (!stow))
      let s := reporting ⟨some 9, true, stow⟩
        (s.setChange .zero { s.change .zero with stowing := if stow then some 12 else none })
      let s := atPocket (fun r => { r with occupied := !stow, occupancyInput := stow }) s
      Ready s ∧ s.present .zero = true ∧ (s.change .one).state = .idle ∧ s.suppressed 9 = true ∧
        (s.head .zero).modulePresent = !stow ∧ (s.pocket 9).occupancyInput = stow ∧ (s.pocket 9).occupied = !stow ∧
        s.report .zero = { pocket := some 9, suppressed := true, stow := stow } ∧
        (s.change .zero).state = (if stow then .stowRelease else .fetchPick) ∧
        (s.change .zero).stowing = (if stow then some 12 else none) ∧ (s.change .zero).target = some 12 := by
  decide +kernel

/-- Arrivals, with the grant and without; departures in STOW_CLEAR, FETCH_CLEAR and FETCH_APPROACH. -/
theorem witness_TransfersAreTaken_formation :
    (∀ st ∈ [ChangeState.stowApproach, .fetchApproach], ∀ lid ∈ [LidState.closed, .closing],
      ∀ r ∈ [Arbiter.granted .zero true true false, .free, .lockedOut],
      let s := lidAt lid false false ((atDock 0 st .departure false (.inTransit .zero)).setArbiter r)
      let s := (s.setChange .zero { s.change .zero with opened := [] }).setHead .zero { Head.reset with modulePresent := true }
      Ready s ∧ s.present .zero = true ∧ s.rack.arbiter = r ∧ (s.change .zero).current = some 9 ∧
        (s.report .zero).pocket = some 9 ∧ (s.change .zero).state = st ∧ (s.change .zero).stowClose = false ∧
        (s.pocket 9).state = .enabled ∧ (s.pocket 9).lid = lid ∧ (s.pocket 9).sense = false ∧
        (s.change .zero).opened = [] ∧ (s.head .zero).modulePresent = true) ∧
    (∀ st ∈ [ChangeState.stowClear, .fetchClear, .fetchApproach],
      let s := atDock 1000 st .departure true (.inTransit .zero)
      Ready s ∧ s.present .zero = true ∧ (s.change .zero).state = st ∧ (s.change .zero).wait = .departure ∧
        (s.change .zero).stowClose = true ∧ (9 : Fin 20) ∈ (s.change .zero).opened ∧ (s.pocket 9).lid = .opened ∧
        (s.pocket 9).sense = true ∧ (s.report .zero).suppressed = false ∧ (∀ p : Fin 20, (s.pocket p).drive = false) ∧
        (s.change .zero).target = some 13 ∧
        s.library.tips[(13 : Fin 64)] = .active { tip .inPocket with moduleId := 8, home := 8 } ∧ (8 : Fin 20) ≠ 9) := by
  decide +kernel

/-- The lid OPEN, with the tip where the library takes it from, and elsewhere. -/
theorem witness_TransfersAreTaken_open :
    ∀ loc ∈ [Location.onArm .zero, .inPocket, .missing], ∀ st ∈ [ChangeState.stowOpen, .fetchOpen],
      let s := lidAt .opening false true (atDock 0 st .departure false loc)
      let s := s.setChange .zero { s.change .zero with target := some 12 }
      let s := s.setHead .zero { Head.reset with modulePresent := st == .stowOpen }
      Ready s ∧ s.present .zero = true ∧ (s.change .zero).current = some 9 ∧ (9 : Fin 20) ∈ (s.change .zero).opened ∧
        (9 : Fin 20) ∉ (s.change .one).opened ∧ (s.change .zero).lastReference = none ∧
        s.report .zero = { pocket := some 9, suppressed := false, stow := false } ∧
        s.library.tips[(12 : Fin 64)] = .active (tip loc) ∧ (s.pocket 9).lid = .opening ∧ (s.pocket 9).sense = false ∧
        (s.pocket 9).senseInput = true ∧ (s.change .zero).state = st ∧ (s.change .zero).stowing = some 12 ∧
        (s.change .zero).target = some 12 ∧ (s.head .zero).modulePresent = (st == .stowOpen) := by decide +kernel

/-- R146: the stow lid is closed on the departure, and the change names the target pocket. -/
theorem test_stow_lid_closes : ((after (.checkPointFormation .zero) (atDock 1000 .fetchApproach .departure true
    (.inTransit .zero))).pocket 9).lid = .closing ∧ ((after (.checkPointFormation .zero) (atDock 1000 .fetchApproach
    .departure true (.inTransit .zero))).change .zero).current = some 8 := by decide +kernel

/-! #### Witnesses: Zones and holds -/

/-- Both arms REFERENCED; arm 0 at the origin of the room, arm 1 at it too or out of the box. -/
def twoArms (together : Bool) (s : State) : State :=
  let s := standing .one (standing .zero (homed .one (homed .zero s)))
  if together then s else s.setHold .one { s.zones.hold.one with points := some ⟨.all 1000, noMarks, none⟩ }

theorem origin_inside (suspended : Bool) (k : ZoneKind) : Inside ⟨suspended, k, unitBox, 5⟩ ⟨.all 0, noMarks, none⟩ :=
  .inl (axes (by simp [unitBox, Axes.all, Axes.get]) (by simp [unitBox, Axes.all, Axes.get])
    (by simp [unitBox, Axes.all, Axes.get]))

theorem far_outside (suspended : Bool) (k : ZoneKind) : ¬ Inside ⟨suspended, k, unitBox, 5⟩ ⟨.all 1000, noMarks, none⟩ := by
  rintro (h | ⟨t, e, _⟩)
  · have := h .x; simp [unitBox, Axes.all, Axes.get] at this
  · cases e

/-- The arguments refused and those taken; an absent arm, a claimed zone, the granted RACK zone, a second RACK zone, a VACANT
zone and a SUSPENDED one; both arms inside, and arm 0 alone. -/
theorem witness_ZoneWriteStoresAndJudges :
    (Ready State.reset ∧ (15 : Byte).toNat = (15 : Fin 16).val ∧ State.reset.zones.grantee = none ∧ 3 < (4 : Byte).toNat ∧
      1 < (2 : Byte).toNat ∧ ¬ ((words (5, 4)).get .x).lo.toInt ≤ ((words (5, 4)).get .x).hi.toInt ∧
      ((words (-10, 10)).get .x).lo.toInt ≤ ((words (-10, 10)).get .x).hi.toInt) ∧
    (zoneKindArg 0 0xFF = some .forbidden ∧ zoneKindArg 1 1 = some (.privateTo .one) ∧
      zoneKindArg 2 0xFF = some (.shared none) ∧ zoneKindArg 3 0xFF = some .rack) ∧
    (Ready oneArmed ∧ oneArmed.oneArm = true) ∧
    (zoned (.shared (some .one)) false State.reset).zone 3 = some ⟨false, .shared (some .one), unitBox, 5⟩ ∧
    ((zoned .rack false State.reset).zone 3 = some ⟨false, .rack, unitBox, 5⟩ ∧ (2 : Fin 16) ≠ 3 ∧
      (zoned .rack false granted).rack.arbiter = .granted .zero false false false) ∧
    (State.reset.zone 3 = none ∧ (zoned .forbidden true State.reset).zone 3 = some ⟨true, .forbidden, unitBox, 5⟩) ∧
    (∀ together ∈ [true, false],
      let s := twoArms together State.reset
      Ready s ∧ s.zones.grantee = none ∧ s.referenced .zero = true ∧ s.referenced .one = true ∧
        s.zones.hold.zero.points = some ⟨.all 0, noMarks, none⟩ ∧
        s.zones.hold.one.points = some ⟨.all (if together then 0 else 1000), noMarks, none⟩ ∧
        s.zones.hold.zero.violated[(3 : Fin 16)] = false) ∧
    State.reset.zones.hold.zero.points = none := by decide +kernel

theorem witness_ZoneWriteStoresAndJudges_inside :
    Inside ⟨false, .shared none, unitBox, 5⟩ ⟨.all 0, noMarks, none⟩ ∧ ¬ Inside ⟨false, .shared none, unitBox, 5⟩ ⟨.all 1000, noMarks, none⟩ :=
  ⟨origin_inside _ _, far_outside _ _⟩

/-- Zone 3 VACANT, ACTIVE and SUSPENDED; the RACK zone while the rack is granted; and both arms before a SUSPENDED zone of
each kind. -/
theorem witness_ZonesAreSuspendedDeletedAndResumed :
    (Ready State.reset ∧ (3 : Byte).toNat = (3 : Fin 16).val ∧ State.reset.zone 3 = none ∧ State.reset.zones.grantee = none) ∧
    (zoned (.shared (some .one)) false State.reset).zone 3 = some ⟨false, .shared (some .one), unitBox, 5⟩ ∧
    ((zoned .rack false granted).zone 3 = some ⟨false, .rack, unitBox, 5⟩ ∧
      (zoned .rack false granted).rack.arbiter = .granted .zero false false false) ∧
    (∀ k ∈ [ZoneKind.forbidden, .privateTo .one, .rack, .shared none], ∀ together ∈ [true, false],
      let s := zoned k true (twoArms together State.reset)
      Ready s ∧ s.zone 3 = some ⟨true, k, unitBox, 5⟩ ∧ s.zones.grantee = none ∧ s.referenced .zero = true ∧
        s.zones.hold.zero.points = some ⟨.all 0, noMarks, none⟩ ∧
        s.zones.hold.one.points = some ⟨.all (if together then 0 else 1000), noMarks, none⟩ ∧
        s.zones.hold.zero.violated[(3 : Fin 16)] = false ∧ s.zones.hold.zero.permit[(3 : Fin 16)] = false) := by
  decide +kernel

/-- An axis in FAULT; a BLIND arm; a REFERENCED arm in a FORBIDDEN zone; and a cause added to an empty set, to another, and
to one that has it; an absent arm. -/
theorem witness_HoldsAreLatchedAndReleased :
    (Ready (axisAt 0 (.fault .quadrature) .normal) ∧ (0 : Byte).toNat = Side.zero.toNat ∧
      ((axisAt 0 (.fault .quadrature) .normal).axis .zero .x).state = .fault .quadrature) ∧
    (Ready State.reset ∧ State.reset.present .zero = true ∧ (State.reset.axis .zero .x).isFaulted = false ∧
      State.reset.referenced .zero = false ∧ State.reset.zones.hold.zero.causes.has .powerOn = true ∧
      State.reset.zones.hold.zero.causes ≠ Causes.none) ∧
    (∀ k ∈ [ZoneKind.forbidden, .privateTo .one, .rack, .shared (some .one), .shared none],
      let s := zoned k false (twoArms true State.reset)
      Ready s ∧ (s.axis .zero .x).isFaulted = false ∧ (s.axis .zero .y).isFaulted = false ∧
        (s.axis .zero .z).isFaulted = false ∧ s.referenced .zero = true ∧
        s.zones.hold.zero.points = some ⟨.all 0, noMarks, none⟩ ∧ s.zones.grantee ≠ some .zero ∧
        s.zone 3 = some ⟨false, k, unitBox, 5⟩ ∧ k ≠ .shared (some .zero) ∧ (∀ z : Fin 16, z ≠ 3 → s.zone z = none) ∧
        s.zones.hold.zero.permit[(3 : Fin 16)] = false ∧ s.zones.hold.zero.violated[(3 : Fin 16)] = false) ∧
    ((free .zero State.reset).zones.hold.zero.causes = Causes.none ∧ (free .zero State.reset).powered = true) ∧
    oneArmed.powered = true ∧ oneArmed.present .one = false := by decide +kernel

/-- An absent grantee; no arm in the RACK zone; and arm 0 in it, granted and not. -/
theorem witness_GranteeNoticesAreJudged :
    (Ready oneArmed ∧ oneArmed.present .one = false) ∧
    (Ready State.reset ∧ State.reset.present .one = true ∧ ∀ z : Fin 16, State.reset.zoneIsRack z = false) ∧
    (∀ acknowledged ∈ [true, false],
      let s := insideZone .zero (zoned .rack false (twoArms false (State.reset.setArbiter
        (.granted .zero acknowledged acknowledged false))))
      Ready s ∧ s.zone 3 = some ⟨false, .rack, unitBox, 5⟩ ∧ (∀ z : Fin 16, z ≠ 3 → s.zone z = none) ∧
        s.referenced .zero = true ∧ s.zones.hold.zero.points = some ⟨.all 0, noMarks, none⟩ ∧
        s.zones.hold.zero.inside[(3 : Fin 16)] = true ∧ s.zones.hold.one.inside[(3 : Fin 16)] = false ∧
        s.rack.arbiter = .granted .zero acknowledged acknowledged false ∧
        s.zones.hold.zero.permit[(3 : Fin 16)] = false ∧ s.zones.hold.zero.violated[(3 : Fin 16)] = false) := by
  decide +kernel

theorem witness_OnlyAReleaseEndsAHold :
    exec (.zoneDelete 3) State.reset = .next (after (.zoneDelete 3) State.reset) ∧ endsHolds State.reset (.zoneDelete 3) = false ∧
    State.reset.zones.hold.zero.causes.has .powerOn = true ∧ State.reset.holdActive .zero = true :=
  ⟨rfl, rfl, rfl, rfl⟩

/-- One RACK zone that is ACTIVE, and a service stack of two levels. -/
def lawfulZones : State :=
  { zoned .rack false { State.reset with pending := [.attnTake] } with attention := { Attention.reset with stack := [3, 1] } }

theorem witness_ZoneAndAttentionLawsAreKept :
    ZoneLaw lawfulZones ∧ AttentionLaw lawfulZones ∧ lawfulZones.quiet ∧
      step lawfulZones = .next (after .attnTake { lawfulZones with pending := [] }) := by
  refine ⟨⟨by decide +kernel, fun z r e h => ?_⟩, ⟨by decide, by decide, by decide, nofun⟩, rfl, rfl⟩
  have := somes (fun r : Zone => r.suspended = false)
    ((by decide +kernel : ∀ z : Fin 16, ((lawfulZones.zone z).all fun r => decide (r.suspended = false)) = true) z) r e
  rw [this] at h; cases h

/-! #### Witnesses: Reads -/

/-- Pocket 9 is the home pocket of tip 12, and pocket 8 of none; a check with a failed pass and one without. -/
theorem witness_ReadsAnswerAndChangeNothing :
    (Ready State.reset ∧ (1 : Byte).toNat = Side.one.toNat ∧ State.reset.present .one = true ∧
      (State.reset.axis .one .x).state ≠ .referenced) ∧
    (Ready workedCase ∧ (workedCase.axis .zero .x).state = .referenced ∧ (workedCase.axis .zero .y).state = .referenced ∧
      (workedCase.axis .zero .z).state = .referenced) ∧
    ((∀ i : Fin 16, (State.reset.string .zero).check.failedPasses[i] = 0) ∧
      let k := { LineCheck.reset with failedPasses := upd LineCheck.reset.failedPasses 15 2 }
      (k.failedPasses[(15 : Fin 16)] ≠ 0 ∧ ∀ j < (15 : Fin 16), k.failedPasses[j] = 0)) ∧
    (∀ i : Fin 64, activeAll (fun t => decide (i = 12 ∧ t.home = 9)) (withTip .inPocket State.reset).library.tips[i] = true) ∧
    (State.reset.zone 15 = none ∧ (zoned .rack false State.reset).zone 3 = some ⟨false, .rack, unitBox, 5⟩) := by
  decide +kernel

theorem witness_ReadsAnswerAndChangeNothing_mounted :
    Mounted workedCase .zero (some 12) ∧ EntryUsed workedCase .zero (some 12) (some workedEntry) :=
  ⟨worked_mounted, worked_entry⟩

end Sys2Proof.Tests
end

section
/-! SUPPORT. The law of the tip table (spec 01, R4, R5) as a property of the records alone, and what keeps it: the moves of
a record, the reports about it (R18 to R20), drift ageing (R22) and RESTART (R24). -/

namespace Sys2Proof.Machine

/-! ### The law of the tip table (R4, R5) -/

/-- The library's law as a property of its records alone: distinct module IDs, distinct home pockets, and at most one
record on each arm. -/
def Library.Lawful (r : Library) : Prop :=
  (∀ (i j : Fin 64) (t u : Tip), r.tips[i] = .active t → r.tips[j] = .active u → i ≠ j →
    t.moduleId ≠ u.moduleId ∧ t.home ≠ u.home) ∧
  ∀ (a : Arm) (i j : Fin 64) (t u : Tip), r.tips[i] = .active t → r.tips[j] = .active u →
    t.location = .onArm a → u.location = .onArm a → i = j

theorem libraryLaw_iff (s : State) : LibraryLaw s ↔ s.library.Lawful := Iff.rfl

/-- No record of the table is ON_ARM of the arm, but for the one in slot `i`. -/
def Library.FreeArm (r : Library) (i : Fin 64) (a : Arm) : Prop :=
  ∀ (j : Fin 64) (u : Tip), j ≠ i → r.tips[j] = .active u → u.location ≠ .onArm a

/-- A table whose ACTIVE records come from those of a lawful one, with their ID and home pocket, and on an arm only where
they were, is lawful. -/
theorem Library.Lawful.of_records {r q : Library} (h : r.Lawful)
    (hq : ∀ (i : Fin 64) (u : Tip), q.tips[i] = .active u → ∃ t, r.tips[i] = .active t ∧ t.moduleId = u.moduleId ∧
      t.home = u.home ∧ ∀ a, u.location = .onArm a → t.location = .onArm a) : q.Lawful := by
  refine ⟨fun i j t u ht hu hij => ?_, fun a i j t u ht hu hta hua => ?_⟩
  · obtain ⟨t', ht', hid, hhome, -⟩ := hq i t ht
    obtain ⟨u', hu', uid, uhome, -⟩ := hq j u hu
    rw [← hid, ← hhome, ← uid, ← uhome]
    exact h.1 i j t' u' ht' hu' hij
  · obtain ⟨t', ht', -, -, hloc⟩ := hq i t ht
    obtain ⟨u', hu', -, -, uloc⟩ := hq j u hu
    exact h.2 a i j t' u' ht' hu' (hloc a hta) (uloc a hua)

/-- A record with an ID and a home pocket of no other ACTIVE record, on an arm only where no other is, may be written. -/
theorem Library.Lawful.write {r : Library} (h : r.Lawful) (i : Fin 64) (t : Tip)
    (hnew : ∀ (j : Fin 64) (u : Tip), j ≠ i → r.tips[j] = .active u → u.moduleId ≠ t.moduleId ∧ u.home ≠ t.home)
    (hfree : ∀ a, t.location = .onArm a → r.FreeArm i a) :
    ({ r with tips := upd r.tips i (.active t) } : Library).Lawful := by
  refine ⟨fun j k u v hu hv hjk => ?_, fun a j k u v hu hv hua hva => ?_⟩
  all_goals simp only [upd_get] at hu hv
  · split at hu <;> split at hv
    · simp_all
    · cases hu
      obtain ⟨hid, hhome⟩ := hnew k v (by simp_all [eq_comm]) hv
      exact ⟨hid.symm, hhome.symm⟩
    · cases hv
      exact hnew j u (by simp_all [eq_comm]) hu
    · exact h.1 j k u v hu hv hjk
  · split at hu <;> split at hv
    · simp_all
    · cases hu
      exact absurd hva (hfree a hua k v (by simp_all [eq_comm]) hv)
    · cases hv
      exact absurd hua (hfree a hva j u (by simp_all [eq_comm]) hu)
    · exact h.2 a j k u v hu hv hua hva

/-- The record of a slot may be replaced by one with its ID and home pocket, on an arm only where no other is. -/
theorem Library.Lawful.rewrite {r : Library} (h : r.Lawful) {i : Fin 64} {t : Tip} (ht : r.tips[i] = .active t) (v : Tip)
    (hid : v.moduleId = t.moduleId) (hhome : v.home = t.home)
    (hfree : ∀ a, v.location = .onArm a → t.location = .onArm a ∨ r.FreeArm i a) :
    ({ r with tips := upd r.tips i (.active v) } : Library).Lawful := by
  refine h.write i v (fun j u hj hu => ?_) fun a ha => ?_
  · rw [hid, hhome]
    exact h.1 j i u t hu ht hj
  · rcases hfree a ha with hta | hfree
    · intro j u hj hu hua
      exact hj (h.2 a j i u t hu ht hua hta)
    · exact hfree

/-- A slot may lose its ACTIVE record. -/
theorem Library.Lawful.erase {r : Library} (h : r.Lawful) (i : Fin 64) (slot : TipSlot) (hs : ∀ t, slot ≠ .active t) :
    ({ r with tips := upd r.tips i slot } : Library).Lawful := by
  refine h.of_records fun j u hu => ?_
  simp only [upd_get] at hu
  split at hu
  · exact absurd hu (hs u)
  · exact ⟨u, hu, rfl, rfl, fun _ h => h⟩

theorem State.activeTip_eq_some_iff (s : State) (i : Fin 64) (t : Tip) :
    s.activeTip i = some t ↔ s.library.tips[i] = .active t := by
  unfold State.activeTip TipSlot.activeTip
  split <;> simp_all

theorem State.activeTip_eq_none_iff (s : State) (i : Fin 64) :
    s.activeTip i = none ↔ ∀ t, s.library.tips[i] ≠ .active t := by
  rw [Option.eq_none_iff_forall_ne_some]
  exact forall_congr' fun t => not_congr (s.activeTip_eq_some_iff i t)

theorem State.losesMounted_iff (s : State) (a : Arm) (keep : Option (Fin 64)) (i : Fin 64) :
    s.losesMounted a keep i = true ↔
      (∃ t, s.library.tips[i] = .active t ∧ t.location = .onArm a) ∧ some i ≠ keep := by
  unfold State.losesMounted
  rw [Bool.and_eq_true, bne_iff_ne, ne_comm, Option.any_eq_true]
  simp [State.activeTip_eq_some_iff]

/-- After the mounted records of an arm are lost every ACTIVE record is one of before, at its place or MISSING. -/
theorem State.loseMounted_active (s : State) (a : Arm) (keep : Option (Fin 64)) (i : Fin 64) (u : Tip)
    (hu : (s.loseMounted a keep).library.tips[i] = .active u) :
    ∃ t, s.library.tips[i] = .active t ∧
      u = { t with location := if t.location = .onArm a ∧ some i ≠ keep then .missing else t.location } := by
  rw [State.loseMounted_tip] at hu
  split at hu
  · rename_i hl
    obtain ⟨⟨t, ht, hloc⟩, hk⟩ := (s.losesMounted_iff a keep i).mp hl
    rw [ht] at hu
    cases hu
    exact ⟨t, ht, by simp [hloc, hk]⟩
  · rename_i hl
    rw [State.losesMounted_iff] at hl
    have hn : ¬ (u.location = .onArm a ∧ some i ≠ keep) := fun h => hl ⟨⟨u, hu, h.1⟩, h.2⟩
    exact ⟨u, hu, by rw [if_neg hn]⟩

/-- No record but the one kept is left on the arm (R5). -/
theorem State.loseMounted_free (s : State) (a : Arm) (i : Fin 64) :
    (s.loseMounted a (some i)).library.FreeArm i a := by
  intro j u hj hu hloc
  obtain ⟨t, -, rfl⟩ := s.loseMounted_active a (some i) j u hu
  by_cases ht : t.location = .onArm a <;> simp [ht, hj] at hloc

/-- The slot that is kept keeps its content. -/
theorem State.loseMounted_kept (s : State) (a : Arm) (i : Fin 64) :
    (s.loseMounted a (some i)).library.tips[i] = s.library.tips[i] := by
  rw [State.loseMounted_tip, if_neg]
  rw [State.losesMounted_iff]
  simp

/-! ### The moves of a record -/

section
variable {s : State}

theorem State.setTip_lawful (h : s.library.Lawful) {i : Fin 64} {t : Tip} (ht : s.activeTip i = some t) (v : Tip)
    (hid : v.moduleId = t.moduleId) (hhome : v.home = t.home) (hloc : v.location = t.location) :
    (s.setTip i (.active v)).library.Lawful := by
  rw [State.activeTip_eq_some_iff] at ht
  exact h.rewrite ht v hid hhome fun a ha => .inl (hloc ▸ ha)

/-- A move of an ACTIVE record keeps the law when it brings it to no arm, or to one that is free. -/
theorem State.moveTip_lawful (h : s.library.Lawful) {i : Fin 64} {t : Tip} (ht : s.activeTip i = some t) (v : Tip)
    (hid : v.moduleId = t.moduleId) (hhome : v.home = t.home) (loc : Location)
    (hfree : ∀ a, loc = .onArm a → s.library.FreeArm i a) : (s.moveTip i v loc).library.Lawful := by
  rw [State.activeTip_eq_some_iff] at ht
  rw [State.moveTip_library]
  exact h.rewrite ht _ hid hhome fun a ha => .inr (hfree a ha)

theorem State.loseMounted_lawful (h : s.library.Lawful) (a : Arm) (keep : Option (Fin 64)) :
    (s.loseMounted a keep).library.Lawful := by
  refine h.of_records fun i u hu => ?_
  obtain ⟨t, ht, rfl⟩ := s.loseMounted_active a keep i u hu
  refine ⟨t, ht, rfl, rfl, fun b hb => ?_⟩
  dsimp only at hb
  split at hb
  · cases hb
  · exact hb

/-- A record is brought to an arm from which every other one is lost first (R5). -/
theorem State.mount_lawful (h : s.library.Lawful) (a : Arm) {i : Fin 64} {t : Tip} (ht : s.activeTip i = some t) :
    ((s.loseMounted a (some i)).moveTip i t (.onArm a)).library.Lawful := by
  have hkept : (s.loseMounted a (some i)).activeTip i = some t := by
    rw [← ht, State.activeTip, State.loseMounted_kept, State.activeTip]
  refine State.moveTip_lawful (State.loseMounted_lawful h a _) hkept t rfl rfl _ fun b hb => ?_
  cases hb
  exact s.loseMounted_free a i

/-! ### The reports (R18 to R20) -/

@[simp] theorem State.headBecomesTip_library (a : Arm) (mark : Bool) : (s.headBecomesTip a mark).library = s.library := rfl

@[simp] theorem State.headBecomes_library (a : Arm) (x : HeadState) : (s.headBecomes a x).library = s.library := rfl

@[simp] theorem State.clearForeign_library (p : Fin 20) : (s.clearForeign p).library = s.library := rfl

theorem State.stowReleaseBegins_lawful (h : s.library.Lawful) (a : Arm) (i : Fin 64) :
    (s.stowReleaseBegins a i).state.library.Lawful := by
  unfold State.stowReleaseBegins
  split
  · rename_i t ht
    split
    · exact State.moveTip_lawful h ht t rfl rfl _ (by simp)
    · exact h
  · exact h

theorem State.stowTransferComplete_lawful (h : s.library.Lawful) (a : Arm) (i : Fin 64) :
    (s.stowTransferComplete a i).state.library.Lawful := by
  unfold State.stowTransferComplete
  split
  · rename_i t ht
    split
    · exact State.moveTip_lawful h ht t rfl rfl _ (by simp)
    · exact h
  · exact h

theorem State.pickBegins_lawful (h : s.library.Lawful) (a : Arm) (i : Fin 64) :
    (s.pickBegins a i).state.library.Lawful := by
  unfold State.pickBegins
  split
  · rename_i t ht
    split
    · exact State.moveTip_lawful h ht t rfl rfl _ (by simp)
    · exact h
  · exact h

theorem State.identityMatched_lawful (h : s.library.Lawful) (a : Arm) (i : Fin 64) :
    (s.identityMatched a i).state.library.Lawful := by
  unfold State.identityMatched
  split
  · rename_i t ht
    split
    · exact State.mount_lawful h a ht
    · exact h
  · exact h

theorem State.transitResolved_lawful (h : s.library.Lawful) (a : Arm) (i : Fin 64) (occupied : Bool) :
    (s.transitResolved a i occupied).state.library.Lawful := by
  unfold State.transitResolved
  split
  · rename_i t ht
    split
    · exact State.moveTip_lawful h ht t rfl rfl _ (by cases occupied <;> simp)
    · exact h
  · exact h

theorem State.identityUnmatched_lawful (h : s.library.Lawful) (a : Arm) (id : Option Word) :
    (s.identityUnmatched a id).state.library.Lawful := State.loseMounted_lawful h a none

theorem State.identityReport_lawful (h : s.library.Lawful) (a : Arm) (id : Option Word) :
    (s.identityReport a id).state.library.Lawful := by
  unfold State.identityReport
  split
  · exact State.identityUnmatched_lawful h a id
  · split
    · exact State.identityUnmatched_lawful h a id
    · rename_i t ht
      split
      · exact State.identityUnmatched_lawful h a id
      · split
        · exact h
        · exact State.mount_lawful h a ht

theorem State.moduleLost_lawful (h : s.library.Lawful) (a : Arm) : (s.moduleLost a).state.library.Lawful := by
  unfold State.moduleLost
  split
  · exact State.loseMounted_lawful h a none
  · exact h

theorem State.libraryHomeEmpty_lawful (h : s.library.Lawful) (p : Fin 20) :
    (s.libraryHomeEmpty p).state.library.Lawful := by
  unfold State.libraryHomeEmpty
  split
  · exact h
  · split
    · rename_i t ht
      split
      · exact State.moveTip_lawful h ht t rfl rfl _ (by simp)
      · exact h
    · exact h

theorem State.libraryHomeOccupied_lawful (h : s.library.Lawful) (p : Fin 20) :
    (s.libraryHomeOccupied p).state.library.Lawful := by
  unfold State.libraryHomeOccupied
  split
  · exact h
  · split
    · rename_i t ht
      split
      · rw [State.raise_library]
        exact State.moveTip_lawful h ht t.suspectEntries rfl rfl _ (by simp)
      · exact h
    · exact h

@[simp] theorem State.registrationClaim_library (id : Word) : (s.registrationClaim id).2.library = s.library := by
  unfold State.registrationClaim
  split <;> rfl

/-! ### Drift ageing and RESTART (R22, R24) -/

theorem TipSlot.suspectEntry_active {a : Arm} {slot : TipSlot} {u : Tip} (h : slot.suspectEntry a = .active u) :
    ∃ t, slot = .active t ∧ u = { t with entries := t.entries.set a ((t.entries.get a).map Entry.toSuspect) } := by
  cases slot <;> simp_all [TipSlot.suspectEntry]

theorem State.ageArm_lawful (h : s.library.Lawful) (a : Arm) : (s.ageArm a).2.library.Lawful := by
  unfold State.ageArm
  split
  · split
    · refine h.of_records fun i u hu => ?_
      simp only [Fin.getElem_fin, Vector.getElem_ofFn] at hu
      split at hu
      · obtain ⟨t, ht, rfl⟩ := TipSlot.suspectEntry_active hu
        exact ⟨t, ht, rfl, rfl, fun _ h => h⟩
      · exact ⟨u, hu, rfl, rfl, fun _ h => h⟩
    · exact h
  · exact h

theorem State.driftAge_lawful (h : s.library.Lawful) : s.driftAge.library.Lawful := by
  have h1 : ((s.ageArm .zero).2.ageArm .one).2.library.Lawful :=
    State.ageArm_lawful (State.ageArm_lawful h .zero) .one
  unfold State.driftAge
  dsimp only
  split
  · rwa [State.raise_library]
  · exact h1

/-- RESTART leaves a record ON_ARM of no arm, and every other one where it is (R24). -/
theorem TipSlot.restart_active {slot : TipSlot} {u : Tip} (h : slot.restart = .active u) :
    ∃ t, slot = .active t ∧ t.moduleId = u.moduleId ∧ t.home = u.home ∧ ∀ a, u.location ≠ .onArm a := by
  cases slot with
  | vacant => simp [TipSlot.restart] at h
  | retired t => simp [TipSlot.restart] at h
  | active t =>
    refine ⟨t, rfl, ?_⟩
    cases ht : t.location <;> simp [TipSlot.restart, ht] at h <;> cases h <;> simp [ht]

theorem Library.restart_lawful {r : Library} (h : r.Lawful) : r.restart.Lawful := by
  refine h.of_records fun i u hu => ?_
  simp only [Library.restart, Fin.getElem_fin, Vector.getElem_map] at hu
  obtain ⟨t, ht, hid, hhome, hno⟩ := TipSlot.restart_active hu
  exact ⟨t, ht, hid, hhome, fun a ha => absurd ha (hno a)⟩

end

end Sys2Proof.Machine
end

section
/-! SUPPORT. The operations of the other blocks leave the tip table alone: one lemma for each. -/

namespace Sys2Proof.Machine

variable {s : State}

/-! ### The blocks that leave the tip table alone -/

/-! #### Settings of attention, factors and groups (spec 10, spec 04) -/

@[simp] theorem State.addCause_library (a : Arm) (c : HoldCause) : (s.addCause a c).library = s.library := by
  rcases s.addCause_cases a c with ⟨-, e⟩ | ⟨-, -, e⟩ | ⟨-, -, e⟩ <;> simp [e]

@[simp] theorem State.takeFactors_library (f : Factors) : (s.takeFactors f).library = s.library := by
  simp only [State.takeFactors]
  split <;> split <;> simp

@[simp] theorem State.recompute_library : s.recompute.library = s.library := State.takeFactors_library _

@[simp] theorem State.makeStale_library (f : TempGroup → Bool) : (s.makeStale f).library = s.library := by
  simp only [State.makeStale]
  split <;> simp

/-! #### The touch unit (spec 06) -/

@[simp] theorem State.touchEffect_library (a : Arm) (p : Point) (o : TouchOutcome) :
    (s.touchEffect a p o).library = s.library := by
  cases o <;> simp [State.touchEffect]

@[simp] theorem State.acceptTouch_library (a : Arm) : (s.acceptTouch a).library = s.library := by
  unfold State.acceptTouch
  split <;> simp

@[simp] theorem State.triggerEdge_library (a : Arm) : (s.triggerEdge a).library = s.library := by
  unfold State.triggerEdge
  split <;> simp

@[simp] theorem State.triggerRelease_library (a : Arm) : (s.triggerRelease a).library = s.library := by
  unfold State.triggerRelease
  split <;> simp

@[simp] theorem State.computeTouch_library (a : Arm) : (s.computeTouch a).library = s.library := by
  unfold State.computeTouch
  split <;> simp

@[simp] theorem State.placePoint_library (a : Arm) : (s.placePoint a).library = s.library := by
  simp only [State.placePoint]
  split
  · rfl
  · split <;> simp

/-! #### Lids and the arbiter (spec 07) -/

@[simp] theorem State.setLid_library (p : Fin 20) (lid : LidState) (drive : Bool) (timer : Timer) :
    (s.setLid p lid drive timer).library = s.library := rfl

@[simp] theorem State.jam_library (p : Fin 20) : (s.jam p).library = s.library := by
  simp only [State.jam]
  split <;> simp

@[simp] theorem State.closeLid_library (p : Fin 20) : (s.closeLid p).2.library = s.library := by
  rcases s.closeLid_cases p with ⟨e, -⟩ | ⟨-, e⟩
  · rw [e]
  · rw [e]
    split <;> rfl

@[simp] theorem State.openLid_library (a : Arm) (p : Fin 20) : (s.openLid a p).2.library = s.library := by
  rcases s.openLid_cases a p with e | ⟨-, -, -, -, e⟩
  · rw [e]
  · rw [e]
    dsimp only
    split <;> rfl

@[simp] theorem State.reexamineAt_library (p : Fin 20) : (s.reexamineAt p).library = s.library := by
  unfold State.reexamineAt
  split <;> simp

@[simp] theorem State.reexamine_library : s.reexamine.library = s.library := by
  unfold State.reexamine
  generalize List.finRange 20 = l
  induction l generalizing s with
  | nil => rfl
  | cons p l ih => simp [ih]

@[simp] theorem State.lidSense_library (p : Fin 20) : (s.lidSense p).library = s.library := by
  simp only [State.lidSense]
  split <;> simp

@[simp] theorem State.lidExpiry_library (p : Fin 20) : (s.lidExpiry p).library = s.library := by
  simp only [State.lidExpiry]
  split <;> simp

@[simp] theorem State.senseChange_library (p : Fin 20) : (s.senseChange p).library = s.library := by
  simp only [State.senseChange]
  split <;> simp

@[simp] theorem State.grantTest_library : s.grantTest.library = s.library := by
  rcases s.grantTest_cases with ⟨e, -⟩ | ⟨a, rest, -, -, e⟩ <;> simp [e]

@[simp] theorem State.rackRequest_library (a : Arm) : (s.rackRequest a).2.library = s.library := by
  rcases s.rackRequest_cases a with e | ⟨_, _, -, -, e⟩ | ⟨-, -, e⟩ <;> simp [e]

@[simp] theorem State.freeRack_library : s.freeRack.library = s.library := by simp [State.freeRack]

@[simp] theorem State.releaseIfDone_library : s.releaseIfDone.library = s.library := by
  unfold State.releaseIfDone
  split <;> simp

@[simp] theorem State.rackEntry_library (a : Arm) : (s.rackEntry a).library = s.library := by
  unfold State.rackEntry
  split
  · split
    · dsimp only
      split <;> simp
    · rfl
  · rfl

@[simp] theorem State.rackExit_library (a : Arm) : (s.rackExit a).library = s.library := by
  unfold State.rackExit
  split
  · split <;> simp
  · rfl

@[simp] theorem State.rackChangeEnded_library (a : Arm) : (s.rackChangeEnded a).library = s.library := by
  unfold State.rackChangeEnded
  split
  · simp
  · split
    · split <;> simp
    · rfl

@[simp] theorem State.grantExpiry_library : s.grantExpiry.library = s.library := by
  unfold State.grantExpiry
  split
  · split <;> simp
  · rfl

@[simp] theorem State.tellLockedOut_library (arms : List Arm) : (s.tellLockedOut arms).library = s.library := by
  unfold State.tellLockedOut
  induction arms generalizing s with
  | nil => rfl
  | cons a l ih => simp [ih]

@[simp] theorem State.doubleFault_library (a : Arm) : (s.doubleFault a).library = s.library := by
  unfold State.doubleFault
  split <;> simp

/-! #### The zone monitor (spec 09) -/

@[simp] theorem State.reportRack_library (a : Arm) (entered left : Bool) :
    (s.reportRack a entered left).library = s.library := by
  unfold State.reportRack
  split
  · split
    · simp
    · split <;> simp
  · rfl

@[simp] theorem State.judgeOne_library (j : Judgement) : (s.judgeOne j).library = s.library := by
  simp only [State.judgeOne, State.reportRack_library]
  split <;> simp

@[simp] theorem State.judgeIf_library (j : Option Judgement) : (s.judgeIf j).library = s.library := by
  unfold State.judgeIf
  split <;> simp

@[simp] theorem State.judge_library (a : Arm) (named : ZoneSet) (claims : Bool) :
    (s.judge a named claims).library = s.library := by
  simp only [State.judge]
  split <;> simp

@[simp] theorem State.judgeAtRack_library (a : Arm) : (s.judgeAtRack a).library = s.library := by
  unfold State.judgeAtRack
  split
  · split <;> simp
  · rfl

@[simp] theorem State.takeGrantee_library (g : Option Arm) : (s.takeGrantee g).library = s.library := by
  simp only [State.takeGrantee, State.judgeAtRack_library]
  split
  · split <;> simp
  · rfl

@[simp] theorem State.noticeGrantee_library (g : Option Arm) : (s.noticeGrantee g).library = s.library := by
  unfold State.noticeGrantee
  split <;> simp

@[simp] theorem State.judgeZone_library (z : Fin 16) : (s.judgeZone z).library = s.library := by
  unfold State.judgeZone
  split <;> simp

@[simp] theorem State.writeZone_library (z : Fin 16) (kind : ZoneKind) (box : Box) (margin : Int) :
    (s.writeZone z kind box margin).library = s.library := by
  simp [State.writeZone]

@[simp] theorem State.releaseHold_library (a : Arm) : (s.releaseHold a).library = s.library := by
  simp [State.releaseHold]

@[simp] theorem State.form_library (a : Arm) : (s.form a).library = s.library := by
  unfold State.form
  split
  · rfl
  · dsimp only
    split <;> simp

@[simp] theorem State.goBlind_library (a : Arm) : (s.goBlind a).library = s.library := rfl

/-! #### The axis unit (spec 02) -/

@[simp] theorem State.guardChange_library (a : Arm) (was : Bool) : (s.guardChange a was).library = s.library := by
  unfold State.guardChange
  split <;> simp

@[simp] theorem State.axisFault_library (a : Arm) (was : Bool) : (s.axisFault a was).library = s.library := by
  simp [State.axisFault]

@[simp] theorem State.takePhase_library (a : Arm) (i : Axis) (p : Phase) : (s.takePhase a i p).library = s.library := by
  simp only [State.takePhase]
  split
  · simp
  · split <;> simp
  · simp

@[simp] theorem State.takeMark_library (a : Arm) (i : Axis) : (s.takeMark a i).library = s.library := by
  simp only [State.takeMark]
  split <;> simp

@[simp] theorem State.home_library (a : Arm) (i : Axis) (v : Int) : (s.home a i v).library = s.library := by
  simp [State.home]

@[simp] theorem State.setupArm_library (a : Arm) (o : Point) (d : Axes Direction) (z : Point) :
    (s.setupArm a o d z).library = s.library := by
  simp only [State.setupArm]
  split <;> simp

/-! #### The strings (spec 03) -/

@[simp] theorem State.sweepReading_library (g : Strg) (t : Transaction) (e : LineEnd) :
    (s.sweepReading g t e).library = s.library := by
  simp only [State.sweepReading]
  split
  · rfl
  · split
    · rfl
    · split <;> simp

@[simp] theorem State.checkReading_library (g : Strg) (t : Transaction) (e : LineEnd) :
    (s.checkReading g t e).library = s.library := by
  simp only [State.checkReading]
  split <;> simp

@[simp] theorem State.kickCheck_library (g : Strg) : (s.kickCheck g).library = s.library := by
  simp only [State.kickCheck]
  split <;> simp [State.begin]

@[simp] theorem State.kick_library (g : Strg) : (s.kick g).library = s.library := by
  simp only [State.kick]
  split
  · rfl
  · split
    · simp
    · split
      · simp
      · split <;> simp [State.begin]

@[simp] theorem State.formGroups_library : s.formGroups.library = s.library := by simp [State.formGroups]

@[simp] theorem State.scanTransition_library : s.scanTransition.library = s.library := by
  unfold State.scanTransition
  split <;> simp

@[simp] theorem State.startPass_library (g : Strg) : (s.startPass g).library = s.library := by
  simp only [State.startPass]
  split <;> simp

@[simp] theorem State.makeTransactionStale_library (g : Strg) (i : Fin 16) :
    (s.makeTransactionStale g i).library = s.library := by
  unfold State.makeTransactionStale
  split
  · split <;> simp
  · rfl

@[simp] theorem State.writeSensor_library (g : Strg) (i : Fin 16) (b : Option TempGroup) (t : Int) (n : Nat) :
    (s.writeSensor g i b t n).library = s.library := by
  unfold State.writeSensor
  split <;> simp

@[simp] theorem State.setWindow_library (g : Strg) (w k : Nat) : (s.setWindow g w k).library = s.library := by
  simp only [State.setWindow]
  split <;> simp [State.emptyWindows]

@[simp] theorem State.ageGroups_library : s.ageGroups.library = s.library := by
  unfold State.ageGroups
  split <;> simp

@[simp] theorem State.staleGroup_library (g : TempGroup) : (s.staleGroup g).library = s.library := by
  unfold State.staleGroup
  split <;> simp

/-! #### The change sequencer's own record (spec 08) -/

@[simp] theorem State.enterStage_library (a : Arm) (st : ChangeState) (t : Timer) :
    (s.enterStage a st t).library = s.library := rfl

@[simp] theorem State.stopTimer_library (a : Arm) : (s.stopTimer a).library = s.library := rfl

@[simp] theorem State.abandonRead_library (a : Arm) : (s.abandonRead a).library = s.library := rfl

@[simp] theorem State.dropOpened_library (a : Arm) (p : Fin 20) : (s.dropOpened a p).library = s.library := rfl

@[simp] theorem State.discardStaged_library (a : Arm) : (s.discardStaged a).library = s.library := by
  simp only [State.discardStaged]
  split <;> simp

@[simp] theorem State.completeAtOnce_library (a : Arm) : (s.completeAtOnce a).library = s.library := by
  simp [State.completeAtOnce]

theorem State.closeAt_library {a : Arm} {p : Fin 20} {t : State} (h : s.closeAt a p = some t) :
    t.library = s.library := by
  have hl := s.closeLid_library p
  unfold State.closeAt at h
  split at h <;> simp_all
  rw [← h]
  simpa using hl

@[simp] theorem State.closeAll_library (a : Arm) (lids : List (Fin 20)) : (s.closeAll a lids).1.library = s.library := by
  unfold State.closeAll
  generalize false = jammed
  induction lids generalizing s jammed with
  | nil => rfl
  | cons p l ih =>
    rw [List.foldl_cons]
    dsimp only
    split
    · rw [ih]; rfl
    · rename_i t ht
      rw [ih, State.closeAt_library ht]

@[simp] theorem State.moduleEdge_library (a : Arm) (level : Bool) : (s.moduleEdge a level).library = s.library := rfl

end Sys2Proof.Machine
end

section
/-! SUPPORT. The operations of the rack controller, the scanner and the change sequencer through which a report reaches the
library keep the law of the tip table. -/

namespace Sys2Proof.Machine

variable {s : State} {a : Arm} {p : Fin 20} {g : Strg}

/-- Both branches of a test are lawful. -/
theorem Library.Lawful.ite {c : Prop} [Decidable c] {s t : State} (hs : s.library.Lawful) (ht : t.library.Lawful) :
    (if c then s else t).library.Lawful := by
  split
  · exact hs
  · exact ht

/-! ### Comparison and report (R116 to R118) -/

theorem Library.Lawful.seenEmpty (h : s.library.Lawful) : (s.seenEmpty p).state.library.Lawful := by
  have h1 := State.libraryHomeEmpty_lawful h p
  simp only [State.seenEmpty]
  split
  · rwa [State.raise_library]
  · exact h1

theorem Library.Lawful.seenOccupied (h : s.library.Lawful) : (s.seenOccupied p).state.library.Lawful := by
  have h1 := State.libraryHomeOccupied_lawful h p
  simp only [State.seenOccupied]
  split
  · exact h1
  · rwa [State.raise_library]

theorem Library.Lawful.compareIfWatched (h : s.library.Lawful) : (s.compareIfWatched p).library.Lawful := by
  refine .ite h ?_
  unfold State.compare
  split
  · exact .seenEmpty h
  · exact .seenOccupied h
  · exact h

theorem Library.Lawful.takeReport {r : PocketReport} (h : s.library.Lawful) : (s.takeReport a r).library.Lawful := by
  simp only [State.takeReport]
  split
  · exact .ite (by rw [State.reexamine_library]; exact .compareIfWatched h) (.compareIfWatched h)
  · exact .ite (by rw [State.reexamine_library]; exact h) h

theorem Library.Lawful.occupancyChange (h : s.library.Lawful) : (s.occupancyChange p).library.Lawful :=
  .ite h (.compareIfWatched h)

theorem Library.Lawful.restartCompareAt (h : s.library.Lawful) : (s.restartCompareAt p).library.Lawful :=
  .ite (.ite (.compareIfWatched h) (.occupancyChange h)) h

theorem Library.Lawful.writePocket {st : PocketState} {dock : Two (Option Box)} (h : s.library.Lawful) :
    (s.writePocket p st dock).library.Lawful := by
  have h1 : ∀ t : State, t.library = s.library → t.library.Lawful := fun t e => e ▸ h
  refine .ite (.compareIfWatched (h1 _ ?_)) (h1 _ ?_) <;> split <;> rfl

/-! ### Sweep ends (R22, R55) -/

theorem Library.Lawful.endIfSwept (h : s.library.Lawful) : s.endIfSwept.library.Lawful := by
  refine .ite ?_ h
  rw [State.sweepEnd, State.scanTransition_library]
  exact State.driftAge_lawful (by simpa using h)

theorem Library.Lawful.goOn (h : s.library.Lawful) : (s.goOn g).library.Lawful :=
  .endIfSwept (by rwa [State.kick_library])

theorem Library.Lawful.beginSweep {t : Timer} (h : s.library.Lawful) : (s.beginSweep t).library.Lawful :=
  .endIfSwept (by simpa using h)

theorem Library.Lawful.transactionEnds {e : LineEnd} (h : s.library.Lawful) :
    (s.transactionEnds g e).library.Lawful := by
  unfold State.transactionEnds
  split
  · exact h
  · refine .goOn ?_
    split
    · rwa [State.sweepReading_library]
    · rwa [State.checkReading_library]

theorem Library.Lawful.scanExpiry (h : s.library.Lawful) : s.scanExpiry.library.Lawful :=
  .ite (.ite (.beginSweep h) (.ite h h)) h

theorem Library.Lawful.thaw (h : s.library.Lawful) : s.thaw.library.Lawful := .endIfSwept (by simpa using h)

theorem Library.Lawful.limitEnds (h : s.library.Lawful) : (s.limitEnds g).library.Lawful := .goOn h

theorem Library.Lawful.scanCommand {m : ScanMode} (h : s.library.Lawful) : (s.scanCommand m).library.Lawful := by
  simp only [State.scanCommand]
  split <;> first | exact h | exact .beginSweep h

theorem Library.Lawful.startCheck {n : Nat} (h : s.library.Lawful) : (s.startCheck g n).library.Lawful := .goOn h

/-! ### The end of a change, faults and reconciliation (R151 to R158) -/

theorem Library.Lawful.sendReport {pocket : Option (Fin 20)} {suppressed stow : Bool} (h : s.library.Lawful) :
    (s.sendReport a pocket suppressed stow).library.Lawful := .takeReport h

theorem Library.Lawful.finishChange {r : ChangeResult} (h : s.library.Lawful) :
    (s.finishChange a r).library.Lawful := by
  simp only [State.finishChange, State.raise_library, State.setChange_library, State.rackChangeEnded_library]
  exact .sendReport h

theorem Library.Lawful.endChange {r : ChangeResult} (h : s.library.Lawful) : (s.endChange a r).library.Lawful := by
  rw [State.endChange, State.discardStaged_library]
  exact .finishChange h

theorem Library.Lawful.faultChange {r : ChangeResult} (h : s.library.Lawful) :
    (s.faultChange a r).library.Lawful := .sendReport h

theorem Library.Lawful.resolveTransit {tip : Option (Fin 64)} (h : s.library.Lawful) :
    (s.resolveTransit a tip).library.Lawful := by
  unfold State.resolveTransit
  split
  · exact State.transitResolved_lawful h ..
  · exact h

theorem Library.Lawful.resolveAndEnd (h : s.library.Lawful) : (s.resolveAndEnd a).library.Lawful :=
  .endChange (.sendReport (.resolveTransit (.resolveTransit h)))

theorem Library.Lawful.moduleLost (h : s.library.Lawful) : (s.moduleLost a).state.library.Lawful :=
  State.moduleLost_lawful h a

theorem Library.Lawful.identifyHead (h : s.library.Lawful) : (s.identifyHead a).library.Lawful :=
  .ite h (.resolveAndEnd (.moduleLost h))

theorem Library.Lawful.changeDoubleFault (h : s.library.Lawful) : (s.changeDoubleFault a).library.Lawful :=
  .identifyHead (by rwa [State.doubleFault_library])

/-! ### Acceptance (R139 to R142) -/

theorem Library.Lawful.enterFetchApproach (h : s.library.Lawful) : (s.enterFetchApproach a).library.Lawful :=
  .ite h (.sendReport h)

theorem Library.Lawful.takeGrant (h : s.library.Lawful) : (s.takeGrant a).library.Lawful :=
  .ite (.ite (.sendReport h) (.enterFetchApproach h)) h

theorem Library.Lawful.acceptChange {r : ChangeRequest} (h : s.library.Lawful) :
    (s.acceptChange a r).library.Lawful := by
  have h1 : (((s.setChange a ((s.change a).accepted r (s.mountedTip a))).disarm a).rackRequest a).2.library.Lawful := by
    rwa [State.rackRequest_library]
  simp only [State.acceptChange]
  split <;> rename_i e <;> rw [e] at h1
  · exact .takeGrant h1
  · exact h1
  · exact .endChange h1

theorem Library.Lawful.completeChange (h : s.library.Lawful) : (s.completeChange a).library.Lawful := by
  have h1 : (s.finishChange a .completed).library.Lawful := .finishChange h
  simp only [State.completeChange, State.startStaged]
  split
  · exact h1
  · split
    · exact h1
    · rwa [State.completeAtOnce_library]
    · exact .acceptChange h1

/-! ### The stages (R143 to R150, R154) -/

theorem Library.Lawful.openAt {next : ChangeState} (h : s.library.Lawful) : (s.openAt a p next).library.Lawful := by
  have h1 : ((s.stopTimer a).openLid a p).2.library.Lawful := by rwa [State.openLid_library]
  unfold State.openAt
  split <;> rename_i e <;> rw [e] at h1
  · exact .faultChange h1
  · exact .faultChange h1
  · exact h1

theorem Library.Lawful.beginStow (h : s.library.Lawful) : (s.beginStow a p).library.Lawful := by
  unfold State.beginStow
  split
  · exact .faultChange h
  · rename_i i _
    have h1 := State.stowReleaseBegins_lawful h a i
    exact .ite (.sendReport h1) (.faultChange h1)

theorem Library.Lawful.completeStow (h : s.library.Lawful) : (s.completeStow a p).library.Lawful := by
  unfold State.completeStow
  split
  · exact .faultChange h
  · rename_i i _
    have h1 : ((s.stopTimer a).stowTransferComplete a i).state.library.Lawful :=
      State.stowTransferComplete_lawful (by exact h) a i
    exact .ite (.ite (.enterFetchApproach (.sendReport h1)) (.sendReport h1)) (.faultChange h1)

theorem Library.Lawful.beginPick (h : s.library.Lawful) : (s.beginPick a p).library.Lawful := by
  unfold State.beginPick
  split
  · exact .faultChange h
  · rename_i i _
    have h1 := State.pickBegins_lawful h a i
    exact .ite (.sendReport h1) (.faultChange h1)

theorem Library.Lawful.closeStowLid (h : s.library.Lawful) : (s.closeStowLid a p).library.Lawful := by
  unfold State.closeStowLid
  split
  · exact .faultChange h
  · rename_i e
    exact .sendReport (by rwa [State.closeAt_library e])

theorem Library.Lawful.clearStage (h : s.library.Lawful) : (s.clearStage a p).library.Lawful := by
  unfold State.clearStage
  split
  · refine .ite ?_ h
    dsimp only
    split
    · exact .faultChange h
    · rename_i e
      rwa [State.send_library, State.closeAt_library e]
  · exact .ite (.completeChange h) h

theorem Library.Lawful.makeRackSafe (h : s.library.Lawful) : (s.makeRackSafe a).library.Lawful := by
  simp only [State.makeRackSafe]
  split
  · have h1 (c : Change) : ((s.setChange a c).closeAll a (s.change a).opened).1.library.Lawful := by
      rwa [State.closeAll_library]
    exact .ite (.ite (.changeDoubleFault (h1 _)) (h1 _)) h
  · exact .ite (.identifyHead h) h
  · exact h

theorem Library.Lawful.advance (h : s.library.Lawful) : (s.advance a).library.Lawful := by
  unfold State.advance
  dsimp only
  split
  case h_1 => exact .makeRackSafe h
  case h_2 => exact .ite (.openAt h) h
  case h_3 => exact .ite (.faultChange h) (.ite (.beginStow h) h)
  case h_4 => exact .ite (.faultChange h) (.ite (.completeStow h) h)
  case h_5 => exact .clearStage h
  case h_6 => exact .ite (.ite (.closeStowLid h) h) (.ite (.openAt h) h)
  case h_7 => exact .ite (.faultChange h) (.ite (.beginPick h) h)
  case h_8 => exact .ite (.faultChange h) (.ite h h)
  case h_9 => exact .clearStage h
  case h_10 => exact h

/-! ### News from other blocks (R144 to R151) -/

theorem Library.Lawful.lidNews (h : s.library.Lawful) : (s.lidNews a p).library.Lawful := by
  refine .ite ?_ h
  split
  · exact h
  · exact h
  · exact .ite (.faultChange h) (.ite (.changeDoubleFault h) h)
  · exact h

theorem Library.Lawful.pocketFault (h : s.library.Lawful) : (s.pocketFault a).library.Lawful :=
  .ite (.endChange h) (.faultChange h)

theorem Library.Lawful.occupancyNews (h : s.library.Lawful) : (s.occupancyNews a p).library.Lawful := by
  simp only [State.occupancyNews]
  split <;> first | exact h | exact .ite (.pocketFault h) h

theorem Library.Lawful.takeLapse (h : s.library.Lawful) : (s.takeLapse a).library.Lawful := .ite (.faultChange h) h

theorem Library.Lawful.takeLockout (h : s.library.Lawful) : (s.takeLockout a).library.Lawful :=
  .ite (.endChange h) (.ite (.faultChange h) h)

theorem Library.Lawful.stepExpiry (h : s.library.Lawful) : (s.stepExpiry a).library.Lawful :=
  .ite (.ite (.changeDoubleFault h) (.ite (.faultChange h) h)) h

/-- Every message keeps the law. -/
theorem Library.Lawful.takeMessage (h : s.library.Lawful) (m : Message) : (s.takeMessage m).library.Lawful := by
  cases m with
  | granted a => exact .takeGrant h
  | lapsed a => exact .takeLapse h
  | lockedOut a => exact .takeLockout h
  | grantee g => rwa [State.takeMessage, State.takeGrantee_library]
  | lidChanged p => exact .lidNews (.lidNews h)
  | occupancyChanged p => exact .occupancyNews (.occupancyNews h)
  | testStage a => exact .advance h

theorem Library.Lawful.settle (h : s.library.Lawful) : s.settle.library.Lawful :=
  State.settle_keeps (P := LibraryLaw) (fun _ _ h => h) (fun _ m h => Library.Lawful.takeMessage h m) s h

/-! ### The head and the identity reader (R136, R137, R149, R158) -/

theorem Library.Lawful.headEvent (h : s.library.Lawful) : (s.headEvent a).library.Lawful := by
  unfold State.headEvent
  cases (s.head a).modulePresent <;> cases (s.head a).state
  case false.tip =>
    rw [State.addCause_library]
    exact .moduleLost h
  all_goals exact h

theorem Library.Lawful.moduleChanged (h : s.library.Lawful) : (s.moduleChanged a).library.Lawful := by
  simp only [State.moduleChanged]
  split
  case h_1 => exact .headEvent h
  case h_2 => exact .ite (.headEvent (.endChange h)) (.ite (.headEvent (.endChange h)) h)
  case h_12 => exact .ite (.resolveAndEnd (.moduleLost h)) h
  all_goals first | exact h | exact .ite h (.faultChange h) | exact .ite (.faultChange h) h

theorem Library.Lawful.moduleDebounced (h : s.library.Lawful) : (s.moduleDebounced a).library.Lawful :=
  .ite h (.moduleChanged h)

theorem Library.Lawful.identityRead {id : Word} (h : s.library.Lawful) : (s.identityRead a id).library.Lawful := by
  unfold State.identityRead
  split
  · exact .faultChange h
  · rename_i i _
    have h1 := State.identityMatched_lawful h a i
    exact .ite (.ite (.sendReport h1) (.faultChange h1)) (.faultChange h)

theorem Library.Lawful.readEnds {id : Option Word} (h : s.library.Lawful) : (s.readEnds a id).library.Lawful := by
  have h1 : (s.abandonRead a).library.Lawful := h
  simp only [State.readEnds]
  split
  · split
    · exact .identityRead h1
    · exact .faultChange h1
  · exact .resolveAndEnd (State.identityReport_lawful h1 a id)
  · exact State.identityReport_lawful h1 a id

theorem Library.Lawful.attemptFails {n : Nat} (h : s.library.Lawful) : (s.attemptFails a n).library.Lawful :=
  .ite h (.readEnds h)

theorem Library.Lawful.identityAnswer {id : Word} {correct : Bool} (h : s.library.Lawful) :
    (s.identityAnswer a id correct).library.Lawful := by
  unfold State.identityAnswer
  split
  · exact h
  · exact .ite (.readEnds h) (.attemptFails h)

theorem Library.Lawful.attemptTimeout (h : s.library.Lawful) : (s.attemptTimeout a).library.Lawful := by
  unfold State.attemptTimeout
  split
  · exact h
  · exact .attemptFails h

end Sys2Proof.Machine
end

section
/-! PROOF. Every request and every command keeps the law of the tip table (O21). -/

namespace Sys2Proof.Machine

variable {s : State}

/-! ### The requests of the library (R6 to R17) -/

/-- The duplicate test finds another ACTIVE record with the ID or the home pocket (R4, R7). -/
theorem State.duplicates_iff (i : Fin 64) (id : Word) (p : Fin 20) :
    s.duplicates i id p = true ↔
      ∃ (j : Fin 64) (u : Tip), j ≠ i ∧ s.library.tips[j] = .active u ∧ (u.moduleId = id ∨ u.home = p) := by
  simp [State.duplicates, Option.any_eq_true, State.activeTip_eq_some_iff, List.any_eq_true]

theorem State.not_duplicates_iff (i : Fin 64) (id : Word) (p : Fin 20) :
    s.duplicates i id p = false ↔
      ∀ (j : Fin 64) (u : Tip), j ≠ i → s.library.tips[j] = .active u → u.moduleId ≠ id ∧ u.home ≠ p := by
  rw [← Bool.not_eq_true, State.duplicates_iff]
  simp only [not_exists, not_and, not_or, ne_eq]

@[simp] theorem State.tipWriteReply_state (i : Fin 64) : (s.tipWriteReply i).state = s := by
  unfold State.tipWriteReply
  split <;> rfl

/-- A record whose ID and home pocket no other ACTIVE record has may be placed, on the arm of a claim or by its home
pocket (R8, R9). -/
theorem Library.Lawful.placeTip {i : Fin 64} {t : Tip} {claimed : Option Arm} (h : s.library.Lawful)
    (hnew : ∀ (j : Fin 64) (u : Tip), j ≠ i → s.library.tips[j] = .active u → u.moduleId ≠ t.moduleId ∧ u.home ≠ t.home) :
    (s.placeTip i t claimed).library.Lawful := by
  cases claimed with
  | some a =>
    refine (State.loseMounted_lawful h a (some i)).write i _ (fun j u hj hu => ?_) fun b hb => ?_
    · obtain ⟨v, hv, rfl⟩ := s.loseMounted_active a _ j u hu
      exact hnew j v hj hv
    · cases hb
      exact s.loseMounted_free a i
  | none =>
    have h1 : (s.setTip i (.active { t with location := s.locationByPocket t.home })).library.Lawful := by
      refine h.write i _ hnew fun a ha => ?_
      simp only [State.locationByPocket] at ha
      split at ha <;> cases ha
    exact .ite h1 h1

theorem Library.Lawful.placeClaimed {i : Fin 64} {t : Tip} {id : Word} (h : s.library.Lawful)
    (hd : s.duplicates i t.moduleId t.home = false) :
    ((s.registrationClaim id).2.placeTip i t (s.registrationClaim id).1).library.Lawful := by
  refine .placeTip (by rwa [State.registrationClaim_library]) ?_
  rw [State.registrationClaim_library]
  exact (State.not_duplicates_iff ..).mp hd

theorem Library.Lawful.rewriteTip {i : Fin 64} {t : Tip} {id : Word} {cls : TipClass} {p : Fin 20} (h : s.library.Lawful)
    (ht : s.library.tips[i] = .active t) (hd : s.duplicates i id p = false) :
    (s.rewriteTip i t id cls p).library.Lawful := by
  have hnew := (State.not_duplicates_iff ..).mp hd
  simp only [State.rewriteTip]
  split
  · exact .placeClaimed h hd
  · split
    · refine .ite ?_ ?_
      · rw [State.raise_library]
        exact .placeTip h hnew
      · exact .placeTip h hnew
    · exact h.write i _ hnew fun a ha j u hj hu hua => hj (h.2 a j i u t hu ht hua ha)

theorem Library.Lawful.tipWrite {tip : Byte} {id : Word} {cls home : Byte} (h : s.library.Lawful) :
    (tipWriteReq tip id cls home s).state.library.Lawful := by
  unfold tipWriteReq
  split
  · rename_i i c p _ _ _
    unfold tipWriteBody
    split
    · exact h
    · split
      · exact h
      · split
        · exact h
        · rename_i hd
          split
          · exact h
          · rw [State.tipWriteReply_state]
            exact .placeClaimed h (by simpa using hd)
    · rename_i t ht
      split
      · exact h
      · split
        · exact h
        · split
          · exact h
          · rename_i hd
            split
            · exact h
            · rw [State.tipWriteReply_state]
              exact .rewriteTip h ht (by simpa using hd)
  · exact h

theorem Library.Lawful.tipQualify {tip arm : Byte} {dx dy dz r : Word} {source : Byte} {temp : Word}
    (h : s.library.Lawful) : (tipQualifyReq tip arm dx dy dz r source temp s).state.library.Lawful := by
  unfold tipQualifyReq
  split
  · rename_i i a current _ _ _
    split
    · exact h
    · unfold tipQualifyBody
      split
      · exact h
      · rename_i t ht
        split
        · exact h
        · dsimp only
          split
          · exact State.setTip_lawful h ht _ rfl rfl rfl
          · split
            · exact h
            · exact State.setTip_lawful h ht _ rfl rfl rfl
  · exact h

theorem Library.Lawful.tipUnqualify {tip arm : Byte} (h : s.library.Lawful) :
    (tipUnqualifyReq tip arm s).state.library.Lawful := by
  unfold tipUnqualifyReq
  split
  · split
    · exact h
    · unfold tipUnqualifyBody
      split
      · exact h
      · rename_i t ht
        split
        · exact h
        · split
          · exact h
          · exact State.setTip_lawful h ht _ rfl rfl rfl
  · exact h

theorem Library.Lawful.tipRetire {tip : Byte} (h : s.library.Lawful) : (tipRetireReq tip s).state.library.Lawful := by
  unfold tipRetireReq
  split
  · unfold tipRetireBody
    split
    · exact h
    · split
      · exact h
      · exact h.erase _ _ (by simp)
  · exact h

theorem Library.Lawful.tipPurge {tip : Byte} (h : s.library.Lawful) : (tipPurgeReq tip s).state.library.Lawful := by
  unfold tipPurgeReq
  split
  · unfold tipPurgeBody
    split
    · exact h.erase _ _ (by simp)
    · exact h
  · exact h

/-! ### The requests of the other blocks -/

theorem Library.Lawful.scanControl {mode given : Byte} {period : Word} (h : s.library.Lawful) :
    (scanControlReq mode given period s).state.library.Lawful := by
  unfold scanControlReq
  split
  · exact .scanCommand h
  · exact h

theorem Library.Lawful.lineCheck {string passes : Byte} (h : s.library.Lawful) :
    (lineCheckReq string passes s).state.library.Lawful := by
  unfold lineCheckReq
  split
  · exact h
  · split
    · exact h
    · exact .startCheck h

theorem Library.Lawful.pocketWrite {pocket state g0 : Byte} {box0 : Axes Bounds} {g1 : Byte} {box1 : Axes Bounds}
    (h : s.library.Lawful) : (pocketWriteReq pocket state g0 box0 g1 box1 s).state.library.Lawful := by
  unfold pocketWriteReq
  split
  · split
    · unfold pocketWriteBody
      split
      · exact h
      · split
        · exact h
        · split
          · exact h
          · exact .writePocket h
    · exact h
  · exact h

theorem Library.Lawful.change {arm target allow : Byte} (h : s.library.Lawful) :
    (changeReq arm target allow s).state.library.Lawful := by
  unfold changeReq
  split
  · split
    · exact h
    · split
      · unfold stageChange
        split
        · exact h
        · exact h
      · unfold startChange
        split
        · exact h
        · rw [accept_state, State.completeAtOnce_library]
          exact h
        · exact .acceptChange h
  · exact h

theorem Library.Lawful.changeAbort {arm : Byte} (h : s.library.Lawful) :
    (changeAbortReq arm s).state.library.Lawful := by
  unfold changeAbortReq
  split
  · exact h
  · split
    · exact h
    · unfold changeAbortBody
      split
      · exact h
      · exact .endChange h
      · exact h
      · exact .faultChange h

theorem Library.Lawful.settingWrite {number : Byte} {value : Word} (h : s.library.Lawful) :
    (settingWriteReq number value s).state.library.Lawful := by
  have hstore (k : Setting) (n : Nat) : (s.storeSetting k n).library.Lawful := by
    cases k with
    | windowLength g => rwa [State.storeSetting, State.setWindow_library]
    | faultCount g => rwa [State.storeSetting, State.setWindow_library]
    | holdLimit => simpa only [State.storeSetting, State.makeStale_library] using h
    | _ => exact h
  unfold settingWriteReq
  split
  · exact h
  · split
    · exact h
    · exact hstore _ _

/-! #### Requests that leave the tip table alone -/

@[simp] theorem countersReadReq_library (clear : Byte) : (countersReadReq clear s).state.library = s.library := by
  unfold countersReadReq
  split
  · rfl
  · rw [accept_state]
    split <;> rfl

@[simp] theorem axisHomeReq_library (arm axis : Byte) (v : Word) : (axisHomeReq arm axis v s).state.library = s.library := by
  unfold axisHomeReq
  split
  · split <;> simp
  · rfl

@[simp] theorem armSetupReq_library (arm : Byte) (o : Axes Word) (d : Axes Byte) (z : Axes Word) :
    (armSetupReq arm o d z s).state.library = s.library := by
  unfold armSetupReq
  split
  · split <;> simp
  · rfl

@[simp] theorem sensorWriteReq_library (string address binding : Byte) (trim : Word) (shift : Byte) :
    (sensorWriteReq string address binding trim shift s).state.library = s.library := by
  unfold sensorWriteReq
  split
  · unfold sensorWriteBody
    split
    · rfl
    · split <;> simp
  · rfl

@[simp] theorem sensorRetireReq_library (string address : Byte) :
    (sensorRetireReq string address s).state.library = s.library := by
  unfold sensorRetireReq
  split
  · split <;> simp
  · rfl

@[simp] theorem sensorReadReq_library (string address clear : Byte) :
    (sensorReadReq string address clear s).state.library = s.library := by
  unfold sensorReadReq
  split
  · simp only [accept_state]
    split <;> rfl
  · rfl

@[simp] theorem compSetupReq_library (al : Two (Axes Word)) (aw : Word) (w0 : Axes Word) :
    (compSetupReq al aw w0 s).state.library = s.library := by
  simp [compSetupReq]

@[simp] theorem probeArmReq_library (arm value : Byte) : (probeArmReq arm value s).state.library = s.library := by
  unfold probeArmReq
  split
  · split
    · rfl
    · unfold probeArmBody
      split
      · rfl
      · split <;> simp
  · rfl

@[simp] theorem touchTakeReq_library (arm : Byte) : (touchTakeReq arm s).state.library = s.library := by
  unfold touchTakeReq
  split
  · rfl
  · split
    · rfl
    · unfold touchTakeBody
      split <;> rfl

@[simp] theorem pocketClearForeignReq_library (pocket : Byte) :
    (pocketClearForeignReq pocket s).state.library = s.library := by
  unfold pocketClearForeignReq
  split
  · rfl
  · split <;> rfl

@[simp] theorem rackUnlockReq_library : (rackUnlockReq s).state.library = s.library := by
  unfold rackUnlockReq
  split <;> rfl

@[simp] theorem zoneWriteReq_library (zone kind arm : Byte) (box : Axes Bounds) (margin : Word) :
    (zoneWriteReq zone kind arm box margin s).state.library = s.library := by
  unfold zoneWriteReq
  split
  · split
    · rfl
    · split <;> simp
  · rfl

@[simp] theorem zoneSuspendReq_library (zone : Byte) : (zoneSuspendReq zone s).state.library = s.library := by
  unfold zoneSuspendReq
  split
  · unfold zoneSuspendBody
    split
    · rfl
    · split
      · rfl
      · split <;> rfl
  · rfl

@[simp] theorem zoneResumeReq_library (zone : Byte) : (zoneResumeReq zone s).state.library = s.library := by
  unfold zoneResumeReq
  split
  · unfold zoneResumeBody
    split
    · rfl
    · split <;> simp
  · rfl

@[simp] theorem zoneDeleteReq_library (zone : Byte) : (zoneDeleteReq zone s).state.library = s.library := by
  unfold zoneDeleteReq
  split
  · unfold zoneDeleteBody
    split
    · rfl
    · split <;> rfl
  · rfl

@[simp] theorem holdReleaseReq_library (arm : Byte) : (holdReleaseReq arm s).state.library = s.library := by
  unfold holdReleaseReq
  split
  · rfl
  · split
    · rfl
    · unfold holdReleaseBody
      split <;> simp

@[simp] theorem attnFlagsReq_library (named : List Byte) : (attnFlagsReq named s).state.library = s.library := by
  unfold attnFlagsReq
  split <;> rfl

@[simp] theorem attnConfigReq_library (entries : List AttnEntry) :
    (attnConfigReq entries s).state.library = s.library := by
  unfold attnConfigReq
  split
  · rfl
  · split <;> rfl

@[simp] theorem attnTakeReq_library : (attnTakeReq s).state.library = s.library := by
  unfold attnTakeReq
  split <;> rfl

@[simp] theorem attnReleaseReq_library : (attnReleaseReq s).state.library = s.library := by
  unfold attnReleaseReq
  split <;> rfl

/-! #### Requests that only read -/

@[simp] theorem settingReadReq_state (number : Byte) : (settingReadReq number s).state = s := by
  unfold settingReadReq
  split
  · rfl
  · split <;> rfl

@[simp] theorem tipReadReq_state (tip : Byte) : (tipReadReq tip s).state = s := by
  unfold tipReadReq
  split <;> rfl

@[simp] theorem tipFindReq_state (state cls loc e0 q0 e1 q1 cursor : Byte) :
    (tipFindReq state cls loc e0 q0 e1 q1 cursor s).state = s := by
  unfold tipFindReq
  split
  · split <;> rfl
  · rfl

@[simp] theorem positionReadReq_state (arm : Byte) : (positionReadReq arm s).state = s := by
  unfold positionReadReq
  split
  · rfl
  · split <;> rfl

@[simp] theorem lineCheckReadReq_state (string : Byte) : (lineCheckReadReq string s).state = s := by
  unfold lineCheckReadReq
  split <;> rfl

@[simp] theorem convertReq_state (arm : Byte) : (convertReq arm s).state = s := by
  unfold convertReq
  split
  · rfl
  · split
    · rfl
    · split <;> rfl

@[simp] theorem pocketReadReq_state (pocket : Byte) : (pocketReadReq pocket s).state = s := by
  unfold pocketReadReq
  split <;> rfl

@[simp] theorem changeReadReq_state (arm : Byte) : (changeReadReq arm s).state = s := by
  unfold changeReadReq
  split
  · rfl
  · split <;> rfl

@[simp] theorem zoneReadReq_state (zone : Byte) : (zoneReadReq zone s).state = s := by
  unfold zoneReadReq
  split <;> rfl

@[simp] theorem holdReadReq_state (arm : Byte) : (holdReadReq arm s).state = s := by
  unfold holdReadReq
  split
  · rfl
  · split <;> rfl

/-! ### Every request -/

/-- Whatever a block does with a request, the law is kept. -/
theorem Library.Lawful.requestBody {c : Instr} {body : State → Reply} (hb : requestBody c = some body)
    (h : s.library.Lawful) : (body s).state.library.Lawful := by
  cases c <;> cases hb
  case tipWrite => exact .tipWrite h
  case tipQualify => exact .tipQualify h
  case tipUnqualify => exact .tipUnqualify h
  case tipRetire => exact .tipRetire h
  case tipPurge => exact .tipPurge h
  case scanControl => exact .scanControl h
  case lineCheck => exact .lineCheck h
  case pocketWrite => exact .pocketWrite h
  case change => exact .change h
  case changeAbort => exact .changeAbort h
  case settingWrite => exact .settingWrite h
  case restart => exact Library.restart_lawful h
  case identify | scanRead | groupRead | compRead | rackRead => exact h
  all_goals simpa using h

/-- A request frame keeps the law, whether its block takes it or not. -/
theorem Library.Lawful.request {c : Instr} {body : State → Reply} (hb : Machine.requestBody c = some body)
    (h : s.library.Lawful) : (s.request c body).library.Lawful := by
  rcases s.request_cases c body with ⟨-, e⟩ | ⟨-, -, e⟩ | ⟨-, -, -, e⟩ | ⟨-, e⟩ <;> rw [e]
  · exact h
  · exact h
  · exact h
  · exact .requestBody hb h

/-- The taking of a request in execution keeps the law. -/
theorem Library.Lawful.takeExecuting {code : Byte} {payload : List Byte} (h : s.library.Lawful) :
    (s.takeExecuting code payload).library.Lawful := by
  rcases s.takeExecuting_cases code payload with e | ⟨c, body, -, hb, l, e⟩ <;> rw [e]
  · exact h
  · exact .settle (.requestBody hb h)

/-- A frame that ends in EXECUTING keeps the law, also when the block takes the request after it. -/
theorem Library.Lawful.lateFrame {bytes : List Byte} (h : s.library.Lawful) : (s.lateFrame bytes).library.Lawful := by
  unfold State.lateFrame
  split
  · rename_i code _ _ _
    have hj : (s.judgeLate code bytes).library.Lawful := by
      obtain ⟨l, e⟩ := s.judgeLate_frame code bytes
      rw [e]
      exact h
    obtain ⟨t, ht, hp⟩ := (s.judgeLate code bytes).progress_cases
    have htl : t.library.Lawful := by
      rcases ht with rfl | ⟨_, _, -, rfl⟩
      · exact hj
      · exact .takeExecuting hj
    rcases hp with e | e <;> rw [e]
    · exact htl
    · obtain ⟨l, e⟩ := t.placeAnswer_frame
      rw [e]
      exact htl
  · exact h

/-! ### Every command -/

theorem Library.Lawful.event {f : State → State} (h : s.library.Lawful) (hf : (f s).library.Lawful) :
    (s.event f).library.Lawful := .ite hf h

theorem Library.Lawful.armEvent {a : Arm} {f : State → State} (h : s.library.Lawful) (hf : (f s).library.Lawful) :
    (s.armEvent a f).library.Lawful := .ite hf h

theorem Library.Lawful.judged {bytes : List Byte} {v : FrameVerdict} {f : State → State} (h : s.library.Lawful)
    (hf : (f s).library.Lawful) : (s.judged bytes v f).library.Lawful := .ite (.ite h hf) h

theorem Library.Lawful.longList {c : Instr} (h : s.library.Lawful) : (s.longList c).library.Lawful :=
  .event h (.judged h h)

theorem Library.Lawful.homeReport {p : Fin 20} {r : Applied} (h : s.library.Lawful) (hr : r.state.library.Lawful) :
    (s.homeReport p r).library.Lawful := .ite h hr

theorem Library.Lawful.tick (h : s.library.Lawful) : s.tick.library.Lawful := by
  refine .ite ?_ h
  change s.tickTimers.library.Lawful
  exact .ite h h

/-- A library without an ACTIVE record is lawful. -/
theorem Library.reset_lawful : Library.reset.Lawful := by
  have hv (i : Fin 64) (t : Tip) : Library.reset.tips[i] ≠ .active t := by simp [Library.reset]
  exact ⟨fun i _ t _ ht => absurd ht (hv i t), fun _ i _ t _ ht => absurd ht (hv i t)⟩

theorem exec_lawful (c : Instr) {s t : State} (h : s.library.Lawful) (e : exec c s = .next t) : t.library.Lawful := by
  cases c <;> cases e
  case startUp => exact Library.reset_lawful
  case powerOn => exact h
  case badFrame => exact .event h (.judged h h)
  case unknownRequestCode => exact .event h (.judged h h)
  case discardedRequest => exact .event h (.lateFrame h)
  case collect n =>
    refine .event h ?_
    obtain ⟨l, e⟩ := s.collect_frame n
    rw [e]
    exact h
  case restart => exact .event h (.ite h (.ite h (Library.restart_lawful h)))
  case attnFlags => exact .ite (.request rfl h) (.longList h)
  case attnConfig => exact .ite (.request rfl h) (.longList h)
  case pocketWrite => exact .event h (.settle (.request rfl h))
  case change => exact .event h (.settle (.request rfl h))
  case changeAbort => exact .event h (.settle (.request rfl h))
  case zoneWrite => exact .event h (.settle (.request rfl h))
  case zoneResume => exact .event h (.settle (.request rfl h))
  case holdRelease => exact .event h (.settle (.request rfl h))
  case quadraturePhase => exact .armEvent h (by rwa [State.takePhase_library])
  case referenceMark => exact .armEvent h (by rwa [State.takeMark_library])
  case checkPointFormation => exact .armEvent h (.settle (by rwa [State.form_library]))
  case transactionEnd => exact .event h (.transactionEnds h)
  case replyTimeout => exact .event h (.transactionEnds h)
  case scanTimerExpiry => exact .event h (.scanExpiry h)
  case frzActive => exact .event h h
  case frzInactive => exact .event h (.thaw h)
  case holdAgeTick => exact .event h (by rwa [State.ageGroups_library])
  case groupStale => exact .event h (by rwa [State.staleGroup_library])
  case triggerLeadingEdge => exact .armEvent h (by rwa [State.triggerEdge_library])
  case triggerRelease => exact .armEvent h (by rwa [State.triggerRelease_library])
  case qualificationTimeEnd => exact .armEvent h (by rwa [State.acceptTouch_library])
  case touchComputation => exact .armEvent h (by rwa [State.computeTouch_library])
  case pointRecordReturn => exact .armEvent h (by rwa [State.placePoint_library])
  case holdCauseAddition => exact .armEvent h (by rwa [State.addCause_library])
  case raiseReport => exact .event h (by rwa [State.raise_library])
  case pocketInputEdge p input level => exact .event h (by cases input <;> exact h)
  case observedOccupancyChange => exact .event h (.settle (.occupancyChange h))
  case lidSenseChange => exact .event h (.settle (by rwa [State.senseChange_library]))
  case lidTimerExpiry => exact .event h (.settle (by rwa [State.lidExpiry_library]))
  case openCommand => exact .armEvent h (.settle (by rwa [State.setAnswer_library, State.openLid_library]))
  case closeCommand => exact .armEvent h (.settle (by rwa [State.setAnswer_library, State.closeLid_library]))
  case changePocketReport => exact .armEvent h (.settle (.takeReport h))
  case rackRequest => exact .armEvent h (.settle (by rwa [State.setAnswer_library, State.rackRequest_library]))
  case entryReport => exact .armEvent h (by rwa [State.rackEntry_library])
  case exitReport => exact .armEvent h (.settle (by rwa [State.rackExit_library]))
  case changeEndedReport => exact .armEvent h (.settle (by rwa [State.rackChangeEnded_library]))
  case grantTimerExpiry => exact .event h (.settle (by rwa [State.grantExpiry_library]))
  case doubleFaultReport => exact .armEvent h (.settle (by rwa [State.doubleFault_library]))
  case granteeNotice => exact .event h (.settle (by rwa [State.noticeGrantee_library]))
  case grantedMessage => exact .armEvent h (.settle (.takeGrant h))
  case lapsedMessage => exact .armEvent h (.settle (.takeLapse h))
  case lockedOutMessage => exact .armEvent h (.settle (.takeLockout h))
  case stepTimerExpiry => exact .armEvent h (.settle (.stepExpiry h))
  case modulePresentEdge => exact .armEvent h h
  case modulePresentChange => exact .armEvent h (.settle (.moduleDebounced h))
  case identityReply => exact .armEvent h (.settle (.identityAnswer h))
  case identityAttemptTimeout => exact .armEvent h (.settle (.attemptTimeout h))
  case registrationClaim => exact .event h (by rwa [State.setAnswer_library, State.registrationClaim_library])
  case stowReleaseBegins a i => exact .armEvent h (State.stowReleaseBegins_lawful h a i)
  case stowTransferComplete a i => exact .armEvent h (State.stowTransferComplete_lawful h a i)
  case pickBegins a i => exact .armEvent h (State.pickBegins_lawful h a i)
  case identityMatched a i => exact .armEvent h (State.identityMatched_lawful h a i)
  case transitResolved a i o => exact .armEvent h (State.transitResolved_lawful h a i o)
  case identityReport a id => exact .armEvent h (State.identityReport_lawful h a id)
  case moduleLost => exact .armEvent h (.moduleLost h)
  case homePocketSeenEmpty => exact .event h (.homeReport h (.seenEmpty h))
  case homePocketSeenOccupied => exact .event h (.homeReport h (.seenOccupied h))
  case restartComparison => exact .event h (.settle (.restartCompareAt h))
  case restartTransactionLimitEnd => exact .event h (.limitEnds h)
  all_goals exact .request rfl h

end Sys2Proof.Machine

namespace Sys2Proof.Machine

/-- Settles O21: every command keeps the law of the tip table, and so does a millisecond on an empty queue. -/
theorem libraryLawIsKept : Obligations.LibraryLawIsKept := by
  intro s t h e
  rw [libraryLaw_iff] at h ⊢
  unfold step at e
  split at e
  · cases e
    exact Library.Lawful.tick h
  · exact exec_lawful _ (by exact h) e

end Sys2Proof.Machine
end

section
/-! PROOF. The values start-up leaves in each block (O4). -/

namespace Sys2Proof.Machine

/-! ### Start-up, block by block (R210) -/

section
variable (s : State) (l : Inputs)

/-- R39: the axes of a present arm hold the phases of their channels. -/
theorem State.startUp_arm (a : Arm) :
    (s.startUp l).arms.get a = if (s.startUp l).present a then ArmAxes.start (l.phase.get a) else ArmAxes.reset := by
  cases a
  · rfl
  · cases h : l.twoArm <;> simp [State.startUp, State.present, h]

theorem ArmAxes.start_axis (phase : Axes Phase) (i : Axis) :
    (ArmAxes.start phase).axes.get i = { AxisRecord.reset with phase := some (phase.get i) } := by
  simp [ArmAxes.start]

/-- R112: the trigger of a present arm takes its level. -/
theorem State.startUp_touch (a : Arm) :
    (s.startUp l).touch.get a = { TouchRecord.reset with
      input := (s.startUp l).present a && l.trigger.get a,
      trigger := if (s.startUp l).present a && l.trigger.get a then .waitRelease else .idle } := by
  cases a
  · rfl
  · cases h : l.twoArm <;> simp [State.startUp, State.present, h, triggerFrom]

/-- R133. -/
theorem State.startUp_pocket (p : Fin 20) :
    (s.startUp l).pocket p = Pocket.start l.occupied[p] l.lidOpen[p] := by
  simp [State.startUp, State.pocket]

/-- R160: a module that is present is read. -/
theorem State.startUp_head (a : Arm) :
    (s.startUp l).head a = Head.start ((s.startUp l).present a && l.modulePresent.get a) := by
  cases a <;> simp [State.startUp, State.present, State.head]

theorem State.startUp_change (a : Arm) : (s.startUp l).change a = Change.reset := Two.get_both ..

/-- R181: a present arm is held by POWER_ON, an absent one by nothing. -/
theorem State.startUp_hold (a : Arm) :
    (s.startUp l).zones.hold.get a = if (s.startUp l).present a then HoldRecord.reset else HoldRecord.absent := by
  cases a
  · rfl
  · cases h : l.twoArm <;> simp [State.startUp, State.present, h]

theorem Groups.reset_get (g : TempGroup) : Groups.reset.get g = GroupRecord.reset := by
  cases g <;> simp [Groups.get, Groups.reset]

theorem ZoneSet.none_get (z : Fin 16) : ZoneSet.none[z] = false := by simp [ZoneSet.none]

/-- HOLD is active for a present arm and inactive for an absent one (R181, R38). -/
theorem State.startUp_holdActive (a : Arm) : (s.startUp l).holdActive a = (s.startUp l).present a := by
  have hp : (s.startUp l).powered = true := rfl
  rw [State.holdActive, State.startUp_hold, hp]
  cases (s.startUp l).present a <;> rfl

/-- With every input inactive the pockets are those of State.reset. -/
theorem Pocket.start_inactive :
    (Vector.ofFn fun p : Fin 20 => Pocket.start (Vector.replicate 20 false)[p] (Vector.replicate 20 false)[p]) =
      Vector.replicate 20 Pocket.reset := by
  ext i hi
  simp [Pocket.start, Pocket.reset, lidFrom]

end

/-- Settles O4: the start-up is evaluated, and its vectors and pairs are read at every index. -/
theorem startUpValues : Obligations.StartUpValues := by
  refine ⟨fun s l => ⟨s.startUp l, rfl, ?_⟩, fun s l => ⟨s.startUp l, rfl, ?_⟩, fun s h => ?_⟩
  · refine ⟨rfl, rfl, rfl, rfl, rfl, ?tips, rfl, ?arms, ?sensors, ?strings, rfl, rfl, rfl, rfl, rfl, ?groups, rfl,
      ?scale, rfl, rfl, rfl, ?touch, ?sources, rfl, rfl, rfl, rfl⟩
    case tips => simp [State.startUp, State.reset, Library.reset]
    case arms =>
      intro a
      simp only [State.axis, State.startUp_arm]
      split
      · rename_i hp
        simp only [ArmAxes.start_axis]
        exact ⟨rfl, fun i => ⟨rfl, rfl, rfl, rfl, fun _ => trivial⟩⟩
      · rename_i hp
        simp only [ArmAxes.reset, Axes.get_all]
        exact ⟨rfl, fun i => ⟨rfl, rfl, rfl, rfl, fun h => absurd h hp⟩⟩
    case sensors => intro g i; simp [State.sensor, State.startUp, State.reset, Scanner.reset]
    case strings => intro g; cases g <;> exact ⟨rfl, rfl, rfl, rfl⟩
    case groups => exact Groups.reset_get
    case scale =>
      intro a i
      simp [State.startUp, State.reset, Compensation.reset, Factors.reset, Config.coefficientDefault]
    case touch =>
      intro a
      rw [State.startUp_touch]
      exact ⟨rfl, rfl, rfl, rfl, rfl, rfl, rfl, rfl⟩
    case sources => simp [State.startUp, State.reset, Attention.reset]
  · refine ⟨?pockets, rfl, ?reports, rfl, rfl, rfl, rfl, ?arms, rfl, rfl, ?zones, rfl, ?holds⟩
    case pockets =>
      intro p
      rw [State.startUp_pocket]
      exact ⟨rfl, rfl, rfl, rfl, rfl, rfl, rfl, rfl⟩
    case reports => intro a; cases a <;> rfl
    case arms =>
      intro a
      rw [State.startUp_change, State.startUp_head]
      exact ⟨rfl, rfl, rfl, rfl, rfl, rfl⟩
    case zones => intro z; simp [State.zone, State.startUp, ZoneMonitor.reset]
    case holds =>
      intro a
      rw [State.startUp_holdActive, State.startUp_hold]
      split
      · exact ⟨rfl, fun z => ⟨ZoneSet.none_get z, ZoneSet.none_get z, ZoneSet.none_get z⟩, rfl⟩
      · exact ⟨rfl, fun z => ⟨ZoneSet.none_get z, ZoneSet.none_get z, ZoneSet.none_get z⟩, rfl⟩
  · change Host.Outcome.next _ = _
    rw [State.startUp, Pocket.start_inactive, h]
    rfl
end Sys2Proof.Machine
end

section
/-! PROOF. The values RESTART leaves in each block (O5). -/

namespace Sys2Proof.Machine

/-! ### RESTART, block by block (R211) -/

section
variable (s : State)

/-- A RESTART that no frame follows is answered at once, unless one executes already (R211). -/
theorem exec_restart (hp : s.powered = true) (he : s.link.executingRestart = false)
    (hl : lateFrameWaits s.pending = false) : exec .restart s = .next s.restart := by
  change Host.Outcome.next (s.event fun s => s.takeRestart) = _
  rw [State.event_on _ _ hp, State.takeRestart, he, hl]
  rfl

theorem exec_restart_discarded (hp : s.powered = true) (he : s.link.executingRestart = true) :
    exec .restart s = .next (s.discardFrame 2) := by
  change Host.Outcome.next (s.event fun s => s.takeRestart) = _
  rw [State.event_on _ _ hp, State.takeRestart, he]
  rfl

theorem Library.restart_tip (r : Library) (i : Fin 64) : r.restart.tips[i] = r.tips[i].restart := by
  simp [Library.restart]

theorem TipSlot.restart_eq (slot : TipSlot) : slot.restart =
    match slot with
    | .active u =>
      match u.location with
      | .onArm _ | .inTransit _ => .active { u with location := .missing }
      | _ => .active u
    | slot => slot := by
  cases slot <;> rfl

/-- R40, R38: the axes of an absent arm keep their values. -/
theorem State.restart_arm (a : Arm) : s.restart.arms.get a = s.restartArm a := by cases a <;> rfl

theorem State.restart_sensor (g : Strg) (i : Fin 16) : s.restart.sensor g i = (s.sensor g i).map Sensor.restart := by
  change ((s.scanner.sensors.map fun v => v.map (Option.map Sensor.restart)).get g)[i] = _
  simp [State.sensor]

theorem State.restart_string (g : Strg) : s.restart.string g = (s.string g).restart := by
  change (s.scanner.strings.map StringControl.restart).get g = _
  simp [State.string]

theorem State.restart_touch (a : Arm) : s.restart.touch.get a = (s.touch.get a).restart := by
  change (s.touch.map TouchRecord.restart).get a = _
  simp

theorem State.restart_pocket (p : Fin 20) : s.restart.pocket p = (s.pocket p).restart := by
  change (s.rack.pockets.map Pocket.restart)[p] = _
  simp [State.pocket]

theorem State.restart_head (a : Arm) : s.restart.head a = Head.start (s.head a).moduleInput := by
  change (s.sequencer.head.map fun h => Head.start h.moduleInput).get a = _
  simp [State.head]

theorem State.restart_zone (z : Fin 16) : s.restart.zone z = (s.zone z).map Zone.unclaimed := by
  change (s.zones.table.map (Option.map Zone.unclaimed))[z] = _
  simp [State.zone]

/-- R182: a present arm is held by RESTART, an absent one by nothing. -/
theorem State.restart_hold (a : Arm) :
    s.restart.zones.hold.get a = if s.present a then HoldRecord.restart else HoldRecord.absent := by
  cases a
  · rfl
  · change (if s.oneArm then HoldRecord.absent else HoldRecord.restart) = _
    cases h : s.oneArm <;> simp [State.present, h]

theorem State.restart_source (i : Fin 14) :
    s.restart.attention.sources[i] = { s.attention.sources[i] with flag := false } := by
  change (s.attention.sources.map fun x => { x with flag := false })[i] = _
  simp

/-- R134: RESTART disables a pocket exactly when it jams its lid. -/
theorem Pocket.restart_state (r : Pocket) (h : r.state ≠ .enabled ∨ r.restart.lid ≠ .jammed) :
    r.restart.state = r.state := by
  change (if r.lid ≠ .jammed ∧ r.restartLid = .jammed ∧ r.state = .enabled then _ else _) = _
  rw [if_neg]
  rintro ⟨-, hlid, hst⟩
  exact h.elim (· hst) (· hlid)

theorem Pocket.restart_disabled (r : Pocket) (hst : r.state = .enabled) (hlid : r.lid ≠ .jammed)
    (hj : r.restart.lid = .jammed) : r.restart.state = .disabled := if_pos ⟨hlid, hj, hst⟩

theorem Pocket.restart_lid (r : Pocket) :
    r.restart.lid = if r.lid = .jammed ∨ r.senseInput = true then .jammed else .closed := by
  change r.restartLid = _
  unfold Pocket.restartLid lidFrom
  by_cases h : r.lid = .jammed <;> simp [h]

theorem Zone.unclaimed_eq (r : Zone) : r.unclaimed = { r with kind := match r.kind with
    | .shared _ => .shared none
    | k => k } := by
  cases h : r.kind <;> simp [Zone.unclaimed, ZoneKind.isShared, h]

end

/-- Settles O5: RESTART is taken or discarded, and taken it is evaluated block by block. -/
theorem restartValues : Obligations.RestartValues := by
  refine ⟨fun s hp he hl => ⟨s.restart, exec_restart s hp he hl, ?_⟩, fun s hp =>
    ⟨exec_restart_discarded s hp, fun he hl => ⟨s.restart, exec_restart s hp he hl, ?_⟩⟩⟩
  · refine ⟨rfl, rfl, rfl, rfl, hp, rfl, rfl, rfl, ?tips, rfl, ?arms, ?sensors, ?strings, rfl, rfl, rfl, rfl, rfl, rfl,
      Groups.reset_get, rfl, rfl, ?scale, rfl, ?due, ?touch⟩
    case tips =>
      intro i
      exact (Library.restart_tip s.library i).trans (TipSlot.restart_eq _)
    case arms =>
      intro a
      simp only [State.axis, State.restart_arm, State.restartArm, State.absentArm]
      by_cases hpa : s.present a = true <;> simp [hpa, AxisRecord.restart]
    case sensors => exact fun g i => State.restart_sensor s g i
    case strings =>
      intro g
      rw [State.restart_string]
      exact ⟨rfl, rfl, rfl, rfl, rfl⟩
    case scale =>
      intro a i
      change ((Two.both (Axes.all Factor.uncompensated)).get a).get i = _
      simp
    case due => exact fun a => Two.get_both ..
    case touch => exact fun a => State.restart_touch s a
  · refine ⟨rfl, rfl, rfl, rfl, rfl, ?reports, ?pockets, ?arms, rfl, rfl, ?zones, rfl, ?holds, ?sources, rfl⟩
    case reports => exact fun a => Two.get_both ..
    case pockets =>
      intro p
      rw [State.restart_pocket]
      exact ⟨rfl, rfl, rfl, rfl, rfl, rfl, Pocket.restart_lid _, Pocket.restart_state _, Pocket.restart_disabled _⟩
    case arms =>
      intro a
      rw [State.restart_head]
      exact ⟨Two.get_both .., rfl, rfl, rfl⟩
    case zones =>
      intro z
      rw [State.restart_zone]
      exact congrArg (Option.map · _) (funext Zone.unclaimed_eq)
    case holds =>
      intro a
      rw [State.restart_hold]
      cases s.present a
      all_goals exact ⟨rfl, rfl, fun z => ⟨ZoneSet.none_get z, ZoneSet.none_get z, ZoneSet.none_get z⟩⟩
    case sources => exact fun i => State.restart_source s i
end Sys2Proof.Machine
end

section
/-! PROOF. The state after every start-up meets every law (O60). -/

namespace Sys2Proof.Machine

/-! ### The laws after start-up (R210) -/

section
variable (s : State) (l : Inputs)

theorem State.startUp_countLaw : CountLaw (s.startUp l) := by
  have hz : IsLength 0 := by unfold IsLength Config.lengthMax; omega
  have hr (phase : Option Phase) : AxisLaw { AxisRecord.reset with phase := phase } :=
    ⟨hz, hz, fun v h => AxisState.noConfusion h⟩
  intro a i
  rw [State.axis, State.startUp_arm]
  split
  · rw [ArmAxes.start_axis]
    refine ⟨hr _, ?_⟩
    change IsLength ((Axes.all 0).get i)
    rwa [Axes.get_all]
  · simp only [ArmAxes.reset, Axes.get_all]
    exact ⟨hr _, hz⟩

theorem State.startUp_factorLaw : FactorLaw (s.startUp l) := by
  have ha (a : Arm) (i : Axis) : ((s.startUp l).comp.coefficients.scale.get a).get i = 1150 := by
    simp [State.startUp, State.reset, Compensation.reset, Config.coefficientDefault]
  have hw : (s.startUp l).comp.coefficients.workpiece = 1150 := rfl
  refine ⟨fun a i => ?_, ?_, ?_, rfl⟩
  · rw [ha]
    decide
  · rw [hw]
    decide
  · rw [hw]
    decide

theorem State.startUp_ageLaw : AgeLaw (s.startUp l) := by
  refine ⟨fun g => ?_, List.nodup_nil, List.not_mem_nil⟩
  change g ∈ ([] : List TempGroup) ↔ ∃ v n, (Groups.reset.get g).state = _ ∨ (Groups.reset.get g).state = _
  simp [Groups.reset_get, GroupRecord.reset]

theorem State.startUp_probingLaw : ProbingLaw (s.startUp l) := by
  intro a h
  rw [State.startUp_touch] at h
  exact absurd h Bool.false_ne_true

/-- Every lid is CLOSED or JAMMED, its drive off and its timer stopped, and every pocket VACANT. -/
theorem State.startUp_lidLaw : LidLaw (s.startUp l) := by
  intro p
  have hlid (b : Bool) : lidFrom b ≠ .opening ∧ lidFrom b ≠ .opened ∧ lidFrom b ≠ .closing := by
    cases b <;> simp [lidFrom]
  obtain ⟨h1, h2, h3⟩ := hlid l.lidOpen[p]
  rw [State.startUp_pocket]
  refine ⟨fun h => ?_, fun _ h => ?_, fun h => ?_, fun _ h => ?_, fun _ h => ?_⟩
  · exact absurd h Bool.false_ne_true
  · exact absurd h (not_or.mpr ⟨h1, h2⟩)
  · exact absurd h Bool.false_ne_true
  · exact absurd h (not_or.mpr ⟨h1, h3⟩)
  · exact PocketState.noConfusion h

theorem State.startUp_arbiterLaw : ArbiterLaw (s.startUp l) :=
  ⟨List.nodup_nil, fun _ => rfl, fun _ _ _ _ => List.not_mem_nil, fun h => absurd h Bool.false_ne_true⟩

theorem State.startUp_zoneLaw : ZoneLaw (s.startUp l) := by
  have hz (z : Fin 16) : (s.startUp l).zone z = none := by simp [State.zone, State.startUp, ZoneMonitor.reset]
  exact ⟨fun z w h => by simp [State.zoneIsRack, hz] at h, fun z r h => by simp [hz] at h⟩

theorem State.startUp_attentionLaw : AttentionLaw (s.startUp l) := by
  refine ⟨List.Pairwise.nil, fun k h => absurd h List.not_mem_nil, Nat.zero_le 3, fun _ src _ => ?_⟩
  simp [State.startUp, State.reset, Attention.reset]

theorem State.startUp_lawful : Lawful (s.startUp l) :=
  ⟨Library.reset_lawful, s.startUp_countLaw l, s.startUp_factorLaw l, s.startUp_ageLaw l, s.startUp_probingLaw l,
    s.startUp_lidLaw l, s.startUp_arbiterLaw l, s.startUp_zoneLaw l, s.startUp_attentionLaw l⟩

end

/-- Settles O60: State.reset is itself the state after a start-up. -/
theorem resetIsLawful : Obligations.ResetIsLawful := by
  refine ⟨?_, fun s l => ⟨s.startUp l, rfl, s.startUp_lawful l⟩⟩
  have h := startUpValues.2.2 State.reset rfl
  injection h with h
  rw [← h]
  exact State.startUp_lawful ..

end Sys2Proof.Machine
end

section
/-! SUPPORT. The bytes of the arguments (spec 11, R201): which stand in their lists and which do not; and the answer to a request
that is taken. -/

namespace Sys2Proof.Machine

/-! ### The bytes outside the list of an argument (R201) -/

section
variable {b : Byte}

theorem sideArg_none (h : 1 < b.toNat) : sideArg b = none := by
  unfold sideArg
  split <;> first | omega | rfl

theorem axisArg_none (h : 2 < b.toNat) : axisArg b = none := by
  unfold axisArg
  split <;> first | omega | rfl

theorem yesNoArg_none (h : 1 < b.toNat) : yesNoArg b = none := by
  unfold yesNoArg
  split <;> first | omega | rfl

theorem classArg_none (h : 3 < b.toNat) : classArg b = none := by
  unfold classArg
  split <;> first | omega | rfl

theorem scanModeArg_none (h : 2 < b.toNat) : scanModeArg b = none := by
  unfold scanModeArg
  split <;> first | omega | rfl

theorem settingArg_none (h : b.toNat = 0 ∨ 12 < b.toNat) : settingArg b = none := by
  unfold settingArg
  split <;> first | omega | rfl

theorem groupArg_none (h : ¬ (b.toNat ≤ 8 ∨ b = 0xFF)) : groupArg b = none := by
  have hff : b.toNat ≠ 255 := fun e => h (.inr (BitVec.eq_of_toNat_eq e))
  unfold groupArg
  split <;> first | omega | rfl

theorem indexArg_none {n : Nat} (h : n ≤ b.toNat) : indexArg n b = none := dif_neg (Nat.not_lt.mpr h)

theorem indexArg_of_val {n : Nat} {i : Fin n} (h : b.toNat = i.val) : indexArg n b = some i := by
  simp [indexArg, h]

theorem sideArg_of_toNat {a : Side} (h : b.toNat = a.toNat) : sideArg b = some a := by
  cases a <;> simp [sideArg, h, Side.toNat]

/-! ### The bytes in the list of an argument -/

theorem yesNoArg_some (h : b.toNat ≤ 1) : yesNoArg b = some (decide (b.toNat = 1)) := by
  have : b.toNat = 0 ∨ b.toNat = 1 := by omega
  rcases this with e | e <;> simp [yesNoArg, e]

theorem axisArg_isSome (h : b.toNat ≤ 2) : (axisArg b).isSome = true := by
  have : b.toNat = 0 ∨ b.toNat = 1 ∨ b.toNat = 2 := by omega
  rcases this with e | e | e <;> simp [axisArg, e]

theorem directionArg_isSome (h : b.toNat ≤ 1) : (directionArg b).isSome = true := by
  have : b.toNat = 0 ∨ b.toNat = 1 := by omega
  rcases this with e | e <;> simp [directionArg, e]

theorem classArg_isSome_iff : (classArg b).isSome = true ↔ b.toNat ≤ 3 := by
  constructor
  · intro h
    by_contra hc
    simp [classArg_none (Nat.lt_of_not_le hc)] at h
  · intro h
    have : b.toNat = 0 ∨ b.toNat = 1 ∨ b.toNat = 2 ∨ b.toNat = 3 := by omega
    rcases this with e | e | e | e <;> simp [classArg, e]

theorem yesNoArg_isSome_iff : (yesNoArg b).isSome = true ↔ b.toNat ≤ 1 := by
  constructor
  · intro h
    by_contra hc
    simp [yesNoArg_none (Nat.lt_of_not_le hc)] at h
  · intro h
    simp [yesNoArg_some h]

theorem entryStateArg_isSome_iff : (entryStateArg b).isSome = true ↔ b.toNat ≤ 1 := by
  unfold entryStateArg
  split <;> simp_all
  omega

theorem indexArg_isSome_iff {n : Nat} : (indexArg n b).isSome = true ↔ b.toNat < n := by
  unfold indexArg
  split <;> simp_all

theorem optionalArg_isSome_iff {α : Type} {f : Byte → Option α} :
    (optionalArg f b).isSome = true ↔ (f b).isSome = true ∨ b = 0xFF := by
  unfold optionalArg
  split <;> simp_all

/-- A field left out is sent as 0xFF, and only so (R201). -/
theorem optionalArg_given {α : Type} {f : Byte → Option α} {v : Option α} (h : optionalArg f b = some v) (hb : b ≠ 0xFF) :
    v.isSome = true := by
  unfold optionalArg at h
  rw [if_neg hb, Option.map_eq_some_iff] at h
  obtain ⟨w, -, rfl⟩ := h
  rfl

end

/-- A pattern is read field by field (R14). -/
theorem patternArg_eq_some_iff {state cls loc e0 q0 e1 q1 : Byte} {q : Pattern} :
    patternArg state cls loc e0 q0 e1 q1 = some q ↔
      optionalArg tipStateArg state = some q.state ∧ optionalArg classArg cls = some q.cls ∧
      optionalArg locationKindArg loc = some q.loc ∧ optionalArg yesNoArg e0 = some q.entry.zero ∧
      optionalArg entryStateArg q0 = some q.quality.zero ∧ optionalArg yesNoArg e1 = some q.entry.one ∧
      optionalArg entryStateArg q1 = some q.quality.one := by
  obtain ⟨qs, qc, ql, ⟨qe0, qe1⟩, ⟨qq0, qq1⟩⟩ := q
  simp only [patternArg, bind, pure, Option.bind_eq_some_iff, Option.some.injEq, Pattern.mk.injEq, Two.mk.injEq]
  constructor
  · rintro ⟨_, h1, _, h2, _, h3, _, h4, _, h5, _, h6, _, h7, rfl, rfl, rfl, ⟨rfl, rfl⟩, ⟨rfl, rfl⟩⟩
    exact ⟨h1, h2, h3, h4, h5, h6, h7⟩
  · rintro ⟨h1, h2, h3, h4, h5, h6, h7⟩
    exact ⟨_, h1, _, h2, _, h3, _, h4, _, h5, _, h6, _, h7, rfl, rfl, rfl, ⟨rfl, rfl⟩, ⟨rfl, rfl⟩⟩

/-! ### The answer to a request that is taken (R198, R200) -/

section
variable {s : State} {c : Instr} {body : State → Reply}

/-- A request taken is answered with what its block replies. -/
theorem request_answered (ht : s.takesRequests) {r : Reply} (hb : body s = r) :
    done (s.request c body) = .next (s.respond c r) := by
  rw [State.request_taken _ _ _ ht, hb]
  rfl

/-- A refusal sends no message, so that there is nothing to settle after it. -/
theorem request_settled_refused (ht : s.takesRequests) (hq : s.quiet) {st : Status} (hb : body s = refuse st s) :
    done (s.event fun s => (s.request c body).settle) = .next (s.respond c (refuse st s)) := by
  have hquiet : (s.respond c (refuse st s)).quiet := hq
  rw [State.event_on _ _ ht.1, State.request_taken _ _ _ ht, hb, State.settle_of_quiet _ hquiet]
  rfl

end
end Sys2Proof.Machine
end

section
/-! PROOF. Arguments outside their range and arms that are absent are refused (O10). -/

namespace Sys2Proof.Machine

/-- The request is answered with the refusal, and nothing else happens (R200). -/
def RefusedWith (s : State) (st : Status) (c : Instr) : Prop := exec c s = .next (s.respond c (refuse st s))

section
variable {s : State}

/-! ### Numbers outside their range -/

theorem refused_of_arm {n : Byte} (ht : s.takesRequests) (hq : s.quiet) (h : 1 < n.toNat) :
    (∀ c ∈ [Instr.positionRead n, .convert n, .touchTake n, .changeAbort n, .changeRead n, .holdRelease n, .holdRead n,
      .lineCheckRead n], RefusedWith s .badArgument c) ∧ (∀ v, RefusedWith s .badArgument (.probeArm n v)) ∧
    (∀ i w, RefusedWith s .badArgument (.axisHome n i w)) ∧ (∀ o d z, RefusedWith s .badArgument (.armSetup n o d z)) ∧
    (∀ p, RefusedWith s .badArgument (.lineCheck n p)) ∧ (∀ i, RefusedWith s .badArgument (.sensorRetire n i)) ∧
    ∀ i v, RefusedWith s .badArgument (.sensorRead n i v) := by
  have hn := sideArg_none h
  simp only [List.forall_mem_cons]
  refine ⟨⟨?_, ?_, ?_, ?_, ?_, ?_, ?_, ?_, List.forall_mem_nil _⟩, fun v => ?_, fun i w => ?_, fun o d z => ?_, fun p => ?_,
    fun i => ?_, fun i v => ?_⟩
  case refine_4 => exact request_settled_refused ht hq (by simp [changeAbortReq, hn])
  case refine_6 => exact request_settled_refused ht hq (by simp [holdReleaseReq, hn])
  all_goals refine request_answered ht ?_
  · simp [positionReadReq, hn]
  · simp [convertReq, hn]
  · simp [touchTakeReq, hn]
  · simp [changeReadReq, hn]
  · simp [holdReadReq, hn]
  · simp [lineCheckReadReq, hn]
  · simp [probeArmReq, hn]
  · simp [axisHomeReq, hn]
  · simp [armSetupReq, hn]
  · simp [lineCheckReq, hn]
  · simp [sensorRetireReq, hn]
  · simp [sensorReadReq, hn]

theorem refused_of_tip {n : Byte} (ht : s.takesRequests) (h : 63 < n.toNat) :
    ∀ c ∈ [Instr.tipRead n, .tipRetire n, .tipPurge n], RefusedWith s .badArgument c := by
  have hn : tipArg n = none := indexArg_none h
  simp only [List.forall_mem_cons]
  refine ⟨?_, ?_, ?_, List.forall_mem_nil _⟩ <;> refine request_answered ht ?_
  · simp [tipReadReq, hn]
  · simp [tipRetireReq, hn]
  · simp [tipPurgeReq, hn]

theorem refused_of_pocket {n : Byte} (ht : s.takesRequests) (h : 19 < n.toNat) :
    ∀ c ∈ [Instr.pocketRead n, .pocketClearForeign n], RefusedWith s .badArgument c := by
  have hn : pocketArg n = none := indexArg_none h
  simp only [List.forall_mem_cons]
  refine ⟨?_, ?_, List.forall_mem_nil _⟩ <;> refine request_answered ht ?_
  · simp [pocketReadReq, hn]
  · simp [pocketClearForeignReq, hn]

theorem refused_of_zone {n : Byte} (ht : s.takesRequests) (hq : s.quiet) (h : 15 < n.toNat) :
    ∀ c ∈ [Instr.zoneRead n, .zoneSuspend n, .zoneResume n, .zoneDelete n], RefusedWith s .badArgument c := by
  have hn : zoneArg n = none := indexArg_none h
  simp only [List.forall_mem_cons]
  refine ⟨?_, ?_, ?_, ?_, List.forall_mem_nil _⟩
  · exact request_answered ht (by simp [zoneReadReq, hn])
  · exact request_answered ht (by simp [zoneSuspendReq, hn])
  · exact request_settled_refused ht hq (by simp [zoneResumeReq, hn])
  · exact request_answered ht (by simp [zoneDeleteReq, hn])

/-! ### Arm 1 of a one-arm build (R38) -/

theorem State.absentArm_one (h : s.oneArm = true) : s.absentArm .one = true := by simp [State.absentArm, State.present, h]

theorem directionsArg_isSome {d : Axes Byte} (h : ∀ i, (d.get i).toNat ≤ 1) : (directionsArg d).isSome = true := by
  obtain ⟨x, hx⟩ := Option.isSome_iff_exists.mp (directionArg_isSome (h .x))
  obtain ⟨y, hy⟩ := Option.isSome_iff_exists.mp (directionArg_isSome (h .y))
  obtain ⟨z, hz⟩ := Option.isSome_iff_exists.mp (directionArg_isSome (h .z))
  simp only [Axes.get] at hx hy hz
  simp [directionsArg, hx, hy, hz]

theorem refused_of_absentArm {n : Byte} (hn : sideArg n = some .one) (ht : s.takesRequests) (hq : s.quiet)
    (h : s.oneArm = true) :
    (∀ c ∈ [Instr.positionRead n, .convert n, .touchTake n, .changeAbort n, .changeRead n, .holdRelease n, .holdRead n,
      .probeArm n 0, .probeArm n 1], RefusedWith s .notPresent c) ∧
    (∀ i w, i.toNat ≤ 2 → RefusedWith s .notPresent (.axisHome n i w)) ∧
    ∀ (o : Axes Word) (d : Axes Byte) (z : Axes Word), (∀ i, (d.get i).toNat ≤ 1) →
      RefusedWith s .notPresent (.armSetup n o d z) := by
  have ha := State.absentArm_one h
  simp only [List.forall_mem_cons]
  refine ⟨⟨?_, ?_, ?_, ?_, ?_, ?_, ?_, ?_, ?_, List.forall_mem_nil _⟩, fun i w hi => ?_, fun o d z hd => ?_⟩
  case refine_4 => exact request_settled_refused ht hq (by simp [changeAbortReq, hn, ha])
  case refine_6 => exact request_settled_refused ht hq (by simp [holdReleaseReq, hn, ha])
  case refine_10 =>
    obtain ⟨k, hk⟩ := Option.isSome_iff_exists.mp (axisArg_isSome hi)
    exact request_answered ht (by simp [axisHomeReq, hn, hk, ha])
  case refine_11 =>
    obtain ⟨x, hx⟩ := Option.isSome_iff_exists.mp (directionsArg_isSome hd)
    exact request_answered ht (by simp [armSetupReq, hn, hx, ha])
  all_goals refine request_answered ht ?_
  · simp [positionReadReq, hn, ha]
  · simp [convertReq, hn, ha]
  · simp [touchTakeReq, hn, ha]
  · simp [changeReadReq, hn, ha]
  · simp [holdReadReq, hn, ha]
  · simp [probeArmReq, hn, yesNoArg_some, ha]
  · simp [probeArmReq, hn, yesNoArg_some, ha]

/-! ### Arguments outside their lists -/

theorem tipQualify_refused {tip arm : Byte} {dx dy dz r : Word} {source : Byte} {temp : Word}
    (ht : s.takesRequests) (h : 63 < tip.toNat ∨ 1 < arm.toNat ∨ 1 < source.toNat) :
    RefusedWith s .badArgument (.tipQualify tip arm dx dy dz r source temp) := by
  refine request_answered ht ?_
  unfold tipQualifyReq
  split
  · rename_i h1 h2 h3
    rcases h with h | h | h
    · simp [tipArg, indexArg_none h] at h1
    · simp [sideArg_none h] at h2
    · simp [yesNoArg_none h] at h3
  · rfl

theorem tipUnqualify_refused {tip arm : Byte} (ht : s.takesRequests) (h : 63 < tip.toNat ∨ 1 < arm.toNat) :
    RefusedWith s .badArgument (.tipUnqualify tip arm) := by
  refine request_answered ht ?_
  unfold tipUnqualifyReq
  split
  · rename_i h1 h2
    rcases h with h | h
    · simp [tipArg, indexArg_none h] at h1
    · simp [sideArg_none h] at h2
  · rfl

theorem tipArg_isSome {tip : Byte} (h : tip.toNat ≤ 63) : (tipArg tip).isSome = true :=
  indexArg_isSome_iff.mpr (Nat.lt_succ_of_le h)

theorem tipQualify_absent {tip arm : Byte} {dx dy dz r : Word} {source : Byte} {temp : Word}
    (ht : s.takesRequests) (h : s.oneArm = true) (htip : tip.toNat ≤ 63) (harm : sideArg arm = some .one)
    (hs : source.toNat ≤ 1) : RefusedWith s .notPresent (.tipQualify tip arm dx dy dz r source temp) := by
  obtain ⟨i, hi⟩ := Option.isSome_iff_exists.mp (tipArg_isSome htip)
  exact request_answered ht (by simp [tipQualifyReq, hi, harm, yesNoArg_some hs, State.absentArm_one h])

theorem tipUnqualify_absent {tip arm : Byte} (ht : s.takesRequests) (h : s.oneArm = true) (htip : tip.toNat ≤ 63)
    (harm : sideArg arm = some .one) : RefusedWith s .notPresent (.tipUnqualify tip arm) := by
  obtain ⟨i, hi⟩ := Option.isSome_iff_exists.mp (tipArg_isSome htip)
  exact request_answered ht (by simp [tipUnqualifyReq, hi, harm, State.absentArm_one h])

/-- The byte names a value of a list that ends at `top`, or leaves the field out (R201). -/
def Listed (top : Nat) (b : Byte) : Prop := b.toNat ≤ top ∨ b = 0xFF

theorem optionalArg_listed {α : Type} {f : Byte → Option α} {top : Nat} {b : Byte}
    (hf : (f b).isSome = true ↔ b.toNat ≤ top) : (optionalArg f b).isSome = true ↔ Listed top b := by
  rw [optionalArg_isSome_iff, hf, Listed]

/-- A pattern and a cursor are read exactly when every byte stands in its list (R14, R15). -/
theorem findArgs_isSome_iff {state cls loc e0 q0 e1 q1 cursor : Byte} :
    ((patternArg state cls loc e0 q0 e1 q1).isSome = true ∧ (optionalArg tipArg cursor).isSome = true) ↔
      Listed 2 state ∧ Listed 3 cls ∧ Listed 3 loc ∧ Listed 1 e0 ∧ Listed 1 q0 ∧ Listed 1 e1 ∧ Listed 1 q1 ∧
        Listed 63 cursor := by
  have index {n : Nat} {b : Byte} : (indexArg (n + 1) b).isSome = true ↔ b.toNat ≤ n :=
    indexArg_isSome_iff.trans Nat.lt_succ_iff
  rw [← optionalArg_listed (f := tipStateArg) index, ← optionalArg_listed classArg_isSome_iff,
    ← optionalArg_listed (f := locationKindArg) index, ← optionalArg_listed (b := e0) yesNoArg_isSome_iff,
    ← optionalArg_listed (b := q0) entryStateArg_isSome_iff, ← optionalArg_listed (b := e1) yesNoArg_isSome_iff,
    ← optionalArg_listed (b := q1) entryStateArg_isSome_iff, ← optionalArg_listed (f := tipArg) index]
  simp only [Option.isSome_iff_exists]
  constructor
  · rintro ⟨⟨q, hp⟩, hc⟩
    obtain ⟨h1, h2, h3, h4, h5, h6, h7⟩ := patternArg_eq_some_iff.mp hp
    exact ⟨⟨_, h1⟩, ⟨_, h2⟩, ⟨_, h3⟩, ⟨_, h4⟩, ⟨_, h5⟩, ⟨_, h6⟩, ⟨_, h7⟩, hc⟩
  · rintro ⟨⟨v1, h1⟩, ⟨v2, h2⟩, ⟨v3, h3⟩, ⟨v4, h4⟩, ⟨v5, h5⟩, ⟨v6, h6⟩, ⟨v7, h7⟩, hc⟩
    exact ⟨⟨⟨v1, v2, v3, ⟨v4, v6⟩, ⟨v5, v7⟩⟩, patternArg_eq_some_iff.mpr ⟨h1, h2, h3, h4, h5, h6, h7⟩⟩, hc⟩

theorem tipFind_refused {state cls loc e0 q0 e1 q1 cursor : Byte} (ht : s.takesRequests)
    (h : ¬ (Listed 2 state ∧ Listed 3 cls ∧ Listed 3 loc ∧ Listed 1 e0 ∧ Listed 1 q0 ∧ Listed 1 e1 ∧ Listed 1 q1 ∧
      Listed 63 cursor)) : RefusedWith s .badArgument (.tipFind state cls loc e0 q0 e1 q1 cursor) := by
  rw [← findArgs_isSome_iff] at h
  refine request_answered ht ?_
  unfold tipFindReq
  split
  · rename_i hp hc
    simp [hp, hc] at h
  · rfl

theorem tipFind_absent {state cls loc e0 q0 e1 q1 cursor : Byte} (ht : s.takesRequests) (hone : s.oneArm = true)
    (h : Listed 2 state ∧ Listed 3 cls ∧ Listed 3 loc ∧ Listed 1 e0 ∧ Listed 1 q0 ∧ Listed 1 e1 ∧ Listed 1 q1 ∧
      Listed 63 cursor) (hg : e1 ≠ 0xFF ∨ q1 ≠ 0xFF) :
    RefusedWith s .notPresent (.tipFind state cls loc e0 q0 e1 q1 cursor) := by
  rw [← findArgs_isSome_iff, Option.isSome_iff_exists, Option.isSome_iff_exists] at h
  obtain ⟨⟨q, hp⟩, c, hc⟩ := h
  obtain ⟨-, -, -, -, -, he, hq⟩ := patternArg_eq_some_iff.mp hp
  have hone' : q.entry.one.isSome = true ∨ q.quality.one.isSome = true :=
    hg.imp (optionalArg_given he) (optionalArg_given hq)
  exact request_answered ht (by simp [tipFindReq, hp, hc, hone, hone'])

theorem sensor_refused {string address binding : Byte} {trim : Word} {shift clear : Byte} (ht : s.takesRequests)
    (h : 1 < string.toNat ∨ 15 < address.toNat) :
    RefusedWith s .badArgument (.sensorWrite string address binding trim shift) ∧
      RefusedWith s .badArgument (.sensorRetire string address) ∧
      RefusedWith s .badArgument (.sensorRead string address clear) := by
  have hnone : sideArg string = none ∨ addressArg address = none := h.imp sideArg_none indexArg_none
  refine ⟨request_answered ht ?_, request_answered ht ?_, request_answered ht ?_⟩
  · unfold sensorWriteReq
    split <;> simp_all
  · unfold sensorRetireReq
    split <;> simp_all
  · unfold sensorReadReq
    split <;> simp_all

theorem sensorWrite_refused {string address binding : Byte} {trim : Word} {shift : Byte} (ht : s.takesRequests)
    (h : ¬ Listed 8 binding) : RefusedWith s .badArgument (.sensorWrite string address binding trim shift) := by
  have hnone := groupArg_none h
  refine request_answered ht ?_
  unfold sensorWriteReq
  split <;> simp_all

theorem sensorRead_refused {string address clear : Byte} (ht : s.takesRequests) (h : 1 < clear.toNat) :
    RefusedWith s .badArgument (.sensorRead string address clear) := by
  have hnone := yesNoArg_none h
  refine request_answered ht ?_
  unfold sensorReadReq
  split <;> simp_all

theorem scanControl_refused {mode given : Byte} {period : Word} (ht : s.takesRequests)
    (h : 2 < mode.toNat ∨ 1 < given.toNat) : RefusedWith s .badArgument (.scanControl mode given period) := by
  have hnone : scanModeArg mode = none ∨ yesNoArg given = none := h.imp scanModeArg_none yesNoArg_none
  refine request_answered ht ?_
  unfold scanControlReq
  split <;> simp_all

theorem pocketWrite_refused {pocket state g0 : Byte} {box0 : Axes Bounds} {g1 : Byte} {box1 : Axes Bounds}
    (ht : s.takesRequests) (hq : s.quiet) (h : 19 < pocket.toNat ∨ 1 < g0.toNat ∨ 1 < g1.toNat) :
    RefusedWith s .badArgument (.pocketWrite pocket state g0 box0 g1 box1) := by
  have hnone : pocketArg pocket = none ∨ yesNoArg g0 = none ∨ yesNoArg g1 = none :=
    h.imp indexArg_none (Or.imp yesNoArg_none yesNoArg_none)
  refine request_settled_refused ht hq ?_
  unfold pocketWriteReq
  split <;> simp_all

theorem zoneWrite_refused {zone kind arm : Byte} {box : Axes Bounds} {margin : Word} (ht : s.takesRequests) (hq : s.quiet)
    (h : 15 < zone.toNat) : RefusedWith s .badArgument (.zoneWrite zone kind arm box margin) := by
  have hnone : zoneArg zone = none := indexArg_none h
  exact request_settled_refused ht hq (by simp [zoneWriteReq, hnone])

theorem axisHome_refused {arm axis : Byte} {v : Word} (ht : s.takesRequests) (h : 2 < axis.toNat) :
    RefusedWith s .badArgument (.axisHome arm axis v) := by
  have hnone := axisArg_none h
  refine request_answered ht ?_
  unfold axisHomeReq
  split <;> simp_all

theorem setting_refused {number : Byte} {w : Word} (ht : s.takesRequests) (h : number = 0 ∨ 12 < number.toNat) :
    RefusedWith s .badArgument (.settingWrite number w) ∧ RefusedWith s .badArgument (.settingRead number) := by
  have hnone := settingArg_none (h.imp_left (congrArg BitVec.toNat))
  exact ⟨request_answered ht (by simp [settingWriteReq, hnone]), request_answered ht (by simp [settingReadReq, hnone])⟩

theorem setting_absent {number : Byte} {w : Word} (ht : s.takesRequests) (h : s.oneArm = true)
    (hk : settingArg number = some (.qualificationTime .one)) :
    RefusedWith s .notPresent (.settingWrite number w) ∧ RefusedWith s .notPresent (.settingRead number) := by
  have ha : s.settingAbsent (.qualificationTime .one) = true := State.absentArm_one h
  exact ⟨request_answered ht (by simp [settingWriteReq, hk, ha]), request_answered ht (by simp [settingReadReq, hk, ha])⟩

end

/-- Settles O10, request by request: the argument that is out of its range is the one that its reader refuses. -/
theorem argumentsOutOfRangeAreRefused : Obligations.ArgumentsOutOfRangeAreRefused := by
  refine ⟨fun s n ht hq => ⟨refused_of_arm ht hq, refused_of_tip ht, refused_of_pocket ht, refused_of_zone ht hq, ?_⟩,
    fun s ht hq => ⟨?_, ?_, ?_, ?_, ?_, ?_, ?_, ?_⟩⟩
  · rintro h rfl
    exact refused_of_absentArm rfl ht hq h
  · intro tip arm dx dy dz r source temp
    refine ⟨fun h => ⟨tipQualify_refused ht (by tauto), tipUnqualify_refused ht h⟩,
      fun h => tipQualify_refused ht (.inr (.inr h)), ?_⟩
    rintro htip rfl hone
    exact ⟨tipUnqualify_absent ht hone htip rfl, tipQualify_absent ht hone htip rfl⟩
  · exact fun state cls loc e0 q0 e1 q1 cursor => ⟨tipFind_refused ht, fun h hone => tipFind_absent ht hone h⟩
  · exact fun string address binding trim shift clear => ⟨sensor_refused ht, sensorWrite_refused ht, sensorRead_refused ht⟩
  · exact fun mode given period => scanControl_refused ht
  · exact fun pocket state g0 box0 g1 box1 => pocketWrite_refused ht hq
  · exact fun zone kind arm box margin => zoneWrite_refused ht hq
  · exact fun arm axis v => axisHome_refused ht
  · refine fun number w => ⟨setting_refused ht, ?_⟩
    rintro rfl hone
    exact setting_absent ht hone rfl

end Sys2Proof.Machine
end

section
/-! PROOF. TIP_QUALIFY and TIP_UNQUALIFY (O16). -/

namespace Sys2Proof.Machine

/-! ### Clamping (spec 00, section 5.2) -/

theorem clamp_eq_max_min {lo hi : Int} (h : lo ≤ hi) (v : Int) : clamp lo hi v = max lo (min hi v) := by
  unfold clamp
  split
  · omega
  · split <;> omega

/-- A value lies outside its range exactly when clamping replaces it. -/
theorem outside_iff {lo hi : Int} (h : lo ≤ hi) (v : Int) : outside lo hi v = true ↔ clamp lo hi v ≠ v := by
  rw [clamp_eq_max_min h, outside, Bool.or_eq_true, decide_eq_true_eq, decide_eq_true_eq]
  omega

theorem GroupState.value_eq_none_iff (st : GroupState) : st.value = none ↔ st = .empty := by
  cases st <;> simp [GroupState.value]

theorem byteOf_of_toNat {b : Byte} {n : Nat} (h : b.toNat = n) : byteOf n = b := by
  rw [← h]
  exact BitVec.ofNat_toNat ..

theorem armByte_of_toNat {b : Byte} {a : Arm} (h : b.toNat = a.toNat) : armByte a = b := byteOf_of_toNat h

/-! ### TIP_QUALIFY (R10, R11) -/

section
variable {s : State} {i : Fin 64} {a : Arm} {dx dy dz r : Word}

/-- The stored offset is the given one with each length clamped (R11). -/
theorem qualifyOffset_eq : qualifyOffset dx dy dz =
    ⟨max (-20000000) (min 20000000 dx.toInt), max (-20000000) (min 20000000 dy.toInt),
      max (-20000000) (min 20000000 dz.toInt)⟩ := by
  have hb : -Config.offsetMax ≤ Config.offsetMax := by decide
  simp only [qualifyOffset, Axes.map, clamp_eq_max_min hb]
  rfl

theorem qualifyRadius_eq :
    clamp 0 Config.radiusMax r.toInt = max 0 (min 500000 r.toInt) := clamp_eq_max_min (by decide) _

/-- An offset or the radius was clamped. -/
theorem qualifyClamped_iff : qualifyClamped dx dy dz r = true ↔
    qualifyOffset dx dy dz ≠ ⟨dx.toInt, dy.toInt, dz.toInt⟩ ∨ clamp 0 Config.radiusMax r.toInt ≠ r.toInt := by
  have hb : -Config.offsetMax ≤ Config.offsetMax := by decide
  have hr : (0 : Int) ≤ Config.radiusMax := by decide
  simp only [qualifyClamped, qualifyOffset, Axes.map, Axes.any, Bool.or_eq_true, outside_iff hb, outside_iff hr, ne_eq,
    Axes.mk.injEq]
  tauto

theorem tipQualifyReq_eq {tip arm source : Byte} {temp : Word} (htip : tip.toNat = i.val) (harm : arm.toNat = a.toNat)
    (hs : source.toNat ≤ 1) : tipQualifyReq tip arm dx dy dz r source temp s =
      if s.absentArm a then refuse .notPresent s
      else tipQualifyBody i a dx dy dz r (if source.toNat = 1 then none else some temp) s := by
  simp [tipQualifyReq, tipArg, indexArg_of_val htip, sideArg_of_toNat harm, yesNoArg_some hs]

/-- The entry an accepted TIP_QUALIFY stores: with the explicit temperature, or with that of the head group (R10, R11). -/
theorem tipQualifyBody_explicit {t : Tip} {w : Word} (ht : s.library.tips[i] = .active t)
    (hl : ∀ b, t.location ≠ .inTransit b) : tipQualifyBody i a dx dy dz r (some w) s =
      qualifyStore i t a ⟨qualifyOffset dx dy dz, clamp 0 Config.radiusMax r.toInt,
        clamp 0 Config.temperatureMax w.toInt, .qualified⟩
        (qualifyClamped dx dy dz r || outside 0 Config.temperatureMax w.toInt) s := by
  rw [← State.activeTip_eq_some_iff] at ht
  simp [tipQualifyBody, ht, hl]

theorem tipQualifyBody_head {t : Tip} {v : Int} (ht : s.library.tips[i] = .active t)
    (hl : ∀ b, t.location ≠ .inTransit b) (hv : s.headValue a = some v) : tipQualifyBody i a dx dy dz r none s =
      qualifyStore i t a ⟨qualifyOffset dx dy dz, clamp 0 Config.radiusMax r.toInt, v, .qualified⟩
        (qualifyClamped dx dy dz r) s := by
  rw [← State.activeTip_eq_some_iff] at ht
  simp [tipQualifyBody, ht, hl, hv]

theorem tipQualifyBody_empty {t : Tip} (ht : s.library.tips[i] = .active t) (hl : ∀ b, t.location ≠ .inTransit b)
    (hv : s.headValue a = none) : tipQualifyBody i a dx dy dz r none s = refuse .wrongState s := by
  rw [← State.activeTip_eq_some_iff] at ht
  simp [tipQualifyBody, ht, hl, hv]

theorem tipQualifyBody_inactive {temp : Option Word} (h : ∀ t, s.library.tips[i] ≠ .active t) :
    tipQualifyBody i a dx dy dz r temp s = refuse .wrongState s := by
  rw [← State.activeTip_eq_none_iff] at h
  simp [tipQualifyBody, h]

theorem tipQualifyBody_inTransit {temp : Option Word} {t : Tip} {b : Arm} (ht : s.library.tips[i] = .active t)
    (hl : t.location = .inTransit b) : tipQualifyBody i a dx dy dz r temp s = refuse .inUse s := by
  rw [← State.activeTip_eq_some_iff] at ht
  cases b <;> simp [tipQualifyBody, ht, hl]

theorem qualifyStore_eq {tip arm : Byte} (htip : tip.toNat = i.val) (harm : arm.toNat = a.toNat) (t : Tip) (e : Entry)
    (clamped : Bool) : qualifyStore i t a e clamped s =
      { status := if clamped then .clamped else .ok, payload := [tip, arm] ++ entryBlock (some e),
        state := s.setTip i (.active { t with entries := t.entries.set a (some e) }) } := by
  simp [qualifyStore, okOr, byteOf_of_toNat htip, armByte_of_toNat harm]

/-! ### TIP_UNQUALIFY (R12) -/

theorem tipUnqualifyReq_eq {tip arm : Byte} (htip : tip.toNat = i.val) (harm : arm.toNat = a.toNat)
    (hp : s.present a = true) : tipUnqualifyReq tip arm s = tipUnqualifyBody i a s := by
  simp [tipUnqualifyReq, tipArg, indexArg_of_val htip, sideArg_of_toNat harm, State.absentArm, hp]

theorem State.tipTargetOf_iff : s.tipTargetOf a i = true ↔ (s.change a).state ≠ .idle ∧ (s.change a).target = some i := by
  simp [State.tipTargetOf, Change.busy]

theorem tipUnqualifyBody_active {t : Tip} (ht : s.library.tips[i] = .active t) : tipUnqualifyBody i a s =
    if t.location = .onArm a ∨ t.location = .inTransit a ∨ ((s.change a).state ≠ .idle ∧ (s.change a).target = some i) then
      refuse .inUse s
    else if t.entries.get a = none then { status := .nothing, payload := [], state := s }
    else accept [] (s.setTip i (.active { t with entries := t.entries.set a none })) := by
  rw [← State.activeTip_eq_some_iff] at ht
  simp only [tipUnqualifyBody, ht, State.tipTargetOf_iff]
  cases t.entries.get a <;> rfl

end

/-- Settles O16: the tests of each request one after the other, and for TIP_QUALIFY the temperature given or that of the
head group. -/
theorem tipEntriesAreStoredAndDeleted : Obligations.TipEntriesAreStoredAndDeleted := by
  refine ⟨fun s tip arm dx dy dz r source temp i a ht htip harm hs => ?_,
    fun s tip arm i a ht htip harm hp => ⟨fun h => ?_, fun t hti => ⟨fun h => ?_, fun h he => ?_, fun h he => ?_⟩⟩⟩
  · refine ⟨fun hp => ?_, fun hp => ⟨fun h => ?_, fun t hti => ⟨?_, fun hl => ⟨fun h1 he => ?_, fun hg => ?_⟩⟩⟩⟩
    all_goals
      have hreq := tipQualifyReq_eq (s := s) (dx := dx) (dy := dy) (dz := dz) (r := r) (temp := temp) htip harm hs
      simp only [State.absentArm, hp, Bool.not_false, Bool.not_true, if_true, Bool.false_eq_true, if_false] at hreq
    · exact request_answered ht hreq
    · exact request_answered ht (hreq.trans (tipQualifyBody_inactive h))
    · rintro ⟨b, hb⟩
      exact request_answered ht (hreq.trans (tipQualifyBody_inTransit hti hb))
    · rw [if_pos h1] at hreq
      have hv : s.headValue a = none := (GroupState.value_eq_none_iff _).mpr he
      exact request_answered ht (hreq.trans (tipQualifyBody_empty hti hl hv))
    · rcases Nat.le_one_iff_eq_zero_or_eq_one.mp hs with h0 | h1
      · rw [if_neg (by omega), tipQualifyBody_explicit hti hl, qualifyStore_eq htip harm] at hreq
        refine ⟨_, _, request_answered ht hreq, rfl, qualifyOffset_eq, qualifyRadius_eq,
          fun _ => clamp_eq_max_min (by decide) _, fun h1 => by omega, ?_⟩
        rw [Bool.or_eq_true, qualifyClamped_iff, outside_iff (by decide)]
        tauto
      · obtain ⟨v, hv⟩ : ∃ v, s.headValue a = some v := by
          rw [← Option.ne_none_iff_exists']
          exact fun h => hg.elim (by omega) (· ((GroupState.value_eq_none_iff _).mp h))
        rw [if_pos h1, tipQualifyBody_head hti hl hv, qualifyStore_eq htip harm] at hreq
        refine ⟨_, _, request_answered ht hreq, rfl, qualifyOffset_eq, qualifyRadius_eq, fun h0 => by omega,
          fun _ => hv, ?_⟩
        rw [qualifyClamped_iff]
        have h0 : source.toNat ≠ 0 := by omega
        tauto
  all_goals have hreq := tipUnqualifyReq_eq (s := s) htip harm hp
  · rw [tipUnqualifyBody, (s.activeTip_eq_none_iff i).mpr h] at hreq
    exact request_answered ht hreq
  · rw [tipUnqualifyBody_active hti, if_pos h] at hreq
    exact request_answered ht hreq
  · rw [tipUnqualifyBody_active hti, if_neg h, if_pos he] at hreq
    exact request_answered ht hreq
  · rw [tipUnqualifyBody_active hti, if_neg h, if_neg he] at hreq
    exact request_answered ht hreq

end Sys2Proof.Machine
end

section
/-! PROOF. TIP_READ, TIP_FIND, TIP_RETIRE and TIP_PURGE (O17). -/

namespace Sys2Proof.Machine

/-! ### TIP_READ (R13, R207) -/

/-- An entry block of R207, field by field. -/
theorem entryBlock_eq (e : Option Entry) : entryBlock e =
    match e with
    | some e => [1, if e.state = .qualified then 0 else 1] ++ intBytes e.offset.x ++ intBytes e.offset.y
        ++ intBytes e.offset.z ++ intBytes e.radius ++ intBytes e.temperature
    | none => List.replicate 22 0 := by
  cases e with
  | none => rfl
  | some e =>
    have hcode : e.state.code = if e.state = .qualified then 0 else 1 := by cases e.state <;> rfl
    simp [entryBlock, pointBytes, axesBytes, hcode]

theorem wordBytes_length (w : Word) : (wordBytes w).length = 4 := rfl

theorem Location.bytes_length (loc : Location) : loc.bytes.length = 2 := by cases loc <;> rfl

theorem entryBlock_length (e : Option Entry) : (entryBlock e).length = 22 := by cases e <;> rfl

/-- The record of a tip takes 52 bytes after its number and its state (R207). -/
theorem Tip.bytes_length (t : Tip) : t.bytes.length = 52 := by
  simp [Tip.bytes, wordBytes_length, Location.bytes_length, entryBlock_length]

section
variable {s : State} {tip : Byte} {i : Fin 64}

theorem tipRead_answered (ht : s.takesRequests) (htip : tip.toNat = i.val) {payload : List Byte}
    (h : tipRecord i s.library.tips[i] = payload) : exec (.tipRead tip) s =
      .next (s.respond (.tipRead tip) { status := .ok, payload, state := s }) := by
  refine request_answered ht ?_
  simp only [tipReadReq, tipArg, indexArg_of_val htip, h]
  rfl

/-! ### TIP_FIND (R14, R15) -/

theorem given_iff {α : Type} [DecidableEq α] {field : Option α} {v : α} :
    given field v = true ↔ ∀ k, field = some k → v = k := by
  cases field with
  | none => simp [given]
  | some w => simp [given, eq_comm]

theorem Pattern.entryMatches_iff {q : Pattern} {a : Arm} {e : Option Entry} : q.entryMatches a e = true ↔
    (∀ b, q.entry.get a = some b → e.isSome = b) ∧
      ∀ st, q.quality.get a = some st → ∃ x, e = some x ∧ x.state = st := by
  rw [Pattern.entryMatches, Bool.and_eq_true, given_iff]
  refine and_congr_right fun _ => ?_
  cases q.quality.get a with
  | none => simp
  | some st => simp [Option.any_eq_true]

theorem byteOf_eq_iff {n : Nat} {b : Byte} (hn : n < 256) : byteOf n = b ↔ b.toNat = n := by
  refine ⟨?_, byteOf_of_toNat⟩
  rintro rfl
  simp [byteOf, Nat.mod_eq_of_lt hn]

theorem Side.forall_iff {P : Side → Prop} : (∀ a, P a) ↔ P .zero ∧ P .one :=
  ⟨fun h => ⟨h .zero, h .one⟩, fun h a => by cases a <;> simp [h]⟩

/-- A record agrees with a pattern in every given field (R14). -/
def Pattern.Agrees (q : Pattern) (t : Tip) : Prop :=
  (∀ k, q.cls = some k → t.cls = k) ∧ (∀ k : Fin 4, q.loc = some k → t.location.code.toNat = k.val) ∧
    ∀ a : Arm, (∀ b, q.entry.get a = some b → (t.entries.get a).isSome = b) ∧
      ∀ st, q.quality.get a = some st → ∃ e, t.entries.get a = some e ∧ e.state = st

theorem Pattern.fieldsMatch_iff {q : Pattern} {t : Tip} : q.fieldsMatch t = true ↔ q.Agrees t := by
  have hloc (k : Fin 4) : byteOf k.val = t.location.code ↔ t.location.code.toNat = k.val := byteOf_eq_iff (by omega)
  rw [Pattern.Agrees, Side.forall_iff, ← Pattern.entryMatches_iff, ← Pattern.entryMatches_iff, ← given_iff]
  simp only [Pattern.fieldsMatch, Bool.and_eq_true, and_assoc]
  refine and_congr_right fun _ => and_congr_left fun _ => ?_
  cases q.loc with
  | none => simp
  | some k => simp [hloc]

/-- What a pattern accepts (R14). -/
theorem Pattern.accepts_iff {q : Pattern} {slot : TipSlot} : q.accepts slot = true ↔
    match slot with
    | .vacant => q = { state := some 0, cls := none, loc := none, entry := ⟨none, none⟩, quality := ⟨none, none⟩ }
    | .active t => (q.state = none ∨ q.state = some 1) ∧ q.Agrees t
    | .retired t => (q.state = none ∨ q.state = some 2) ∧ q.Agrees t := by
  have hstate (n : Fin 3) : given q.state n = true ↔ q.state = none ∨ q.state = some n := by
    cases q.state with
    | none => simp [given]
    | some m => simp [given]
  cases slot with
  | vacant =>
    obtain ⟨qs, qc, ql, ⟨qe0, qe1⟩, ⟨qq0, qq1⟩⟩ := q
    simp only [Pattern.accepts, Pattern.fieldsAny, Bool.and_eq_true, beq_iff_eq, Option.isNone_iff_eq_none,
      Pattern.mk.injEq, Two.mk.injEq]
    tauto
  | active t => simp only [Pattern.accepts, Bool.and_eq_true, hstate, Pattern.fieldsMatch_iff]
  | retired t => simp only [Pattern.accepts, Bool.and_eq_true, hstate, Pattern.fieldsMatch_iff]

theorem State.mem_findTips {q : Pattern} {from_ : Option (Fin 64)} {j : Fin 64} : j ∈ s.findTips q from_ ↔
    (∀ k, from_ = some k → k < j) ∧ q.accepts s.library.tips[j] = true := by
  cases from_ with
  | none => simp [State.findTips]
  | some c => simp [State.findTips]

/-- The numbers found stand in ascending order (R15). -/
theorem State.findTips_sorted (q : Pattern) (from_ : Option (Fin 64)) : (s.findTips q from_).Pairwise (· < ·) :=
  (List.pairwise_lt_finRange 64).filter _

theorem markByte_decide (p : Prop) [Decidable p] : markByte (decide p) = if p then 1 else 0 := by
  by_cases h : p <;> simp [markByte, yesNo, h]

/-- The first eight numbers and the "more" mark (R15, log 11). -/
theorem tipFindBody_eq (q : Pattern) (from_ : Option (Fin 64)) : tipFindBody q from_ s =
    { status := .ok, state := s,
      payload := BitVec.ofNat 8 (min 8 (s.findTips q from_).length) ::
        ((s.findTips q from_).take 8).map (fun i => BitVec.ofNat 8 i.val)
        ++ [if 8 < (s.findTips q from_).length then 1 else 0] } := by
  have hmap (l : List (Fin 64)) : l.flatMap numberByte = l.map fun i => BitVec.ofNat 8 i.val := List.map_eq_flatMap.symm
  simp only [tipFindBody, accept, listBytes, hmap, markByte_decide, List.length_take]
  rfl

theorem tipFind_answered {state cls loc e0 q0 e1 q1 cursor : Byte} {q : Pattern} {from_ : Option (Fin 64)}
    (ht : s.takesRequests) (hq : patternArg state cls loc e0 q0 e1 q1 = some q)
    (hc : optionalArg tipArg cursor = some from_)
    (hone : s.oneArm = false ∨ (q.entry.one = none ∧ q.quality.one = none)) :
    exec (.tipFind state cls loc e0 q0 e1 q1 cursor) s =
      .next (s.respond (.tipFind state cls loc e0 q0 e1 q1 cursor) (tipFindBody q from_ s)) := by
  have hpresent : ¬ (s.oneArm = true ∧ (q.entry.one.isSome = true ∨ q.quality.one.isSome = true)) := by
    rcases hone with h | ⟨h1, h2⟩ <;> simp [*]
  exact request_answered ht (by simp only [tipFindReq, hq, hc, hpresent, if_false])

/-! ### TIP_RETIRE and TIP_PURGE (R16, R17) -/

theorem tipRetireReq_eq (htip : tip.toNat = i.val) : tipRetireReq tip s = tipRetireBody i s := by
  simp [tipRetireReq, tipArg, indexArg_of_val htip]

theorem tipRetireBody_active {t : Tip} (ht : s.library.tips[i] = .active t) : tipRetireBody i s =
    if t.location ≠ .inPocket ∧ t.location ≠ .missing ∨ s.tipNamed i = true then refuse .inUse s
    else accept [] (s.setTip i (.retired t)) := by
  rw [← State.activeTip_eq_some_iff] at ht
  simp [tipRetireBody, ht]

theorem tipPurgeReq_eq (htip : tip.toNat = i.val) : tipPurgeReq tip s = tipPurgeBody i s := by
  simp [tipPurgeReq, tipArg, indexArg_of_val htip]

end

/-- Settles O17: each request by what its slot holds; the found tip numbers are the filtered list of all 64, which is
ascending. -/
theorem tipsAreReadFoundRetiredAndPurged : Obligations.TipsAreReadFoundRetiredAndPurged := by
  refine ⟨fun s tip i ht htip => ⟨fun h => ?_, fun t h => ?_, fun t h => ?_⟩,
    fun s state cls loc e0 q0 e1 q1 cursor q from_ ht hq hc hone => ?_,
    fun s tip i ht htip => ⟨fun h => ?_, fun t hti => ⟨fun h => ?_, fun hloc hn => ?_⟩⟩,
    fun s tip i ht htip => ⟨fun t hti => ?_, fun h => ?_⟩⟩
  · exact tipRead_answered ht htip (by rw [h, tipRecord, byteOf_of_toNat htip]; rfl)
  · have hrecord : tipRecord i (.active t) = [tip, 1] ++ t.bytes := by
      rw [tipRecord, byteOf_of_toNat htip]
      rfl
    have hlen : ([tip, 1] ++ t.bytes).length = 54 := by simp [Tip.bytes_length]
    rw [Tip.bytes] at hrecord hlen
    simp only [entryBlock_eq] at hrecord hlen
    exact ⟨tipRead_answered ht htip (h ▸ hrecord), hlen⟩
  · refine tipRead_answered ht htip ?_
    rw [h, tipRecord, byteOf_of_toNat htip, Tip.bytes, entryBlock_eq, entryBlock_eq]
    rfl
  · refine ⟨s.findTips q from_, ?_, s.findTips_sorted q from_, fun j => ?_⟩
    · rw [tipFind_answered ht hq hc hone, tipFindBody_eq]
    · rw [State.mem_findTips, Pattern.accepts_iff]
      rfl
  all_goals refine request_answered ht ?_
  · rw [tipRetireReq_eq htip, tipRetireBody, (s.activeTip_eq_none_iff i).mpr h]
  · rw [tipRetireReq_eq htip, tipRetireBody_active hti, if_pos]
    rcases h with ⟨a, h | h⟩ | h <;> simp [h]
  · rw [tipRetireReq_eq htip, tipRetireBody_active hti, if_neg]
    · rfl
    · rcases hloc with h | h <;> simp [h, hn]
  · simp only [tipPurgeReq_eq htip, tipPurgeBody, hti]
    rfl
  · rw [tipPurgeReq_eq htip, tipPurgeBody]
    split
    · rename_i t e
      exact absurd e (h t)
    · rfl

end Sys2Proof.Machine
end

section
/-! PROOF. The reports of the change sequencer about a named tip (O18). -/

namespace Sys2Proof.Machine

section
variable {s : State} {a : Arm} {i : Fin 64}

/-! ### The answer to a report -/

/-- A report refused leaves nothing but its answer. -/
theorem report_refused (hs : s.serves a) {f : State → Applied} (h : f s = s.refusesReport) :
    done (s.armEvent a fun s => State.answered (f s) .applied .refused) = .next (s.setAnswer .refused) := by
  rw [State.armEvent_on _ _ _ hs, h]
  rfl

theorem report_applied (hs : s.serves a) {f : State → Applied} {u : State} (h : f s = ⟨true, u⟩) :
    done (s.armEvent a fun s => State.answered (f s) .applied .refused) = .next (u.setAnswer .applied) := by
  rw [State.armEvent_on _ _ _ hs, h]
  rfl

/-! ### What a move changes -/

/-- The effect of a move on the attention unit, the rack and the rest (R18, R118). -/
theorem State.moveTip_attention (t : Tip) {loc : Location} (h : loc ≠ .missing) :
    (s.moveTip i t loc).attention = s.attention := by
  cases loc with
  | missing => exact absurd rfl h
  | inPocket => rfl
  | onArm b => rfl
  | inTransit b => rfl

theorem State.moveTip_rack (t : Tip) {loc : Location} (h : loc ≠ .inPocket) : (s.moveTip i t loc).rack = s.rack := by
  cases loc with
  | inPocket => exact absurd rfl h
  | missing => exact State.raise_rack ..
  | onArm b => rfl
  | inTransit b => rfl

theorem State.moveTip_missing (t : Tip) : (s.moveTip i t .missing).attention.sources[10].flag = true :=
  State.raise_flag _ .tip rfl

theorem State.moveTip_inPocket (t : Tip) : ((s.moveTip i t .inPocket).pocket t.home).foreignMark = false := by
  simp [State.moveTip, State.clearForeign]

@[simp] theorem State.moveTip_sequencer (t : Tip) (loc : Location) : (s.moveTip i t loc).sequencer = s.sequencer := by
  cases loc <;> simp [State.moveTip, State.clearForeign]

@[simp] theorem State.head_setAnswer (s : State) (r : Answer) (a : Arm) : (s.setAnswer r).head a = s.head a := rfl

@[simp] theorem State.head_headBecomes (s : State) (a : Arm) (h : HeadState) :
    (s.headBecomes a h).head a = { s.head a with state := h, allowUnqualified := false } := by
  simp [State.headBecomes]

@[simp] theorem State.head_headBecomesTip (s : State) (a : Arm) (mark : Bool) :
    (s.headBecomesTip a mark).head a = { s.head a with state := .tip, allowUnqualified := mark } := by
  simp [State.headBecomesTip]

@[simp] theorem State.head_moveTip (s : State) (i : Fin 64) (t : Tip) (loc : Location) (a : Arm) :
    (s.moveTip i t loc).head a = s.head a :=
  congrArg (·.head.get a) (s.moveTip_sequencer t loc)

/-- A move touches the library, the attention unit and the rack alone. -/
theorem State.moveTip_frame (t : Tip) (loc : Location) : ∃ (b : Library) (r : Attention) (k : Rack),
    s.moveTip i t loc = { s with library := b, attention := r, rack := k } := by
  unfold State.moveTip
  cases loc with
  | missing =>
    obtain ⟨r, h⟩ := (s.setTip i (.active { t with location := .missing })).raise_frame .tip
    exact ⟨_, r, _, h⟩
  | inPocket => exact ⟨_, _, _, rfl⟩
  | onArm b => exact ⟨_, _, _, rfl⟩
  | inTransit b => exact ⟨_, _, _, rfl⟩

/-- The library, the attention unit and the rack move on as a move of a record takes them, the sequencer may differ, and a
report is answered "applied" (R18). -/
def MovedTo (s : State) (i : Fin 64) (t : Tip) (loc : Location) (u : State) : Prop :=
  u.answer = some .applied ∧ u.library.tips[i] = .active { t with location := loc } ∧
  (∀ j : Fin 64, j ≠ i → u.library.tips[j] = s.library.tips[j]) ∧
  (loc = .missing → u.attention.sources[10].flag = true) ∧ (loc ≠ .missing → u.attention = s.attention) ∧
  (loc = .inPocket → (u.pocket t.home).foreignMark = false) ∧ (loc ≠ .inPocket → u.rack = s.rack) ∧
  { u with library := s.library, attention := s.attention, rack := s.rack, sequencer := s.sequencer,
           answer := s.answer } = s

theorem State.moveTip_movedTo (t : Tip) (loc : Location) :
    MovedTo s i t loc ((s.moveTip i t loc).setAnswer .applied) := by
  refine ⟨rfl, ?_, fun j hj => ?_, ?_, State.moveTip_attention t, ?_, State.moveTip_rack t, ?_⟩
  · exact (s.moveTip_tip i i t loc).trans (if_pos rfl)
  · exact (s.moveTip_tip i j t loc).trans (if_neg (Ne.symm hj))
  · rintro rfl
    exact State.moveTip_missing t
  · rintro rfl
    exact State.moveTip_inPocket t
  · obtain ⟨b, r, k, h⟩ := s.moveTip_frame (i := i) t loc
    rw [h]
    rfl

/-- A change of the head beside the move is no part of it. -/
theorem MovedTo.withHead {t : Tip} {loc : Location} {u : State} (h : MovedTo s i t loc u) (x : Head) :
    MovedTo s i t loc (u.setHead a x) := h

/-! ### The five reports, refused (R18) -/

theorem State.stowTransferComplete_refused (h : ∀ t, s.activeTip i = some t → t.location ≠ .inTransit a) :
    s.stowTransferComplete a i = s.refusesReport := by
  unfold State.stowTransferComplete
  split
  next t ht => exact if_neg (h t ht)
  next => rfl

theorem State.identityMatched_refused (h : ∀ t, s.activeTip i = some t → t.location ≠ .inTransit a) :
    s.identityMatched a i = s.refusesReport := by
  unfold State.identityMatched
  split
  next t ht => exact if_neg (h t ht)
  next => rfl

theorem State.transitResolved_refused (occupied : Bool)
    (h : ∀ t, s.activeTip i = some t → t.location ≠ .inTransit a) :
    s.transitResolved a i occupied = s.refusesReport := by
  unfold State.transitResolved
  split
  next t ht => exact if_neg (h t ht)
  next => rfl

/-! ### The five reports, applied (R18) -/

section
variable {t : Tip} (ht : s.library.tips[i] = .active t)
include ht

theorem State.stowReleaseBegins_applied (hl : t.location = .onArm a) :
    s.stowReleaseBegins a i = ⟨true, (s.moveTip i t (.inTransit a)).headBecomes a .empty⟩ := by
  rw [← State.activeTip_eq_some_iff] at ht
  simp [State.stowReleaseBegins, ht, hl]

theorem State.stowTransferComplete_applied (hl : t.location = .inTransit a) :
    s.stowTransferComplete a i = ⟨true, s.moveTip i t .inPocket⟩ := by
  rw [← State.activeTip_eq_some_iff] at ht
  simp [State.stowTransferComplete, ht, hl]

theorem State.pickBegins_applied (hl : t.location = .inPocket) :
    s.pickBegins a i = ⟨true, s.moveTip i t (.inTransit a)⟩ := by
  rw [← State.activeTip_eq_some_iff] at ht
  simp [State.pickBegins, ht, hl]

theorem State.transitResolved_applied (occupied : Bool) (hl : t.location = .inTransit a) :
    s.transitResolved a i occupied = ⟨true, s.moveTip i t (if occupied then .inPocket else .missing)⟩ := by
  rw [← State.activeTip_eq_some_iff] at ht
  simp [State.transitResolved, ht, hl]

theorem State.identityMatched_applied (hl : t.location = .inTransit a) :
    s.identityMatched a i = ⟨true, ((s.loseMounted a (some i)).moveTip i t (.onArm a)).headBecomesTip a
      ((s.change a).allow && (s.change a).target == some i)⟩ := by
  rw [← State.activeTip_eq_some_iff] at ht
  simp [State.identityMatched, ht, hl]

end

/-- Nothing is lost from an arm without a record. -/
theorem State.loseMounted_none {keep : Option (Fin 64)}
    (h : ∀ (j : Fin 64) (v : Tip), s.library.tips[j] = .active v → v.location ≠ .onArm a) :
    s.loseMounted a keep = s := by
  have hlose (j : Fin 64) : s.losesMounted a keep j = false := by
    rw [← Bool.not_eq_true, State.losesMounted_iff]
    rintro ⟨⟨t, ht, hl⟩, -⟩
    exact h j t ht hl
  simp [State.loseMounted, hlose]

/-- A test that no ACTIVE record of the slot meets. -/
theorem State.activeTip_fails {f : Tip → Prop} (h : ∀ t, s.library.tips[i] = .active t → ¬ f t) (t : Tip)
    (ht : s.activeTip i = some t) : ¬ f t :=
  h t ((s.activeTip_eq_some_iff i t).mp ht)

end

/-- Settles O18: each report by its refusal and by its move; "identity matched" finds no other record on its arm, so that
it loses none. -/
theorem changeReportsMoveTheTip : Obligations.ChangeReportsMoveTheTip := by
  intro s a i hs
  refine ⟨fun h => ?_, fun h => ?_, fun h => ?_, fun h => ?_, fun occupied h => ?_, fun t ht =>
    ⟨fun hl => ⟨_, report_applied hs (s.stowReleaseBegins_applied ht hl), (s.moveTip_movedTo t _).withHead _, ?_⟩,
     fun hl => ⟨_, report_applied hs (s.stowTransferComplete_applied ht hl), s.moveTip_movedTo t _, s.moveTip_sequencer ..⟩,
     fun hl => ⟨_, report_applied hs (s.pickBegins_applied ht hl), s.moveTip_movedTo t _, s.moveTip_sequencer ..⟩,
     fun occupied hl => ⟨_, report_applied hs (s.transitResolved_applied ht occupied hl), s.moveTip_movedTo t _,
       s.moveTip_sequencer ..⟩,
     fun hl hfree => ?_⟩⟩
  · exact report_refused hs (s.stowReleaseBegins_refused a i (State.activeTip_fails h))
  · exact report_refused hs (State.stowTransferComplete_refused (State.activeTip_fails h))
  · exact report_refused hs (s.pickBegins_refused a i (State.activeTip_fails h))
  · exact report_refused hs (State.identityMatched_refused (State.activeTip_fails h))
  · exact report_refused hs (State.transitResolved_refused occupied (State.activeTip_fails h))
  · simp
  · have hm := s.identityMatched_applied (a := a) ht hl
    rw [State.loseMounted_none hfree] at hm
    exact ⟨_, report_applied hs hm, (s.moveTip_movedTo t _).withHead _, by simp⟩

end Sys2Proof.Machine
end

section
/-! PROOF. The reports of the rack controller about a home pocket (O20). -/

namespace Sys2Proof.Machine

variable {s : State} {p : Fin 20} {i : Fin 64} {t : Tip}

/-! ### The look-up among the ACTIVE records (R4) -/

theorem State.findTip_some {f : Tip → Bool} (h : s.findTip f = some i) :
    ∃ t, s.activeTip i = some t ∧ f t = true := by
  have hi := List.find?_some h
  rwa [Option.any_eq_true] at hi

theorem State.findTip_eq_none_iff {f : Tip → Bool} :
    s.findTip f = none ↔ ∀ (j : Fin 64) (v : Tip), s.library.tips[j] = .active v → ¬ f v = true := by
  simp only [State.findTip, List.find?_eq_none, List.mem_finRange, forall_const, Option.any_eq_true,
    State.activeTip_eq_some_iff, not_exists, not_and]

/-- The look-up finds the one record that fits. -/
theorem State.findTip_unique {f : Tip → Bool} (ht : s.library.tips[i] = .active t) (hf : f t = true)
    (h : ∀ (j : Fin 64) (v : Tip), s.library.tips[j] = .active v → f v = true → j = i) : s.findTip f = some i := by
  cases hj : s.findTip f with
  | none => exact absurd hf (State.findTip_eq_none_iff.mp hj i t ht)
  | some j =>
    obtain ⟨v, hv, hfv⟩ := State.findTip_some hj
    rw [h j v ((s.activeTip_eq_some_iff j v).mp hv) hfv]

theorem State.tipWithHome_unique (ht : s.library.tips[i] = .active t) (hp : t.home = p)
    (h : ∀ (j : Fin 64) (v : Tip), s.library.tips[j] = .active v → v.home = p → j = i) :
    s.tipWithHome p = some i :=
  State.findTip_unique ht (beq_iff_eq.mpr hp) fun j v hv hf => h j v hv (beq_iff_eq.mp hf)

theorem State.tipWithHome_some (h : s.tipWithHome p = some i) :
    ∃ t, s.activeTip i = some t ∧ s.library.tips[i] = .active t ∧ t.home = p := by
  obtain ⟨t, ht, hf⟩ := State.findTip_some h
  exact ⟨t, ht, (s.activeTip_eq_some_iff i t).mp ht, beq_iff_eq.mp hf⟩

/-! ### The library's part of a report about a home pocket (R20) -/

theorem State.libraryHomeEmpty_refused
    (h : ∀ (j : Fin 64) (v : Tip), s.library.tips[j] = .active v → v.home = p → v.location ≠ .inPocket) :
    s.libraryHomeEmpty p = s.refusesReport := by
  unfold State.libraryHomeEmpty
  cases hi : s.tipWithHome p with
  | none => rfl
  | some i =>
    obtain ⟨t, ht, hs, hp⟩ := State.tipWithHome_some hi
    simp [ht, h i t hs hp]

theorem State.libraryHomeOccupied_refused
    (h : ∀ (j : Fin 64) (v : Tip), s.library.tips[j] = .active v → v.home = p → v.location ≠ .missing) :
    s.libraryHomeOccupied p = s.refusesReport := by
  unfold State.libraryHomeOccupied
  cases hi : s.tipWithHome p with
  | none => rfl
  | some i =>
    obtain ⟨t, ht, hs, hp⟩ := State.tipWithHome_some hi
    simp [ht, h i t hs hp]

theorem State.libraryHomeEmpty_applied (hi : s.tipWithHome p = some i) (ht : s.library.tips[i] = .active t)
    (hl : t.location = .inPocket) : s.libraryHomeEmpty p = ⟨true, s.moveTip i t .missing⟩ := by
  rw [← State.activeTip_eq_some_iff] at ht
  simp [State.libraryHomeEmpty, hi, ht, hl]

theorem State.libraryHomeOccupied_applied (hi : s.tipWithHome p = some i) (ht : s.library.tips[i] = .active t)
    (hl : t.location = .missing) :
    s.libraryHomeOccupied p = ⟨true, (s.moveTip i t.suspectEntries .inPocket).raise .tip⟩ := by
  rw [← State.activeTip_eq_some_iff] at ht
  simp [State.libraryHomeOccupied, hi, ht, hl]

/-! ### The rack controller's part (R118) -/

theorem State.seenEmpty_refused (h : s.libraryHomeEmpty p = s.refusesReport) : s.seenEmpty p = s.refusesReport := by
  simp [State.seenEmpty, h, State.refusesReport]

theorem State.seenEmpty_applied {u : State} (h : s.libraryHomeEmpty p = ⟨true, u⟩) :
    s.seenEmpty p = ⟨true, u.raise .pocket⟩ := by
  simp [State.seenEmpty, h]

theorem State.seenOccupied_applied {u : State} (h : s.libraryHomeOccupied p = ⟨true, u⟩) :
    s.seenOccupied p = ⟨true, u⟩ := by
  simp [State.seenOccupied, h]

/-- The module seen is the one awaited. -/
theorem State.seenOccupied_expected (h : s.libraryHomeOccupied p = s.refusesReport) (he : s.expected p = true) :
    s.seenOccupied p = s.refusesReport := by
  simp [State.seenOccupied, h, he, State.refusesReport]

/-- The module seen is foreign. -/
theorem State.seenOccupied_foreign (h : s.libraryHomeOccupied p = s.refusesReport) (he : s.expected p = false) :
    s.seenOccupied p = ⟨false, (s.setPocket p { s.pocket p with foreignMark := true }).raise .pocket⟩ := by
  simp [State.seenOccupied, h, he, State.refusesReport]

/-! ### The two reports -/

/-- The answer of a report about a pocket that is not VACANT. -/
theorem homeReport_answered (hs : s.powered = true) (hp : (s.pocket p).state ≠ .vacant) (f : State → Applied) :
    done (s.event fun s => s.homeReport p (f s)) = .next (State.answered (f s) .applied .refused) := by
  rw [State.event_on _ _ hs, State.homeReport, if_neg hp]
  rfl

theorem homePocketSeenEmpty_answered (hs : s.powered = true) (hp : (s.pocket p).state ≠ .vacant) {r : Applied}
    (h : s.seenEmpty p = r) : exec (.homePocketSeenEmpty p) s = .next (State.answered r .applied .refused) :=
  h ▸ homeReport_answered hs hp (·.seenEmpty p)

theorem homePocketSeenOccupied_answered (hs : s.powered = true) (hp : (s.pocket p).state ≠ .vacant) {r : Applied}
    (h : s.seenOccupied p = r) : exec (.homePocketSeenOccupied p) s = .next (State.answered r .applied .refused) :=
  h ▸ homeReport_answered hs hp (·.seenOccupied p)

/-- A raise takes no flag away. -/
theorem State.raise_flag_kept (src : AttnSource) (k : Fin 14) (h : s.attention.sources[k].flag = true) :
    (s.raise src).attention.sources[k].flag = true := by
  rcases s.raise_cases src with ⟨-, e⟩ | ⟨-, e⟩
  · simp only [e, State.setSource, upd_get]
    split
    · rfl
    · exact h
  · rwa [e]

theorem Tip.suspectEntries_get (t : Tip) (a : Arm) :
    t.suspectEntries.entries.get a = (t.entries.get a).map fun e => { e with state := .suspect } :=
  Two.get_map ..

/-- Settles O20: the library's part of each report, by the one record of the pocket that the look-up finds, and the rack
controller's after it. -/
theorem homePocketReports : Obligations.HomePocketReports := by
  intro s p hs hp
  have empty {r} := homePocketSeenEmpty_answered hs hp (r := r)
  have occupied {r} := homePocketSeenOccupied_answered hs hp (r := r)
  refine ⟨fun h => ?_, fun h => ⟨fun he => ?_, fun he => ?_⟩, fun i t ht hhome huniq => ⟨fun hl => ?_, fun hl => ?_⟩⟩
  · exact empty (State.seenEmpty_refused (State.libraryHomeEmpty_refused h))
  · exact occupied (State.seenOccupied_expected (State.libraryHomeOccupied_refused h) he)
  · refine ⟨_, occupied (State.seenOccupied_foreign (State.libraryHomeOccupied_refused h) he), rfl,
      State.raise_rack .., State.raise_flag _ .pocket rfl, ?_⟩
    obtain ⟨r, hr⟩ := (s.setPocket p { s.pocket p with foreignMark := true }).raise_frame .pocket
    rw [hr]
    rfl
  · have happ := State.libraryHomeEmpty_applied (State.tipWithHome_unique ht hhome huniq) ht hl
    refine ⟨_, empty (State.seenEmpty_applied happ), rfl, ?_, State.raise_flag _ .pocket rfl, ?_, ?_⟩
    · exact (State.raise_library ..).trans (State.moveTip_library ..)
    · exact State.raise_flag_kept (s := s.moveTip i t .missing) .pocket 10 (State.moveTip_missing t)
    · obtain ⟨r, hr⟩ := (s.moveTip i t .missing).raise_frame .pocket
      obtain ⟨q, hq⟩ := (s.setTip i (.active { t with location := .missing })).raise_frame .tip
      rw [hr, State.moveTip, hq]
      rfl
  · have happ := State.libraryHomeOccupied_applied (State.tipWithHome_unique ht hhome huniq) ht hl
    refine ⟨_, occupied (State.seenOccupied_applied happ), rfl, ⟨{ t.suspectEntries with location := .inPocket },
      ?_, rfl, rfl, rfl, rfl, t.suspectEntries_get⟩, State.raise_flag _ .tip rfl, ?_, ?_⟩
    · exact (State.raise_library ..).trans (State.moveTip_library ..)
    · subst hhome
      exact State.raise_rack ..
    · obtain ⟨r, hr⟩ := (s.moveTip i t.suspectEntries .inPocket).raise_frame .tip
      rw [hr]
      rfl

end Sys2Proof.Machine
end

section
/-! PROOF. Identity reports, "module lost" and the registration claim (O19). -/

namespace Sys2Proof.Machine

variable {s : State} {a : Arm} {i : Fin 64} {t : Tip}

/-! ### The records an arm loses (R5, R19) -/

/-- A record ON_ARM of the arm is MISSING, and every other is as it was. -/
def TipSlot.unmounted (a : Arm) : TipSlot → TipSlot
  | .active v => .active { v with location := if v.location = .onArm a then .missing else v.location }
  | slot => slot

/-- Every slot but the one kept loses its record from the arm. -/
theorem State.loseMounted_others {keep : Option (Fin 64)} (j : Fin 64) (hj : some j ≠ keep) :
    (s.loseMounted a keep).library.tips[j] = s.library.tips[j].unmounted a := by
  rw [State.loseMounted_tip]
  cases hs : s.library.tips[j] with
  | vacant => simp [TipSlot.unmounted, TipSlot.toMissing]
  | retired v => simp [TipSlot.unmounted, TipSlot.toMissing]
  | active v =>
    rw [← State.activeTip_eq_some_iff] at hs
    by_cases hl : v.location = .onArm a
    · simp [State.losesMounted, hs, hl, Ne.symm hj, TipSlot.unmounted, TipSlot.toMissing]
    · simp [State.losesMounted, hs, hl, TipSlot.unmounted]

/-- TIP is raised when a record was lost. -/
theorem State.loseMounted_raised {keep : Option (Fin 64)}
    (h : ∃ (j : Fin 64) (v : Tip), some j ≠ keep ∧ s.library.tips[j] = .active v ∧ v.location = .onArm a) :
    (s.loseMounted a keep).attention.sources[10].flag = true := by
  obtain ⟨j, v, hj, hv, hl⟩ := h
  have hlost : (List.finRange 64).any (s.losesMounted a keep) = true :=
    List.any_eq_true.mpr ⟨j, List.mem_finRange j, (s.losesMounted_iff a keep j).mpr ⟨⟨v, hv, hl⟩, hj⟩⟩
  rw [State.loseMounted, if_pos hlost]
  exact State.raise_flag _ .tip rfl

theorem State.loseMounted_frame (keep : Option (Fin 64)) :
    ∃ (b : Library) (r : Attention), s.loseMounted a keep = { s with library := b, attention := r } := by
  unfold State.loseMounted
  split
  · obtain ⟨r, h⟩ := State.raise_frame { s with library := { s.library with tips := _ } } .tip
    exact ⟨_, r, h⟩
  · exact ⟨_, _, rfl⟩

@[simp] theorem State.head_loseMounted (keep : Option (Fin 64)) (b : Arm) :
    (s.loseMounted a keep).head b = s.head b := by
  obtain ⟨b, r, h⟩ := s.loseMounted_frame (a := a) keep
  rw [h]
  rfl

/-! ### An identity report and "module lost" (R19) -/

theorem identityReport_answered (hs : s.serves a) {id : Option Word} {r : Applied} (h : s.identityReport a id = r) :
    exec (.identityReport a id) s = .next (State.answered r .matched .notMatched) :=
  h ▸ congrArg Host.Outcome.next (s.armEvent_on a (fun s => State.answered (s.identityReport a id) .matched .notMatched) hs)

theorem State.identityReport_unknown {id : Option Word} (h : id.bind s.tipWithId = none) :
    s.identityReport a id = s.identityUnmatched a id := by
  simp [State.identityReport, h]

section
variable {w : Word} (hi : s.tipWithId w = some i) (ht : s.library.tips[i] = .active t)
include hi ht

theorem State.identityReport_elsewhere (hl : t.location = .onArm a.other ∨ t.location = .inTransit a.other) :
    s.identityReport a (some w) = s.identityUnmatched a (some w) := by
  rw [← State.activeTip_eq_some_iff] at ht
  simp [State.identityReport, hi, ht, hl]

theorem State.identityReport_mounted (hl : t.location = .onArm a) :
    s.identityReport a (some w) = ⟨true, s.headBecomesTip a false⟩ := by
  rw [← State.activeTip_eq_some_iff] at ht
  simp [State.identityReport, hi, ht, hl, (Side.other_ne a).symm]

theorem State.identityReport_arrived (hl : t.location = .inTransit a ∨ t.location = .inPocket ∨ t.location = .missing) :
    s.identityReport a (some w) = ⟨true, ((s.loseMounted a (some i)).moveTip i t (.onArm a)).headBecomesTip a false⟩ := by
  rw [← State.activeTip_eq_some_iff] at ht
  rcases hl with hl | hl | hl <;> simp [State.identityReport, hi, ht, hl, (Side.other_ne a).symm]

end

theorem moduleLost_answered (hs : s.serves a) {r : Applied} (h : s.moduleLost a = r) :
    exec (.moduleLost a) s = .next (State.answered r .applied .refused) :=
  h ▸ congrArg Host.Outcome.next (s.armEvent_on a (fun s => State.answered (s.moduleLost a) .applied .refused) hs)

theorem State.moduleLost_refused
    (h : ∀ (j : Fin 64) (v : Tip), s.library.tips[j] = .active v → v.location ≠ .onArm a) :
    s.moduleLost a = s.refusesReport := by
  have hnone : s.mountedTip a = none :=
    State.findTip_eq_none_iff.mpr fun j v hv hf => h j v hv (beq_iff_eq.mp hf)
  simp [State.moduleLost, hnone]

theorem State.moduleLost_applied
    (h : ∃ (j : Fin 64) (v : Tip), s.library.tips[j] = .active v ∧ v.location = .onArm a) :
    s.moduleLost a = ⟨true, (s.loseMounted a none).headBecomes a .empty⟩ := by
  obtain ⟨j, v, hv, hl⟩ := h
  unfold State.moduleLost
  cases hm : s.mountedTip a with
  | none => exact absurd (beq_iff_eq.mpr hl) (State.findTip_eq_none_iff.mp hm j v hv)
  | some _ => rfl

/-- The library, the attention unit, the rack and the head of one arm move on (R19). -/
def ArmHeadMoves (s : State) (a : Arm) (u : State) : Prop :=
  { u with library := s.library, attention := s.attention, rack := s.rack, sequencer := s.sequencer,
           answer := s.answer } = s ∧ u.head a.other = s.head a.other

theorem State.headBecomesTip_moves (r : Answer) : ArmHeadMoves s a ((s.headBecomesTip a false).setAnswer r) :=
  ⟨rfl, by simp [State.headBecomesTip, (Side.other_ne a).symm]⟩

theorem State.loseMounted_moves (x : HeadState) (r : Answer) :
    ArmHeadMoves s a (((s.loseMounted a none).headBecomes a x).setAnswer r) := by
  refine ⟨?_, by simp [State.headBecomes, (Side.other_ne a).symm]⟩
  obtain ⟨b, r, h⟩ := s.loseMounted_frame (a := a) none
  rw [h]
  rfl

/-- The record of slot `i` is mounted, and every other record ON_ARM of the arm is lost. -/
theorem State.mount_moves (mark : Bool) (r : Answer) :
    ArmHeadMoves s a ((((s.loseMounted a (some i)).moveTip i t (.onArm a)).headBecomesTip a mark).setAnswer r) := by
  refine ⟨?_, by simp [State.headBecomesTip, (Side.other_ne a).symm]⟩
  obtain ⟨b, r, h⟩ := s.loseMounted_frame (a := a) (some i)
  rw [h]
  rfl

/-! ### The registration claim (R8) -/

theorem State.claimant_none {id : Word} (h : ∀ a : Arm, s.present a = true → (s.head a).state ≠ .foreignModule (some id)) :
    s.claimant id = none := by
  have hp : s.present .zero = true := rfl
  simp only [State.claimant, h .zero hp, if_false]
  exact if_neg fun h1 => h .one h1.1 h1.2

theorem State.claimant_some {id : Word} (ha : s.present a = true) (hf : (s.head a).state = .foreignModule (some id))
    (hother : s.present a.other = true → (s.head a.other).state ≠ .foreignModule (some id)) :
    s.claimant id = some a := by
  cases a with
  | zero => simp [State.claimant, hf]
  | one =>
    have h0 := hother rfl
    simp only [Side.other] at h0
    simp [State.claimant, h0, ha, hf]

theorem registrationClaim_answered (hs : s.powered = true) {id : Word} {r : Option Arm × State}
    (h : s.registrationClaim id = r) : exec (.registrationClaim id) s = .next (r.2.setAnswer (claimAnswer r.1)) :=
  h ▸ congrArg Host.Outcome.next
    (s.event_on (fun s => (s.registrationClaim id).2.setAnswer (claimAnswer (s.registrationClaim id).1)) hs)

/-! ### The look-up by module ID (R4) -/

theorem State.tipWithId_none {w : Word}
    (h : ∀ (j : Fin 64) (v : Tip), s.library.tips[j] = .active v → v.moduleId ≠ w) : s.tipWithId w = none :=
  State.findTip_eq_none_iff.mpr fun j v hv hf => h j v hv (beq_iff_eq.mp hf)

theorem State.tipWithId_unique {w : Word} (ht : s.library.tips[i] = .active t) (hw : t.moduleId = w)
    (h : ∀ (j : Fin 64) (v : Tip), s.library.tips[j] = .active v → v.moduleId = w → j = i) :
    s.tipWithId w = some i :=
  State.findTip_unique ht (beq_iff_eq.mpr hw) fun j v hv hf => h j v hv (beq_iff_eq.mp hf)

/-- Settles O19: the four cases of R19 by what the look-up of the ID finds, and the claim by the claimant it finds. -/
theorem identitiesAreReportedAndClaimed : Obligations.IdentitiesAreReportedAndClaimed := by
  refine ⟨fun s a hs => ⟨fun id => ⟨fun hid => ?_, fun w i t hid ht hw huniq => ?_⟩, fun h => ?_, fun h => ?_⟩,
    fun s id hs => ⟨fun h => ?_, fun a ha hf hother => ?_⟩⟩
  · have hnone : id.bind s.tipWithId = none := by
      rcases hid with rfl | ⟨w, rfl, hw⟩
      · rfl
      · exact State.tipWithId_none hw
    exact ⟨_, identityReport_answered hs (State.identityReport_unknown hnone), rfl, State.loseMounted_others,
      State.loseMounted_raised, by simp [State.answered, State.identityUnmatched], State.loseMounted_moves ..⟩
  · subst hid
    have hi := State.tipWithId_unique ht hw huniq
    refine ⟨fun hl => ?_, fun hl => ?_, fun hl => ?_⟩
    · exact ⟨_, identityReport_answered hs (State.identityReport_elsewhere hi ht hl), rfl, State.loseMounted_others,
        State.loseMounted_raised, by simp [State.answered, State.identityUnmatched], State.loseMounted_moves ..⟩
    · exact ⟨_, identityReport_answered hs (State.identityReport_mounted hi ht hl), rfl, rfl,
        by simp [State.answered], by simp [State.answered], State.headBecomesTip_moves _⟩
    · refine ⟨_, identityReport_answered hs (State.identityReport_arrived hi ht hl), rfl, fun j hj => ?_,
        State.loseMounted_raised, ?_, by simp [State.answered], by simp [State.answered], State.mount_moves ..⟩
      · have hne : i ≠ j := fun e => hj (congrArg some e.symm)
        exact ((State.moveTip_tip _ i j t _).trans (if_neg hne)).trans (State.loseMounted_others j hj)
      · exact (State.moveTip_tip _ i i t _).trans (if_pos rfl)
  · exact moduleLost_answered hs (State.moduleLost_refused h)
  · exact ⟨_, moduleLost_answered hs (State.moduleLost_applied h), rfl, State.loseMounted_others,
      State.loseMounted_raised, by simp [State.answered], State.loseMounted_moves ..⟩
  · exact registrationClaim_answered hs (by rw [State.registrationClaim, State.claimant_none h])
  · exact registrationClaim_answered hs (by rw [State.registrationClaim, State.claimant_some ha hf hother])

end Sys2Proof.Machine
end

section
/-! PROOF. TIP_WRITE (O15). -/

namespace Sys2Proof.Machine

variable {s : State} {a : Arm} {i : Fin 64} {id : Word} {p : Fin 20} {cls : TipClass}

/-! ### The tests of TIP_WRITE in their order (R6, R7) -/

theorem tipWriteReq_badArgument {tip cls home : Byte} (h : 63 < tip.toNat ∨ 3 < cls.toNat ∨ 19 < home.toNat) :
    tipWriteReq tip id cls home s = refuse .badArgument s := by
  unfold tipWriteReq
  rcases h with h | h | h
  · simp [tipArg, indexArg_none h]
  · simp [classArg_none h]
  · simp [pocketArg, indexArg_none h]

theorem tipWriteReq_eq {tip c home : Byte} (htip : tip.toNat = i.val) (hc : classArg c = some cls)
    (hp : home.toNat = p.val) : tipWriteReq tip id c home s = tipWriteBody i id cls p s := by
  simp [tipWriteReq, tipArg, pocketArg, indexArg_of_val htip, hc, indexArg_of_val hp]

theorem State.bothForeign_iff : s.bothForeign id = true ↔
    s.oneArm = false ∧ ∀ a : Arm, (s.head a).state = .foreignModule (some id) := by
  simp [State.bothForeign, State.present, Side.forall_iff, and_assoc]

/-- One head that is not FOREIGN with the ID, or one arm absent, is enough to pass the fifth test (R7). -/
theorem State.bothForeign_false (a : Arm)
    (h : s.present a = true → (s.head a).state ≠ .foreignModule (some id)) : s.bothForeign id = false := by
  rw [← Bool.not_eq_true, State.bothForeign_iff]
  rintro ⟨hone, hf⟩
  refine h ?_ (hf a)
  cases a <;> simp [State.present, hone]

theorem tipWriteBody_retired {t : Tip} (ht : s.library.tips[i] = .retired t) :
    tipWriteBody i id cls p s = refuse .wrongState s := by
  rw [tipWriteBody, ht]

theorem tipWriteBody_notFound (ht : ∀ t, s.library.tips[i] ≠ .retired t) (hp : (s.pocket p).state = .vacant) :
    tipWriteBody i id cls p s = refuse .notFound s := by
  unfold tipWriteBody
  split
  next t hr => exact absurd hr (ht t)
  next => exact if_pos hp
  next => exact if_pos hp

/-- TIP_WRITE on a VACANT slot (R7, R8). -/
theorem tipWriteBody_vacant (ht : s.library.tips[i] = .vacant) (hp : (s.pocket p).state ≠ .vacant) :
    tipWriteBody i id cls p s =
      if s.duplicates i id p ∨ s.bothForeign id then refuse .duplicate s
      else (s.createTip i id cls p).tipWriteReply i := by
  rw [tipWriteBody, ht]
  simp only [if_neg hp]
  cases s.duplicates i id p <;> simp

/-- A rewrite that gives a record a new ID or home pocket where it may not be moved (R7, test 3). -/
def State.MovesInUse (s : State) (i : Fin 64) (t : Tip) (id : Word) (p : Fin 20) : Prop :=
  (id ≠ t.moduleId ∨ p ≠ t.home) ∧ ((t.location ≠ .inPocket ∧ t.location ≠ .missing) ∨ s.tipNamed i = true)

section
variable {t : Tip} (ht : s.library.tips[i] = .active t) (hp : (s.pocket p).state ≠ .vacant)
include ht hp

theorem tipWriteBody_inUse (hm : s.MovesInUse i t id p) : tipWriteBody i id cls p s = refuse .inUse s := by
  rw [tipWriteBody, ht]
  exact (if_neg hp).trans (if_pos hm)

/-- TIP_WRITE on an ACTIVE record that may be rewritten (R7, R9). -/
theorem tipWriteBody_active (hm : ¬ s.MovesInUse i t id p) : tipWriteBody i id cls p s =
    if s.duplicates i id p ∨ (t.location = .missing ∧ id ≠ t.moduleId ∧ s.bothForeign id) then refuse .duplicate s
    else (s.rewriteTip i t id cls p).tipWriteReply i := by
  rw [tipWriteBody, ht]
  refine ((if_neg hp).trans (if_neg hm)).trans ?_
  cases s.duplicates i id p <;> simp

end

/-! ### The answer of an accepted TIP_WRITE (R6) -/

theorem State.tipWriteReply_active {tip : Byte} {t : Tip} (ht : s.library.tips[i] = .active t)
    (htip : tip.toNat = i.val) :
    s.tipWriteReply i = { status := .ok, payload := [tip, 1] ++ t.location.bytes, state := s } := by
  rw [← State.activeTip_eq_some_iff] at ht
  simp [State.tipWriteReply, ht, accept, byteOf_of_toNat htip]

/-! ### Where a record is placed (R8) -/

/-- The record is ON_ARM of the arm that claims it: the head is TIP, and the other records ON_ARM of it are lost. -/
def PlacedOnArm (s : State) (a : Arm) (i : Fin 64) (v : Tip) (u : State) : Prop :=
  u.library.tips[i] = .active { v with location := .onArm a } ∧
  u.head a = { s.head a with state := .tip, allowUnqualified := false } ∧ u.head a.other = s.head a.other ∧
  (∀ j : Fin 64, j ≠ i → u.library.tips[j] = s.library.tips[j].unmounted a) ∧
  { u.sequencer with head := s.sequencer.head } = s.sequencer ∧
  { u with library := s.library, sequencer := s.sequencer, attention := s.attention } = s

theorem State.placeTip_claimed (v : Tip) :
    PlacedOnArm s a i v ((s.headBecomesTip a false).placeTip i v (some a)) := by
  obtain ⟨b, r, h⟩ := (s.headBecomesTip a false).loseMounted_frame (a := a) (some i)
  refine ⟨?_, ?_, ?_, fun j hj => ?_, ?_, ?_⟩
  · exact (upd_get ..).trans (if_pos rfl)
  · change ((s.headBecomesTip a false).loseMounted a (some i)).head a = _
    simp
  · change ((s.headBecomesTip a false).loseMounted a (some i)).head a.other = _
    simp [State.headBecomesTip, (Side.other_ne a).symm]
  · exact ((upd_get ..).trans (if_neg (Ne.symm hj))).trans
      (State.loseMounted_others j fun e => hj (Option.some.inj e))
  · rw [State.placeTip, h]
    rfl
  · rw [State.placeTip, h]
    rfl

/-- The record stands in its home pocket, whose foreign mark it takes off, or is MISSING, as the pocket is occupied. -/
def PlacedByPocket (s : State) (i : Fin 64) (v : Tip) (u : State) : Prop :=
  u.library.tips[i] = .active { v with location := s.locationByPocket v.home } ∧
  (∀ j : Fin 64, j ≠ i → u.library.tips[j] = s.library.tips[j]) ∧
  u.pocket v.home = { s.pocket v.home with
    foreignMark := (s.pocket v.home).foreignMark && !(s.pocket v.home).occupied } ∧
  (∀ q : Fin 20, q ≠ v.home → u.pocket q = s.pocket q) ∧
  { u with library := s.library, rack := s.rack } = s ∧ { u.rack with pockets := s.rack.pockets } = s.rack

theorem State.placeTip_unclaimed (v : Tip) : PlacedByPocket s i v (s.placeTip i v none) := by
  cases ho : (s.pocket v.home).occupied with
  | true =>
    have hloc : s.locationByPocket v.home = .inPocket := if_pos ho
    have heq : s.placeTip i v none = (s.setTip i (.active { v with location := .inPocket })).clearForeign v.home := by
      simp only [State.placeTip, hloc, if_true]
    rw [PlacedByPocket, heq, hloc]
    refine ⟨(upd_get ..).trans (if_pos rfl), fun j hj => (upd_get ..).trans (if_neg (Ne.symm hj)), ?_, fun q hq => ?_,
      rfl, rfl⟩
    · change (s.setPocket v.home { s.pocket v.home with foreignMark := false }).pocket v.home = _
      simp [ho]
    · change (s.setPocket v.home { s.pocket v.home with foreignMark := false }).pocket q = _
      simp [Ne.symm hq]
  | false =>
    have hloc : s.locationByPocket v.home = .missing := if_neg (by simp [ho])
    have heq : s.placeTip i v none = s.setTip i (.active { v with location := .missing }) := by
      simp [State.placeTip, hloc]
    rw [PlacedByPocket, heq, hloc]
    refine ⟨(upd_get ..).trans (if_pos rfl), fun j hj => (upd_get ..).trans (if_neg (Ne.symm hj)), ?_, fun q hq => rfl,
      rfl, rfl⟩
    have hmark : ((s.pocket v.home).foreignMark && !(s.pocket v.home).occupied) = (s.pocket v.home).foreignMark := by
      simp [ho]
    rw [hmark]
    rfl

theorem PlacedByPocket.locationByPocket {v : Tip} {u : State} (h : PlacedByPocket s i v u) (q : Fin 20) :
    u.locationByPocket q = s.locationByPocket q := by
  obtain ⟨-, -, hhome, hother, -, -⟩ := h
  by_cases hq : q = v.home
  · subst hq
    rw [State.locationByPocket, hhome, State.locationByPocket]
  · rw [State.locationByPocket, hother q hq, State.locationByPocket]

/-! ### The record created and the record rewritten (R8, R9) -/

theorem State.registrationClaim_some (h : s.claimant id = some a) :
    s.registrationClaim id = (some a, s.headBecomesTip a false) := by
  rw [State.registrationClaim, h]

theorem State.registrationClaim_none (h : s.claimant id = none) : s.registrationClaim id = (none, s) := by
  rw [State.registrationClaim, h]

/-- The record a TIP_WRITE creates, and the record it makes of an ACTIVE one, but for the location. -/
def Tip.created (id : Word) (cls : TipClass) (p : Fin 20) : Tip :=
  { moduleId := id, cls, home := p, location := .missing, entries := ⟨none, none⟩ }

def Tip.rewritten (t : Tip) (id : Word) (cls : TipClass) (p : Fin 20) : Tip :=
  { moduleId := id, cls, home := p, location := t.location,
    entries := if id ≠ t.moduleId then ⟨none, none⟩ else t.entries }

theorem State.createTip_eq : s.createTip i id cls p =
    (s.registrationClaim id).2.placeTip i (.created id cls p) (s.registrationClaim id).1 := rfl

theorem State.rewriteTip_eq (t : Tip) : s.rewriteTip i t id cls p =
    if id ≠ t.moduleId ∧ t.location = .missing then
      (s.registrationClaim id).2.placeTip i (t.rewritten id cls p) (s.registrationClaim id).1
    else if p ≠ t.home then
      if t.location = .inPocket ∧ s.locationByPocket p = .missing then
        (s.placeTip i (t.rewritten id cls p) none).raise .tip
      else s.placeTip i (t.rewritten id cls p) none
    else s.setTip i (.active (t.rewritten id cls p)) := by
  unfold State.rewriteTip
  simp only [(s.placeTip_unclaimed _).locationByPocket, Tip.rewritten, Two.both, Bool.and_eq_true, bne_iff_ne, beq_iff_eq]

/-! ### A record rewritten where no arm claims it (R9) -/

/-- The record's place after a rewrite without a claim: by the occupancy of a new home pocket, or of the old one for a
MISSING record. -/
def State.rewrittenLocation (s : State) (t : Tip) (p : Fin 20) : Location :=
  if p ≠ t.home ∨ t.location = .missing then s.locationByPocket p else t.location

/-- Record `t` of the slot is replaced by `v`; TIP is raised when a record is found MISSING, and a new home pocket in
which it stands is not foreign. -/
def RewrittenInPlace (s : State) (i : Fin 64) (t v : Tip) (u : State) : Prop :=
  u.library.tips[i] = .active v ∧ (∀ j : Fin 64, j ≠ i → u.library.tips[j] = s.library.tips[j]) ∧
  (t.location = .inPocket → v.location = .missing → u.attention.sources[10].flag = true) ∧
  (v.home ≠ t.home → v.location = .inPocket → (u.pocket v.home).foreignMark = false) ∧
  { u with library := s.library, rack := s.rack, attention := s.attention } = s

theorem State.locationByPocket_inPocket (h : s.locationByPocket p = .inPocket) : (s.pocket p).occupied = true := by
  by_contra ho
  rw [State.locationByPocket, if_neg ho] at h
  cases h

/-- A record placed by its home pocket, for which TIP need not be raised. -/
theorem PlacedByPocket.rewritten {t v : Tip} {u : State} (h : PlacedByPocket s i v u)
    (hl : ¬ (t.location = .inPocket ∧ s.locationByPocket v.home = .missing)) :
    RewrittenInPlace s i t { v with location := s.locationByPocket v.home } u := by
  obtain ⟨hslot, hothers, hpocket, -, hframe, -⟩ := h
  refine ⟨hslot, hothers, fun h1 h2 => absurd ⟨h1, h2⟩ hl, fun _ hin => ?_, ?_⟩
  · simp [hpocket, State.locationByPocket_inPocket hin]
  · exact congrArg (fun w : State => { w with attention := s.attention }) hframe

/-- The raise of TIP after the placing of a record. -/
theorem PlacedByPocket.rewritten_raise {t v : Tip} {u : State} (h : PlacedByPocket s i v u) :
    RewrittenInPlace s i t { v with location := s.locationByPocket v.home } (u.raise .tip) := by
  obtain ⟨hslot, hothers, hpocket, -, hframe, -⟩ := h
  refine ⟨?_, fun j hj => ?_, fun _ _ => State.raise_flag _ .tip rfl, fun _ hin => ?_, ?_⟩
  · rw [State.raise_library]
    exact hslot
  · rw [State.raise_library]
    exact hothers j hj
  · have hraise : (u.raise .tip).pocket v.home = u.pocket v.home := by simp [State.pocket]
    simp [hraise, hpocket, State.locationByPocket_inPocket hin]
  · obtain ⟨r, hr⟩ := u.raise_frame .tip
    rw [hr]
    exact congrArg (fun w : State => { w with attention := s.attention }) hframe

theorem State.rewriteTip_inPlace {t : Tip} (hnew : id ≠ t.moduleId ∨ p ≠ t.home)
    (hclaim : id ≠ t.moduleId → t.location = .missing → s.claimant id = none) :
    RewrittenInPlace s i t { t.rewritten id cls p with location := s.rewrittenLocation t p }
      (s.rewriteTip i t id cls p) := by
  have hplaced := s.placeTip_unclaimed (i := i) (t.rewritten id cls p)
  rw [State.rewriteTip_eq]
  by_cases hm : id ≠ t.moduleId ∧ t.location = .missing
  · rw [if_pos hm, State.registrationClaim_none (hclaim hm.1 hm.2), State.rewrittenLocation, if_pos (.inr hm.2)]
    exact hplaced.rewritten fun h => by simp [hm.2] at h
  · rw [if_neg hm]
    by_cases hp : p ≠ t.home
    · rw [if_pos hp, State.rewrittenLocation, if_pos (.inl hp)]
      split
      next => exact hplaced.rewritten_raise
      next hr => exact hplaced.rewritten hr
    · have hid : id ≠ t.moduleId := hnew.resolve_right hp
      have hne : t.location ≠ .missing := fun h => hm ⟨hid, h⟩
      rw [if_neg hp, State.rewrittenLocation, if_neg (not_or.mpr ⟨hp, hne⟩)]
      exact ⟨(upd_get ..).trans (if_pos rfl), fun j hj => (upd_get ..).trans (if_neg (Ne.symm hj)),
        fun _ h => absurd h hne, fun h => absurd h hp, rfl⟩

/-! ### TIP_WRITE accepted -/

theorem locationByPocket_payload (tip : Byte) (p : Fin 20) : [tip, 1] ++ (s.locationByPocket p).bytes =
    [tip, 1, if (s.pocket p).occupied then 0 else 3, 0] := by
  unfold State.locationByPocket
  split <;> rfl

theorem State.createTip_claimed (h : s.claimant id = some a) :
    PlacedOnArm s a i (.created id cls p) (s.createTip i id cls p) := by
  rw [State.createTip_eq, State.registrationClaim_some h]
  exact s.placeTip_claimed _

theorem State.createTip_unclaimed (h : s.claimant id = none) :
    PlacedByPocket s i (.created id cls p) (s.createTip i id cls p) := by
  rw [State.createTip_eq, State.registrationClaim_none h]
  exact s.placeTip_unclaimed _

theorem State.rewriteTip_claimed {t : Tip} (hid : id ≠ t.moduleId) (hl : t.location = .missing)
    (h : s.claimant id = some a) : PlacedOnArm s a i (t.rewritten id cls p) (s.rewriteTip i t id cls p) := by
  rw [State.rewriteTip_eq, if_pos ⟨hid, hl⟩, State.registrationClaim_some h]
  exact s.placeTip_claimed _

/-- The class alone is written (R9). -/
theorem State.rewriteTip_class {t : Tip} :
    s.rewriteTip i t t.moduleId cls t.home = s.setTip i (.active { t with cls }) := by
  simp [State.rewriteTip_eq, Tip.rewritten]

section
variable {tip c home : Byte} (ht : s.takesRequests) (htip : tip.toNat = i.val) (hc : classArg c = some cls)
  (hp : home.toNat = p.val) (hpocket : (s.pocket p).state ≠ .vacant)
  (hnew : ∀ (j : Fin 64) (u : Tip), j ≠ i → s.library.tips[j] = .active u → u.moduleId ≠ id ∧ u.home ≠ p)
include ht htip hc hp hpocket hnew

theorem tipWrite_creates (hslot : s.library.tips[i] = .vacant) (hboth : s.bothForeign id = false) {v : Tip}
    (hv : (s.createTip i id cls p).library.tips[i] = .active v) :
    exec (.tipWrite tip id c home) s = .next (s.respond (.tipWrite tip id c home)
      { status := .ok, payload := [tip, 1] ++ v.location.bytes, state := s.createTip i id cls p }) := by
  have hdup := (State.not_duplicates_iff ..).mpr hnew
  refine request_answered ht ?_
  rw [tipWriteReq_eq htip hc hp, tipWriteBody_vacant hslot hpocket, if_neg (by simp [hdup, hboth]),
    State.tipWriteReply_active hv htip]

theorem tipWrite_rewrites {t : Tip} (hslot : s.library.tips[i] = .active t) (hm : ¬ s.MovesInUse i t id p)
    (hboth : ¬ (t.location = .missing ∧ id ≠ t.moduleId ∧ s.bothForeign id = true)) {v : Tip}
    (hv : (s.rewriteTip i t id cls p).library.tips[i] = .active v) :
    exec (.tipWrite tip id c home) s = .next (s.respond (.tipWrite tip id c home)
      { status := .ok, payload := [tip, 1] ++ v.location.bytes, state := s.rewriteTip i t id cls p }) := by
  have hdup := (State.not_duplicates_iff ..).mpr hnew
  refine request_answered ht ?_
  rw [tipWriteReq_eq htip hc hp, tipWriteBody_active hslot hpocket hm, if_neg (not_or.mpr ⟨by simp [hdup], hboth⟩),
    State.tipWriteReply_active hv htip]

end

/-- Settles O15: the tests of R7 one after the other, and the record created or rewritten by the claim that is granted or
by its home pocket. -/
theorem tipWriteFollowsItsRules : Obligations.TipWriteFollowsItsRules := by
  refine ⟨fun s tip id c home ht => ⟨fun h => ?_, fun i p htip hp hc => ?_⟩, fun s tip id c home i cls p ht htip hc hp hslot
    hpocket hnew => ⟨fun _ a ha hf hother => ?_, fun hno => ?_⟩, fun s tip id c home i cls p t ht htip hc hp hslot hpocket
    hnew => ⟨?_, fun hch hl hnamed hclaim => ?_, fun hch hnamed a hclaim hother => ?_⟩⟩
  · exact request_answered ht (tipWriteReq_badArgument h)
  · obtain ⟨cls, hcls⟩ := Option.isSome_iff_exists.mp (classArg_isSome_iff.mpr hc)
    have hreq := tipWriteReq_eq (s := s) (id := id) htip hcls hp
    refine ⟨fun t hr => ?_, ?_⟩
    · exact request_answered ht (hreq.trans (tipWriteBody_retired hr))
    rintro slot rfl hnr
    refine ⟨fun hv => ?_, fun hv => ⟨fun hslot hdup => ?_, fun t hslot => ⟨fun hm => ?_, fun hm hdup => ?_⟩⟩⟩
    · exact request_answered ht (hreq.trans (tipWriteBody_notFound hnr hv))
    · rw [← State.duplicates_iff, ← State.bothForeign_iff] at hdup
      exact request_answered ht (hreq.trans ((tipWriteBody_vacant hslot hv).trans (if_pos hdup)))
    · exact request_answered ht (hreq.trans (tipWriteBody_inUse hslot hv hm))
    · rw [← State.duplicates_iff, ← State.bothForeign_iff] at hdup
      exact request_answered ht (hreq.trans ((tipWriteBody_active hslot hv hm).trans (if_pos hdup)))
  · have hplaced := State.createTip_claimed (i := i) (cls := cls) (p := p) (State.claimant_some ha hf hother)
    exact ⟨_, tipWrite_creates ht htip hc hp hpocket hnew hslot (State.bothForeign_false _ hother) hplaced.1, hplaced⟩
  · have hplaced := State.createTip_unclaimed (i := i) (cls := cls) (p := p) (State.claimant_none hno)
    have hexec := tipWrite_creates ht htip hc hp hpocket hnew hslot (State.bothForeign_false .zero (hno _)) hplaced.1
    exact ⟨_, (locationByPocket_payload tip p) ▸ hexec, hplaced⟩
  · rintro ⟨rfl, rfl⟩
    have hexec := tipWrite_rewrites ht htip hc hp hpocket hnew hslot (by simp [State.MovesInUse]) (by simp)
      (v := { t with cls })
    rw [State.rewriteTip_class] at hexec
    exact hexec ((upd_get ..).trans (if_pos rfl))
  · have hplaced := State.rewriteTip_inPlace (s := s) (i := i) (cls := cls) hch fun hid hmiss =>
      State.claimant_none fun a ha hf => hclaim a ⟨ha, hf, hmiss, hid⟩
    refine ⟨_, tipWrite_rewrites ht htip hc hp hpocket hnew hslot ?_ ?_ hplaced.1, hplaced⟩
    · rintro ⟨-, hm | hm⟩
      · exact hl.elim hm.1 hm.2
      · simp [hnamed] at hm
    · rintro ⟨hmiss, hid, hb⟩
      exact hclaim .zero ⟨rfl, (State.bothForeign_iff.mp hb).2 .zero, hmiss, hid⟩
  · obtain ⟨ha, hf, hl, hid⟩ := hclaim
    have hfree : s.present a.other = true → (s.head a.other).state ≠ .foreignModule (some id) :=
      fun hp' hf' => hother ⟨hp', hf', hl, hid⟩
    have hplaced := State.rewriteTip_claimed (i := i) (cls := cls) (p := p) hid hl (State.claimant_some ha hf hfree)
    have hexec := tipWrite_rewrites ht htip hc hp hpocket hnew hslot (by simp [State.MovesInUse, hl, hnamed])
      (by simp [State.bothForeign_false _ hfree]) hplaced.1
    obtain ⟨hwritten, hhead, hheads, hothers, hseq, hframe⟩ := hplaced
    exact ⟨_, hexec, hwritten, hhead, hheads, hothers, hseq,
      congrArg (fun w : State => { w with rack := s.rack }) hframe⟩

end Sys2Proof.Machine
end

section
/-! SUPPORT. The measuring part of the state (axis records and origins, coefficients, factors, groups and the order of
their hold ages), and the operations that leave it alone: one rule for each. -/

namespace Sys2Proof.Machine

/-! ### The measuring part -/

/-- What the laws of counts, factors and hold ages speak of. -/
structure Measures where
  arms : Two ArmAxes
  coefficients : Coefficients
  factors : Factors
  groups : Groups
  ageing : List (List TempGroup)

def State.measures (s : State) : Measures :=
  { arms := s.arms, coefficients := s.comp.coefficients, factors := s.comp.factors, groups := s.scanner.groups,
    ageing := s.scanner.ageing }

/-- The measuring part of the state is `m`. -/
def Measured (m : Measures) (s : State) : Prop := s.measures = m

section
variable {m : Measures} {s t : State} {a : Arm} {p : Fin 20} {g : Strg} {i : Fin 64} {n : Nat} {r : ChangeResult}

theorem Measured.ite {c : Prop} [Decidable c] (hs : Measured m s) (ht : Measured m t) :
    Measured m (if c then s else t) := by
  split
  · exact hs
  · exact ht

theorem Measured.send {w : Message} (h : Measured m s) : Measured m (s.send w) := h

theorem Measured.setChange {c : Change} (h : Measured m s) : Measured m (s.setChange a c) := h

theorem Measured.setHold {v : HoldRecord} (h : Measured m s) : Measured m (s.setHold a v) := h

theorem Measured.setLibrary {l : Library} (h : Measured m s) : Measured m { s with library := l } := h

theorem Measured.setAttention {l : Attention} (h : Measured m s) : Measured m { s with attention := l } := h

/-! ### Flags and hold causes (spec 10, R170) -/

theorem Measured.raise {src : AttnSource} (h : Measured m s) : Measured m (s.raise src) := .ite h h

theorem Measured.addCause {c : HoldCause} (h : Measured m s) : Measured m (s.addCause a c) :=
  .ite (.ite (.raise h) h) h

/-! ### The touch unit (spec 06) -/

theorem Measured.touchEffect {q : Point} {o : TouchOutcome} (h : Measured m s) : Measured m (s.touchEffect a q o) := by
  cases o with
  | stray => exact h
  | collision => exact .addCause h
  | point => exact h

theorem Measured.acceptTouch (h : Measured m s) : Measured m (s.acceptTouch a) := by
  unfold State.acceptTouch
  split
  · exact .touchEffect h
  · exact h

theorem Measured.triggerEdge (h : Measured m s) : Measured m (s.triggerEdge a) := .ite h h

theorem Measured.triggerRelease (h : Measured m s) : Measured m (s.triggerRelease a) := .ite h h

theorem Measured.computeTouch (h : Measured m s) : Measured m (s.computeTouch a) := by
  unfold State.computeTouch
  split <;> exact h

theorem Measured.placePoint (h : Measured m s) : Measured m (s.placePoint a) := by
  simp only [State.placePoint]
  split
  · exact h
  · split
    · exact .raise h
    · exact h

/-! ### Lids and the arbiter (spec 07) -/

theorem Measured.jam (h : Measured m s) : Measured m (s.jam p) := .ite h (.raise h)

theorem Measured.closeLid (h : Measured m s) : Measured m (s.closeLid p).2 := by
  rcases s.closeLid_cases p with ⟨e, -⟩ | ⟨-, e⟩ <;> rw [e]
  · exact h
  · split <;> exact h

theorem Measured.openLid (h : Measured m s) : Measured m (s.openLid a p).2 := by
  rcases s.openLid_cases a p with e | ⟨-, -, -, -, e⟩ <;> rw [e]
  · exact h
  · dsimp only
    split <;> exact h

theorem Measured.reexamine (h : Measured m s) : Measured m s.reexamine := by
  unfold State.reexamine
  generalize List.finRange 20 = l
  induction l generalizing s with
  | nil => exact h
  | cons p l ih => exact ih (.ite (.closeLid h) h)

theorem Measured.lidSense (h : Measured m s) : Measured m (s.lidSense p) := by
  simp only [State.lidSense]
  split
  case h_1 | h_3 => exact .jam h
  case h_2 | h_4 | h_5 => exact h

theorem Measured.lidExpiry (h : Measured m s) : Measured m (s.lidExpiry p) := .ite (.jam h) h

theorem Measured.senseChange (h : Measured m s) : Measured m (s.senseChange p) := .ite h (.lidSense h)

theorem Measured.grantTest (h : Measured m s) : Measured m s.grantTest := by
  rcases s.grantTest_cases with ⟨e, -⟩ | ⟨a, rest, -, -, e⟩ <;> rw [e] <;> exact h

theorem Measured.rackRequest (h : Measured m s) : Measured m (s.rackRequest a).2 := by
  rcases s.rackRequest_cases a with e | ⟨_, _, -, -, e⟩ | ⟨-, -, e⟩ <;> rw [e]
  · exact h
  · exact h
  · exact .grantTest h

theorem Measured.freeRack (h : Measured m s) : Measured m s.freeRack :=
  .grantTest (.send (.reexamine (s := (s.setArbiter .free).setGrantTimer none) h))

theorem Measured.releaseIfDone (h : Measured m s) : Measured m s.releaseIfDone := by
  unfold State.releaseIfDone
  split
  · exact .freeRack h
  · exact h

theorem Measured.rackEntry (h : Measured m s) : Measured m (s.rackEntry a) := by
  unfold State.rackEntry
  split
  · exact .ite (.ite h h) h
  · exact h

theorem Measured.rackExit (h : Measured m s) : Measured m (s.rackExit a) := by
  unfold State.rackExit
  split
  · exact .ite (.releaseIfDone h) h
  · exact h

theorem Measured.rackChangeEnded (h : Measured m s) : Measured m (s.rackChangeEnded a) := by
  refine .ite (.grantTest h) ?_
  split
  · exact .ite (.releaseIfDone h) h
  · exact h

theorem Measured.grantExpiry (h : Measured m s) : Measured m s.grantExpiry := by
  unfold State.grantExpiry
  split
  · exact .ite (.freeRack h) h
  · exact h

theorem Measured.tellLockedOut {arms : List Arm} (h : Measured m s) : Measured m (s.tellLockedOut arms) := by
  unfold State.tellLockedOut
  induction arms generalizing s with
  | nil => exact h
  | cons b l ih => exact ih h

theorem Measured.doubleFault (h : Measured m s) : Measured m (s.doubleFault a) :=
  .ite h (.raise (.send (.tellLockedOut
    (.reexamine (s := ((s.setArbiter .lockedOut).setQueue []).setGrantTimer none) h))))

/-! ### The zone monitor (spec 09) -/

theorem Measured.reportRack {entered left : Bool} (h : Measured m s) : Measured m (s.reportRack a entered left) :=
  .ite (.ite (.rackEntry h) (.ite (.rackExit h) h)) h

theorem Measured.judgeOne {j : Judgement} (h : Measured m s) : Measured m (s.judgeOne j) :=
  .reportRack (.ite (.addCause h) h)

theorem Measured.judgeIf {j : Option Judgement} (h : Measured m s) : Measured m (s.judgeIf j) := by
  cases j with
  | none => exact h
  | some j => exact .judgeOne h

theorem Measured.judge {named : ZoneSet} {claims : Bool} (h : Measured m s) : Measured m (s.judge a named claims) :=
  .ite (.judgeIf (.judgeIf h)) (.judgeIf h)

theorem Measured.judgeAtRack (h : Measured m s) : Measured m (s.judgeAtRack a) := by
  unfold State.judgeAtRack
  split
  · exact .ite (.judge h) h
  · exact h

theorem Measured.takeGrantee {q : Option Arm} (h : Measured m s) : Measured m (s.takeGrantee q) := by
  refine .judgeAtRack (.judgeAtRack ?_)
  cases q with
  | none => exact h
  | some b => exact .ite (.rackEntry h) h

theorem Measured.noticeGrantee {q : Option Arm} (h : Measured m s) : Measured m (s.noticeGrantee q) :=
  .ite (.takeGrantee h) h

theorem Measured.judgeZone {z : Fin 16} (h : Measured m s) : Measured m (s.judgeZone z) := .ite (.judge (.judge h)) h

theorem Measured.releaseHold (h : Measured m s) : Measured m (s.releaseHold a) := .judge (.setHold h)

theorem Measured.form (h : Measured m s) : Measured m (s.form a) := by
  unfold State.form
  split
  · exact h
  · rename_i later _
    exact .ite (.send (.setChange (.judge (.setHold (s := s.setFormations a later) h)))) h

/-! ### The guard state and axis faults (R27, R35) -/

theorem Measured.guardChange {was : Bool} (h : Measured m s) : Measured m (s.guardChange a was) := by
  unfold State.guardChange
  split <;> exact h

theorem Measured.axisFault {was : Bool} (h : Measured m s) : Measured m (s.axisFault a was) :=
  .guardChange (.raise (.addCause h))

/-! ### The strings (spec 03) -/

theorem Measured.sweepReading {t : Transaction} {e : LineEnd} (h : Measured m s) :
    Measured m (s.sweepReading g t e) := by
  unfold State.sweepReading
  split
  · exact h
  · exact .ite h (.ite (.raise h) h)

theorem Measured.checkReading {t : Transaction} {e : LineEnd} (h : Measured m s) : Measured m (s.checkReading g t e) :=
  .ite h (.raise h)

theorem Measured.kickCheck (h : Measured m s) : Measured m (s.kickCheck g) := .ite h h

theorem Measured.kick (h : Measured m s) : Measured m (s.kick g) := by
  refine .ite h ?_
  split
  · exact .kickCheck h
  · split
    · exact .kickCheck h
    · exact .ite h h

theorem Measured.startPass (h : Measured m s) : Measured m (s.startPass g) := .ite h h

theorem Measured.scanTransition (h : Measured m s) : Measured m s.scanTransition := .ite h h

theorem Measured.makeTransactionStale {k : Fin 16} (h : Measured m s) : Measured m (s.makeTransactionStale g k) := by
  unfold State.makeTransactionStale
  split
  · exact .ite h h
  · exact h

theorem Measured.writeSensor {k : Fin 16} {b : Option TempGroup} {trim : Int} (h : Measured m s) :
    Measured m (s.writeSensor g k b trim n) := by
  unfold State.writeSensor
  split
  · exact h
  · exact .makeTransactionStale h

theorem Measured.setWindow {w k : Nat} (h : Measured m s) : Measured m (s.setWindow g w k) := .ite h h

/-! ### The moves of a tip record and the reports about it (R8, R18 to R20, R22) -/

theorem Measured.moveTip {v : Tip} {loc : Location} (h : Measured m s) : Measured m (s.moveTip i v loc) := by
  cases loc with
  | missing => exact .raise h
  | _ => exact h

theorem Measured.loseMounted {keep : Option (Fin 64)} (h : Measured m s) : Measured m (s.loseMounted a keep) :=
  .ite (.raise (.setLibrary h)) h

theorem Measured.stowReleaseBegins (h : Measured m s) : Measured m (s.stowReleaseBegins a i).state := by
  unfold State.stowReleaseBegins
  split
  · split
    · exact .moveTip h
    · exact h
  · exact h

theorem Measured.stowTransferComplete (h : Measured m s) : Measured m (s.stowTransferComplete a i).state := by
  unfold State.stowTransferComplete
  split
  · split
    · exact .moveTip h
    · exact h
  · exact h

theorem Measured.pickBegins (h : Measured m s) : Measured m (s.pickBegins a i).state := by
  unfold State.pickBegins
  split
  · split
    · exact .moveTip h
    · exact h
  · exact h

theorem Measured.identityMatched (h : Measured m s) : Measured m (s.identityMatched a i).state := by
  unfold State.identityMatched
  split
  · split
    · exact .moveTip (.loseMounted h)
    · exact h
  · exact h

theorem Measured.transitResolved {occupied : Bool} (h : Measured m s) :
    Measured m (s.transitResolved a i occupied).state := by
  unfold State.transitResolved
  split
  · split
    · exact .moveTip h
    · exact h
  · exact h

theorem Measured.identityReport {id : Option Word} (h : Measured m s) : Measured m (s.identityReport a id).state := by
  have hlost : Measured m (s.identityUnmatched a id).state := .loseMounted h
  unfold State.identityReport
  split
  · exact hlost
  · split
    · exact hlost
    · split
      · exact hlost
      · split
        · exact h
        · exact .moveTip (.loseMounted h)

theorem Measured.moduleLost (h : Measured m s) : Measured m (s.moduleLost a).state := by
  unfold State.moduleLost
  split
  · exact .loseMounted h
  · exact h

theorem Measured.libraryHomeEmpty (h : Measured m s) : Measured m (s.libraryHomeEmpty p).state := by
  unfold State.libraryHomeEmpty
  split
  · exact h
  · split
    · split
      · exact .moveTip h
      · exact h
    · exact h

theorem Measured.libraryHomeOccupied (h : Measured m s) : Measured m (s.libraryHomeOccupied p).state := by
  unfold State.libraryHomeOccupied
  split
  · exact h
  · split
    · split
      · exact .raise (.moveTip h)
      · exact h
    · exact h

theorem Measured.registrationClaim {id : Word} (h : Measured m s) : Measured m (s.registrationClaim id).2 := by
  unfold State.registrationClaim
  split <;> exact h

theorem Measured.placeTip {v : Tip} {claimed : Option Arm} (h : Measured m s) :
    Measured m (s.placeTip i v claimed) := by
  cases claimed with
  | none => exact .ite h h
  | some b => exact .loseMounted h

theorem Measured.rewriteTip {v : Tip} {id : Word} {cls : TipClass} (h : Measured m s) :
    Measured m (s.rewriteTip i v id cls p) :=
  .ite (.placeTip (.registrationClaim h)) (.ite (.ite (.raise (.placeTip h)) (.placeTip h)) h)

theorem Measured.ageArm (h : Measured m s) : Measured m (s.ageArm a).2 := by
  unfold State.ageArm
  split
  · split
    · exact .setLibrary h
    · exact h
  · exact h

theorem Measured.driftAge (h : Measured m s) : Measured m s.driftAge :=
  .ite (.raise (.ageArm (.ageArm h))) (.ageArm (.ageArm h))

/-! ### Comparison and report (R116 to R118) -/

theorem Measured.seenEmpty (h : Measured m s) : Measured m (s.seenEmpty p).state := by
  simp only [State.seenEmpty]
  split
  · exact .raise (.libraryHomeEmpty h)
  · exact .libraryHomeEmpty h

theorem Measured.seenOccupied (h : Measured m s) : Measured m (s.seenOccupied p).state := by
  simp only [State.seenOccupied]
  split
  · exact .libraryHomeOccupied h
  · exact .raise (.libraryHomeOccupied h)

theorem Measured.compareIfWatched (h : Measured m s) : Measured m (s.compareIfWatched p) := by
  refine .ite h ?_
  unfold State.compare
  split
  · exact .seenEmpty h
  · exact .seenOccupied h
  · exact h

theorem Measured.takeReport {q : PocketReport} (h : Measured m s) : Measured m (s.takeReport a q) := by
  simp only [State.takeReport]
  split
  · exact .ite (.reexamine (.compareIfWatched h)) (.compareIfWatched h)
  · exact .ite (.reexamine h) h

theorem Measured.occupancyChange (h : Measured m s) : Measured m (s.occupancyChange p) :=
  .ite h (.compareIfWatched h)

theorem Measured.restartCompareAt (h : Measured m s) : Measured m (s.restartCompareAt p) :=
  .ite (.ite (.compareIfWatched h) (.occupancyChange h)) h

theorem Measured.writePocket {st : PocketState} {dock : Two (Option Box)} (h : Measured m s) :
    Measured m (s.writePocket p st dock) := .ite (.compareIfWatched (.ite h h)) (.ite h h)

/-! ### The change sequencer (spec 08) -/

theorem Measured.discardStaged (h : Measured m s) : Measured m (s.discardStaged a) := .ite h h

theorem Measured.completeAtOnce (h : Measured m s) : Measured m (s.completeAtOnce a) := .raise h

theorem Measured.closeAt (e : s.closeAt a p = some t) (h : Measured m s) : Measured m t := by
  have hl : Measured m (s.closeLid p).2 := .closeLid h
  unfold State.closeAt at e
  split at e <;> rename_i he <;> rw [he] at hl <;> cases e <;> exact hl

theorem Measured.closeAll {lids : List (Fin 20)} (h : Measured m s) : Measured m (s.closeAll a lids).1 := by
  unfold State.closeAll
  generalize false = jammed
  induction lids generalizing s jammed with
  | nil => exact h
  | cons p l ih =>
    rw [List.foldl_cons]
    dsimp only
    split
    · exact ih (s := s.dropOpened a p) h true
    · rename_i ht
      exact ih (.closeAt ht h) jammed

theorem Measured.sendReport {pocket : Option (Fin 20)} {suppressed stow : Bool} (h : Measured m s) :
    Measured m (s.sendReport a pocket suppressed stow) := .takeReport h

theorem Measured.finishChange (h : Measured m s) : Measured m (s.finishChange a r) :=
  .raise (.rackChangeEnded (.sendReport h))

theorem Measured.endChange (h : Measured m s) : Measured m (s.endChange a r) := .discardStaged (.finishChange h)

theorem Measured.faultChange (h : Measured m s) : Measured m (s.faultChange a r) := .sendReport h

theorem Measured.resolveTransit {tip : Option (Fin 64)} (h : Measured m s) : Measured m (s.resolveTransit a tip) := by
  unfold State.resolveTransit
  split
  · exact .transitResolved h
  · exact h

theorem Measured.resolveAndEnd (h : Measured m s) : Measured m (s.resolveAndEnd a) :=
  .endChange (.sendReport (.resolveTransit (.resolveTransit h)))

theorem Measured.identifyHead (h : Measured m s) : Measured m (s.identifyHead a) :=
  .ite h (.resolveAndEnd (.moduleLost h))

theorem Measured.changeDoubleFault (h : Measured m s) : Measured m (s.changeDoubleFault a) :=
  .identifyHead (.doubleFault h)

theorem Measured.enterFetchApproach (h : Measured m s) : Measured m (s.enterFetchApproach a) := .ite h (.sendReport h)

theorem Measured.takeGrant (h : Measured m s) : Measured m (s.takeGrant a) :=
  .ite (.ite (.sendReport h) (.enterFetchApproach h)) h

theorem Measured.acceptChange {q : ChangeRequest} (h : Measured m s) : Measured m (s.acceptChange a q) := by
  have h1 : Measured m (((s.setChange a ((s.change a).accepted q (s.mountedTip a))).disarm a).rackRequest a).2 :=
    .rackRequest h
  simp only [State.acceptChange]
  split <;> rename_i e <;> rw [e] at h1
  · exact .takeGrant h1
  · exact h1
  · exact .endChange h1

theorem Measured.completeChange (h : Measured m s) : Measured m (s.completeChange a) := by
  have h1 : Measured m (s.finishChange a .completed) := .finishChange h
  simp only [State.completeChange, State.startStaged]
  split
  · exact h1
  · split
    · exact h1
    · exact .completeAtOnce h1
    · exact .acceptChange h1

theorem Measured.openAt {next : ChangeState} (h : Measured m s) : Measured m (s.openAt a p next) := by
  have h1 : Measured m ((s.stopTimer a).openLid a p).2 := .openLid h
  unfold State.openAt
  split <;> rename_i e <;> rw [e] at h1
  · exact .faultChange h1
  · exact .faultChange h1
  · exact h1

theorem Measured.beginStow (h : Measured m s) : Measured m (s.beginStow a p) := by
  unfold State.beginStow
  split
  · exact .faultChange h
  · exact .ite (.sendReport (.stowReleaseBegins h)) (.faultChange (.stowReleaseBegins h))

theorem Measured.completeStow (h : Measured m s) : Measured m (s.completeStow a p) := by
  unfold State.completeStow
  split
  · exact .faultChange h
  · rename_i i _
    have h1 : Measured m ((s.stopTimer a).stowTransferComplete a i).state := .stowTransferComplete h
    exact .ite (.ite (.enterFetchApproach (.sendReport h1)) (.sendReport h1)) (.faultChange h1)

theorem Measured.beginPick (h : Measured m s) : Measured m (s.beginPick a p) := by
  unfold State.beginPick
  split
  · exact .faultChange h
  · exact .ite (.sendReport (.pickBegins h)) (.faultChange (.pickBegins h))

theorem Measured.closeStowLid (h : Measured m s) : Measured m (s.closeStowLid a p) := by
  unfold State.closeStowLid
  split
  · exact .faultChange h
  · rename_i e
    exact .sendReport (.closeAt e h)

theorem Measured.clearStage (h : Measured m s) : Measured m (s.clearStage a p) := by
  unfold State.clearStage
  split
  · refine .ite ?_ h
    dsimp only
    split
    · exact .faultChange h
    · rename_i e
      exact .send (.closeAt e h)
  · exact .ite (.completeChange h) h

theorem Measured.makeRackSafe (h : Measured m s) : Measured m (s.makeRackSafe a) := by
  have hclosed (c : Change) : Measured m ((s.setChange a c).closeAll a (s.change a).opened).1 := .closeAll h
  simp only [State.makeRackSafe]
  split
  · exact .ite (.ite (.changeDoubleFault (hclosed _)) (hclosed _)) h
  · exact .ite (.identifyHead h) h
  · exact h

theorem Measured.advance (h : Measured m s) : Measured m (s.advance a) := by
  unfold State.advance
  dsimp only
  split
  case h_1 => exact .makeRackSafe h
  case h_2 => exact .ite (.openAt h) h
  case h_3 => exact .ite (.faultChange h) (.ite (.beginStow h) h)
  case h_4 => exact .ite (.faultChange h) (.ite (.completeStow h) h)
  case h_5 => exact .clearStage h
  case h_6 => exact .ite (.ite (.closeStowLid h) h) (.ite (.openAt h) h)
  case h_7 => exact .ite (.faultChange h) (.ite (.beginPick h) h)
  case h_8 => exact .ite (.faultChange h) (.ite h h)
  case h_9 => exact .clearStage h
  case h_10 => exact h

theorem Measured.lidNews (h : Measured m s) : Measured m (s.lidNews a p) := by
  refine .ite ?_ h
  split
  · exact h
  · exact h
  · exact .ite (.faultChange h) (.ite (.changeDoubleFault h) h)
  · exact h

theorem Measured.pocketFault (h : Measured m s) : Measured m (s.pocketFault a) := .ite (.endChange h) (.faultChange h)

theorem Measured.occupancyNews (h : Measured m s) : Measured m (s.occupancyNews a p) := by
  simp only [State.occupancyNews]
  split
  case h_1 | h_2 | h_3 | h_4 | h_5 => exact .ite (.pocketFault h) h
  all_goals exact h

theorem Measured.takeLapse (h : Measured m s) : Measured m (s.takeLapse a) := .ite (.faultChange h) h

theorem Measured.takeLockout (h : Measured m s) : Measured m (s.takeLockout a) :=
  .ite (.endChange h) (.ite (.faultChange h) h)

theorem Measured.stepExpiry (h : Measured m s) : Measured m (s.stepExpiry a) :=
  .ite (.ite (.changeDoubleFault h) (.ite (.faultChange h) h)) h

theorem Measured.takeMessage (h : Measured m s) (w : Message) : Measured m (s.takeMessage w) := by
  cases w with
  | granted a => exact .takeGrant h
  | lapsed a => exact .takeLapse h
  | lockedOut a => exact .takeLockout h
  | grantee q => exact .takeGrantee h
  | lidChanged p => exact .lidNews (.lidNews h)
  | occupancyChanged p => exact .occupancyNews (.occupancyNews h)
  | testStage a => exact .advance h

/-- No message between blocks touches the measuring part. -/
theorem Measured.settle (h : Measured m s) : Measured m s.settle :=
  State.settle_keeps (P := Measured m) (fun _ _ h => h) (fun _ w h => Measured.takeMessage h w) s h

/-! ### The head and the identity reader (R136, R137, R149, R158) -/

theorem Measured.headEvent (h : Measured m s) : Measured m (s.headEvent a) := by
  unfold State.headEvent
  cases (s.head a).modulePresent <;> cases (s.head a).state
  case false.tip => exact .addCause (.moduleLost h)
  all_goals exact h

theorem Measured.moduleChanged (h : Measured m s) : Measured m (s.moduleChanged a) := by
  simp only [State.moduleChanged]
  split
  case h_1 => exact .headEvent h
  case h_2 => exact .ite (.headEvent (.endChange h)) (.ite (.headEvent (.endChange h)) h)
  case h_12 => exact .ite (.resolveAndEnd (.moduleLost h)) h
  case h_3 | h_4 | h_5 | h_6 => exact .ite h (.faultChange h)
  case h_7 | h_8 => exact h
  case h_9 | h_10 | h_11 => exact .ite (.faultChange h) h

theorem Measured.moduleDebounced (h : Measured m s) : Measured m (s.moduleDebounced a) := .ite h (.moduleChanged h)

theorem Measured.identityRead {id : Word} (h : Measured m s) : Measured m (s.identityRead a id) := by
  unfold State.identityRead
  split
  · exact .faultChange h
  · exact .ite (.ite (.sendReport (.identityMatched h)) (.faultChange (.identityMatched h))) (.faultChange h)

theorem Measured.readEnds {id : Option Word} (h : Measured m s) : Measured m (s.readEnds a id) := by
  have h1 : Measured m (s.abandonRead a) := h
  simp only [State.readEnds]
  split
  · split
    · exact .identityRead h1
    · exact .faultChange h1
  · exact .resolveAndEnd (.identityReport h1)
  · exact .identityReport h1

theorem Measured.attemptFails (h : Measured m s) : Measured m (s.attemptFails a n) := .ite h (.readEnds h)

theorem Measured.identityAnswer {id : Word} {correct : Bool} (h : Measured m s) :
    Measured m (s.identityAnswer a id correct) := by
  unfold State.identityAnswer
  split
  · exact h
  · exact .ite (.readEnds h) (.attemptFails h)

theorem Measured.attemptTimeout (h : Measured m s) : Measured m (s.attemptTimeout a) := by
  unfold State.attemptTimeout
  split
  · exact h
  · exact .attemptFails h

end

end Sys2Proof.Machine
end

section
/-! SUPPORT. What one command can do to the measuring part of the state, said once: the cases of `Measures.Step`, and that
every command is one of them. -/

namespace Sys2Proof.Machine

/-! ### The updates of the measuring part -/

def Measures.axis (m : Measures) (a : Arm) (i : Axis) : AxisRecord := (m.arms.get a).axes.get i

def Measures.setAxis (m : Measures) (a : Arm) (i : Axis) (r : AxisRecord) : Measures :=
  { m with arms := m.arms.set a { m.arms.get a with axes := (m.arms.get a).axes.set i r } }

/-- The groups after a sweep end with the contributing sets `l` (R67, R68). -/
def Groups.sweepEnd (r : Groups) (l : TempGroup → List Int) : Groups :=
  r.mapAll fun g x => { state := x.state.sweepEnd (candidate (l g)), contributors := (l g).length }

/-- The groups that become HELD at a sweep end (R68). -/
def Groups.newlyHeld (r : Groups) (l : TempGroup → List Int) : List TempGroup :=
  allGroups.filter fun g => (r.get g).state.isLive && (l g).isEmpty

/-- A sweep end with the contributing sets `l` (R55, R67 to R69, R78). -/
def Measures.sweepEnd (m : Measures) (l : TempGroup → List Int) : Measures :=
  { m with
    groups := m.groups.sweepEnd l
    factors := formFactors m.coefficients (m.groups.sweepEnd l)
    ageing := ((m.ageing.map fun batch => batch.filter fun g => (l g).isEmpty) ++ [m.groups.newlyHeld l]).filter
      fun batch => !batch.isEmpty }

def Groups.older (r : Groups) (batch : List TempGroup) : Groups :=
  r.mapAll fun g x => if batch.contains g then { x with state := x.state.older } else x

def Groups.stale (r : Groups) (f : TempGroup → Bool) : Groups :=
  r.mapAll fun g x => if f g then { x with state := x.state.toStale } else x

/-- The groups for which `f` holds become STALE (R69, R78). -/
def Measures.stale (m : Measures) (f : TempGroup → Bool) : Measures :=
  { m with groups := m.groups.stale f, factors := (allGroups.filter f).foldl Factors.stale m.factors }

/-- The coefficients lie in their range (R73). -/
def Coefficients.InRange (c : Coefficients) : Prop :=
  (∀ (a : Arm) (i : Axis), 0 ≤ (c.scale.get a).get i ∧ (c.scale.get a).get i ≤ 5000) ∧ 0 ≤ c.workpiece ∧ c.workpiece ≤ 5000

/-- What one command can make of the measuring part. -/
inductive Measures.Step (m : Measures) : Measures → Prop where
  | same : Step m m
  /-- Start-up (R210). -/
  | start (s : State) (l : Inputs) : Step m (s.startUp l).measures
  /-- RESTART; the records of an absent arm stay (R38, R40, R81). -/
  | restart (arms : Two ArmAxes)
      (h : ∀ a, arms.get a = m.arms.get a ∨
        arms.get a = { m.arms.get a with axes := (m.arms.get a).axes.map AxisRecord.restart }) :
      Step m { m with arms := arms, factors := Factors.reset, groups := Groups.reset, ageing := [] }
  /-- A channel phase (R26 to R29). -/
  | phase (a : Arm) (i : Axis) (p : Phase) : Step m (m.setAxis a i ((m.axis a i).take p).1)
  /-- A reference mark of a SEEKING axis (R31). -/
  | mark (a : Arm) (i : Axis) (v : Int) (h : (m.axis a i).state = .seeking v) :
      Step m (m.setAxis a i { m.axis a i with count := v, state := .referenced })
  /-- AXIS_HOME (R30). -/
  | home (a : Arm) (i : Axis) (w : Word) : Step m (m.setAxis a i { m.axis a i with state := .seeking (lengthArg w) })
  /-- ARM_SETUP (R33). -/
  | setup (a : Arm) (origin : Axes Word) (direction : Axes Direction) (s0 : Axes Word) :
      Step m { m with arms := m.arms.set a ((m.arms.get a).setup (pointArg origin) direction (pointArg s0)) }
  /-- COMP_SETUP (R73, R78). -/
  | coefficients (c : Coefficients) (h : c.InRange) :
      Step m { m with coefficients := c, factors := formFactors c m.groups }
  /-- A sweep end (R55). -/
  | sweep (l : TempGroup → List Int) : Step m (m.sweepEnd l)
  /-- A full second of the groups next in turn (R69). -/
  | age (batch : List TempGroup) (later : List (List TempGroup)) (h : m.ageing = batch :: later) :
      Step m { m with groups := m.groups.older batch, ageing := later ++ [batch] }
  /-- HELD groups become STALE (R69, R70). -/
  | stale (f : TempGroup → Bool) (h : ∀ g, f g = true → ∃ v n, (m.groups.get g).state = .held v n) : Step m (m.stale f)

/-- The measuring part of the state comes from `m` by what one command can do. -/
def Stepped (m : Measures) (s : State) : Prop := m.Step s.measures

section
variable {m : Measures} {s t : State} {a : Arm} {g : Strg}

theorem Measured.stepped (h : Measured m s) : Stepped m s := by
  unfold Stepped
  rw [h]
  exact .same

/-- What leaves the measuring part alone may follow. -/
theorem Stepped.trans_measured (h : Stepped m s) (ht : Measured s.measures t) : Stepped m t := by
  unfold Stepped
  rw [ht]
  exact h

theorem Stepped.ite {c : Prop} [Decidable c] (hs : Stepped m s) (ht : Stepped m t) :
    Stepped m (if c then s else t) := by
  split
  · exact hs
  · exact ht

theorem Stepped.settle (h : Stepped m s) : Stepped m s.settle := h.trans_measured (.settle rfl)

/-! ### The axis unit (spec 02) -/

theorem Stepped.takePhase {i : Axis} {p : Phase} (h : Measured m s) : Stepped m (s.takePhase a i p) := by
  have hs : Stepped m (s.setAxis a i ((s.axis a i).take p).1) := by
    cases h
    exact .phase a i p
  simp only [State.takePhase]
  split
  · exact hs
  · exact .ite hs hs
  · exact hs.trans_measured (.axisFault rfl)

theorem Stepped.takeMark {i : Axis} (h : Measured m s) : Stepped m (s.takeMark a i) := by
  simp only [State.takeMark]
  split
  · rename_i v hv
    have hs : Stepped m (s.setAxis a i { s.axis a i with count := v, state := .referenced }) := by
      cases h
      exact .mark a i v hv
    exact hs.trans_measured (.guardChange (.raise rfl))
  · exact h.stepped

theorem Stepped.home {i : Axis} {w : Word} (h : Measured m s) : Stepped m (s.home a i (lengthArg w)) := by
  have hs : Stepped m (s.setAxis a i { s.axis a i with state := .seeking (lengthArg w) }) := by
    cases h
    exact .home a i w
  exact hs.trans_measured (.guardChange rfl)

theorem Stepped.setupArm {o z : Axes Word} {d : Axes Direction} (h : Measured m s) :
    Stepped m (s.setupArm a (pointArg o) d (pointArg z)) := by
  have hs : Stepped m (s.setArm a ((s.arms.get a).setup (pointArg o) d (pointArg z))) := by
    cases h
    exact .setup a o d z
  exact .ite hs hs

/-! ### Groups and factors (spec 04) -/

@[simp] theorem State.takeFactors_measures (f : Factors) :
    (s.takeFactors f).measures = { s.measures with factors := f } := by
  simp only [State.takeFactors]
  split <;> split <;> rfl

@[simp] theorem State.recompute_measures :
    s.recompute.measures = { s.measures with factors := formFactors s.comp.coefficients s.scanner.groups } :=
  State.takeFactors_measures _

/-- A sweep end with the contributing sets of the sensors as they stand. -/
theorem State.sweepEnd_measures : s.sweepEnd.measures = s.measures.sweepEnd s.contributions := by
  have h : Measured s.formGroups.recompute.measures s.sweepEnd := .scanTransition (.driftAge rfl)
  exact h.trans State.recompute_measures

theorem Stepped.makeStale {f : TempGroup → Bool} (h : Measured m s)
    (hf : ∀ g, f g = true → ∃ v n, (s.scanner.groups.get g).state = .held v n) : Stepped m (s.makeStale f) := by
  refine .ite h.stepped ?_
  unfold Stepped
  rw [State.takeFactors_measures]
  have hr : Measured (s.setGroups (s.scanner.groups.stale f)).measures
    ((s.setGroups (s.scanner.groups.stale f)).raise .group) := .raise rfl
  cases h
  exact congrArg (fun q : Measures => { q with factors := (allGroups.filter f).foldl Factors.stale s.comp.factors }) hr ▸
    .stale f hf

/-- A group that is due is HELD (R69). -/
theorem State.held_of_groupDue {k : TempGroup} (h : s.groupDue k = true) :
    ∃ v n, (s.scanner.groups.get k).state = .held v n := by
  unfold State.groupDue GroupState.due at h
  split at h
  · exact ⟨_, _, ‹_›⟩
  · cases h

theorem Stepped.staleGroup {k : TempGroup} (h : Measured m s) : Stepped m (s.staleGroup k) := by
  unfold State.staleGroup
  split
  · rename_i hd
    refine .makeStale h fun k' hk => ?_
    rw [eq_of_beq hk]
    exact s.held_of_groupDue hd
  · exact h.stepped

theorem Stepped.ageGroups (h : Measured m s) : Stepped m s.ageGroups := by
  unfold State.ageGroups
  split
  · exact h.stepped
  · rename_i batch later hb
    cases h
    exact .age batch later hb

/-! ### The scan (spec 03) -/

theorem Stepped.endIfSwept (h : Measured m s) : Stepped m s.endIfSwept := by
  refine .ite ?_ h.stepped
  unfold Stepped
  rw [State.sweepEnd_measures, h]
  exact .sweep _

theorem Stepped.goOn (h : Measured m s) : Stepped m (s.goOn g) := .endIfSwept (.kick h)

theorem Stepped.beginSweep {timer : Timer} (h : Measured m s) : Stepped m (s.beginSweep timer) :=
  .endIfSwept (.kick (.kick (.startPass (.startPass h))))

theorem Stepped.transactionEnds {e : LineEnd} (h : Measured m s) : Stepped m (s.transactionEnds g e) := by
  unfold State.transactionEnds
  split
  · exact h.stepped
  · refine .goOn ?_
    split
    · exact .sweepReading h
    · exact .checkReading h

theorem Stepped.scanExpiry (h : Measured m s) : Stepped m s.scanExpiry :=
  .ite (.ite (.beginSweep h) (.ite h.stepped h.stepped)) h.stepped

theorem Stepped.thaw (h : Measured m s) : Stepped m s.thaw := .endIfSwept (.kick (.kick h))

theorem Stepped.limitEnds (h : Measured m s) : Stepped m (s.limitEnds g) := .goOn h

theorem Stepped.scanCommand {w : ScanMode} (h : Measured m s) : Stepped m (s.scanCommand w) := by
  simp only [State.scanCommand]
  split
  case h_1 | h_2 | h_8 => exact .beginSweep h
  all_goals exact h.stepped

/-! ### RESTART (R40, R81) -/

theorem Stepped.restartBlocks (h : Measured m s) : Stepped m s.restartBlocks := by
  cases h
  refine .restart ⟨s.restartArm .zero, s.restartArm .one⟩ fun a => ?_
  have harm : s.restartArm a = s.arms.get a ∨
      s.restartArm a = { s.arms.get a with axes := (s.arms.get a).axes.map AxisRecord.restart } := by
    simp only [State.restartArm]
    split
    · exact .inl rfl
    · exact .inr rfl
  cases a <;> exact harm

/-! ### The requests -/

theorem Stepped.compSetup {al : Two (Axes Word)} {aw : Word} {w0 : Axes Word} (h : Measured m s) :
    Stepped m (compSetupReq al aw w0 s).state := by
  have hr (w : Word) : 0 ≤ coefficientArg w ∧ coefficientArg w ≤ 5000 := by
    unfold coefficientArg clamp Config.coefficientMax
    split
    · omega
    · split <;> omega
  cases h
  simp only [compSetupReq]
  unfold Stepped
  rw [State.recompute_measures]
  refine .coefficients _ ⟨fun a i => ?_, hr aw⟩
  simpa [State.measures] using hr ((al.get a).get i)

theorem Stepped.axisHome {arm axis : Byte} {w : Word} (h : Measured m s) :
    Stepped m (axisHomeReq arm axis w s).state := by
  unfold axisHomeReq
  split
  · split
    · exact h.stepped
    · exact .home h
  · exact h.stepped

theorem Stepped.armSetup {arm : Byte} {o : Axes Word} {d : Axes Byte} {z : Axes Word} (h : Measured m s) :
    Stepped m (armSetupReq arm o d z s).state := by
  unfold armSetupReq
  split
  · split
    · exact h.stepped
    · exact .setupArm h
  · exact h.stepped

theorem Stepped.scanControl {mode given : Byte} {period : Word} (h : Measured m s) :
    Stepped m (scanControlReq mode given period s).state := by
  unfold scanControlReq
  split
  · exact .scanCommand h
  · exact h.stepped

theorem Stepped.lineCheck {string passes : Byte} (h : Measured m s) :
    Stepped m (lineCheckReq string passes s).state := by
  unfold lineCheckReq
  split
  · exact h.stepped
  · split
    · exact h.stepped
    · exact .goOn h

theorem Stepped.settingWrite {number : Byte} {value : Word} (h : Measured m s) :
    Stepped m (settingWriteReq number value s).state := by
  unfold settingWriteReq
  split
  · exact h.stepped
  · rename_i k _
    split
    · exact h.stepped
    · cases k with
      | holdLimit => exact .makeStale h fun g hg => State.held_of_groupDue hg
      | windowLength g => exact Measured.stepped (.setWindow h)
      | faultCount g => exact Measured.stepped (.setWindow h)
      | _ => exact h.stepped

/-! #### Requests that leave the measuring part alone -/

theorem Measured.tipWrite {tip : Byte} {id : Word} {cls home : Byte} (h : Measured m s) :
    Measured m (tipWriteReq tip id cls home s).state := by
  unfold tipWriteReq
  split
  · unfold tipWriteBody
    split
    · exact h
    · split
      · exact h
      · split
        · exact h
        · split
          · exact h
          · rw [State.tipWriteReply_state]
            exact .placeTip (.registrationClaim h)
    · split
      · exact h
      · split
        · exact h
        · split
          · exact h
          · split
            · exact h
            · rw [State.tipWriteReply_state]
              exact .rewriteTip h
  · exact h

theorem Measured.tipQualify {tip arm : Byte} {dx dy dz r : Word} {source : Byte} {temp : Word} (h : Measured m s) :
    Measured m (tipQualifyReq tip arm dx dy dz r source temp s).state := by
  unfold tipQualifyReq
  split
  · split
    · exact h
    · unfold tipQualifyBody
      split
      · exact h
      · split
        · exact h
        · dsimp only
          split
          · exact h
          · split <;> exact h
  · exact h

theorem Measured.tipUnqualify {tip arm : Byte} (h : Measured m s) : Measured m (tipUnqualifyReq tip arm s).state := by
  unfold tipUnqualifyReq
  split
  · split
    · exact h
    · unfold tipUnqualifyBody
      split
      · exact h
      · split
        · exact h
        · split <;> exact h
  · exact h

theorem Measured.tipRetire {tip : Byte} (h : Measured m s) : Measured m (tipRetireReq tip s).state := by
  unfold tipRetireReq
  split
  · unfold tipRetireBody
    split
    · exact h
    · split <;> exact h
  · exact h

theorem Measured.tipPurge {tip : Byte} (h : Measured m s) : Measured m (tipPurgeReq tip s).state := by
  unfold tipPurgeReq
  split
  · unfold tipPurgeBody
    split <;> exact h
  · exact h

theorem Measured.countersRead {clear : Byte} (h : Measured m s) : Measured m (countersReadReq clear s).state := by
  unfold countersReadReq
  split
  · exact h
  · exact .ite h h

theorem Measured.sensorWrite {string address binding : Byte} {trim : Word} {shift : Byte} (h : Measured m s) :
    Measured m (sensorWriteReq string address binding trim shift s).state := by
  unfold sensorWriteReq
  split
  · unfold sensorWriteBody
    split
    · exact h
    · split
      · exact h
      · exact .writeSensor h
  · exact h

theorem Measured.sensorRetire {string address : Byte} (h : Measured m s) :
    Measured m (sensorRetireReq string address s).state := by
  unfold sensorRetireReq
  split
  · split
    · exact h
    · exact .makeTransactionStale h
  · exact h

theorem Measured.sensorRead {string address clear : Byte} (h : Measured m s) :
    Measured m (sensorReadReq string address clear s).state := by
  unfold sensorReadReq
  split
  · exact .ite h h
  · exact h

theorem Measured.probeArm {arm value : Byte} (h : Measured m s) : Measured m (probeArmReq arm value s).state := by
  unfold probeArmReq
  split
  · split
    · exact h
    · unfold probeArmBody
      split
      · exact h
      · split <;> exact h
  · exact h

theorem Measured.touchTake {arm : Byte} (h : Measured m s) : Measured m (touchTakeReq arm s).state := by
  unfold touchTakeReq
  split
  · exact h
  · split
    · exact h
    · unfold touchTakeBody
      split <;> exact h

theorem Measured.pocketWrite {pocket state g0 : Byte} {box0 : Axes Bounds} {g1 : Byte} {box1 : Axes Bounds}
    (h : Measured m s) : Measured m (pocketWriteReq pocket state g0 box0 g1 box1 s).state := by
  unfold pocketWriteReq
  split
  · split
    · unfold pocketWriteBody
      split
      · exact h
      · split
        · exact h
        · split
          · exact h
          · exact .writePocket h
    · exact h
  · exact h

theorem Measured.pocketClearForeign {pocket : Byte} (h : Measured m s) :
    Measured m (pocketClearForeignReq pocket s).state := by
  unfold pocketClearForeignReq
  split
  · exact h
  · split <;> exact h

theorem Measured.rackUnlock (h : Measured m s) : Measured m (rackUnlockReq s).state := by
  unfold rackUnlockReq
  split <;> exact h

theorem Measured.change {arm target allow : Byte} (h : Measured m s) :
    Measured m (changeReq arm target allow s).state := by
  unfold changeReq
  split
  · split
    · exact h
    · split
      · unfold stageChange
        split <;> exact h
      · unfold startChange
        split
        · exact h
        · exact .completeAtOnce h
        · exact .acceptChange h
  · exact h

theorem Measured.changeAbort {arm : Byte} (h : Measured m s) : Measured m (changeAbortReq arm s).state := by
  unfold changeAbortReq
  split
  · exact h
  · split
    · exact h
    · unfold changeAbortBody
      split
      · exact h
      · exact .endChange h
      · exact h
      · exact .faultChange h

theorem Measured.zoneWrite {zone kind arm : Byte} {box : Axes Bounds} {margin : Word} (h : Measured m s) :
    Measured m (zoneWriteReq zone kind arm box margin s).state := by
  unfold zoneWriteReq
  split
  · split
    · exact h
    · split
      · exact h
      · exact .judgeZone h
  · exact h

theorem Measured.zoneSuspend {zone : Byte} (h : Measured m s) : Measured m (zoneSuspendReq zone s).state := by
  unfold zoneSuspendReq
  split
  · unfold zoneSuspendBody
    split
    · exact h
    · split
      · exact h
      · split <;> exact h
  · exact h

theorem Measured.zoneResume {zone : Byte} (h : Measured m s) : Measured m (zoneResumeReq zone s).state := by
  unfold zoneResumeReq
  split
  · unfold zoneResumeBody
    split
    · exact h
    · split
      · exact .judgeZone h
      · exact h
  · exact h

theorem Measured.zoneDelete {zone : Byte} (h : Measured m s) : Measured m (zoneDeleteReq zone s).state := by
  unfold zoneDeleteReq
  split
  · unfold zoneDeleteBody
    split
    · exact h
    · split <;> exact h
  · exact h

theorem Measured.holdRelease {arm : Byte} (h : Measured m s) : Measured m (holdReleaseReq arm s).state := by
  unfold holdReleaseReq
  split
  · exact h
  · split
    · exact h
    · unfold holdReleaseBody
      split
      · exact h
      · rw [accept_state]
        exact .releaseHold h

theorem Measured.attnFlags {named : List Byte} (h : Measured m s) : Measured m (attnFlagsReq named s).state := by
  unfold attnFlagsReq
  split
  · exact h
  · exact .setAttention h

theorem Measured.attnConfig {entries : List AttnEntry} (h : Measured m s) :
    Measured m (attnConfigReq entries s).state := by
  unfold attnConfigReq
  split
  · exact h
  · split
    · exact .setAttention h
    · exact h

theorem Measured.attnTake (h : Measured m s) : Measured m (attnTakeReq s).state := by
  unfold attnTakeReq
  split <;> exact h

theorem Measured.attnRelease (h : Measured m s) : Measured m (attnReleaseReq s).state := by
  unfold attnReleaseReq
  split <;> exact h

/-! #### Every request -/

theorem Stepped.requestBody {c : Instr} {body : State → Reply} (hb : requestBody c = some body) (h : Measured m s) :
    Stepped m (body s).state := by
  cases c <;> cases hb
  case restart => exact .restartBlocks h
  case settingWrite => exact .settingWrite h
  case axisHome => exact .axisHome h
  case armSetup => exact .armSetup h
  case scanControl => exact .scanControl h
  case lineCheck => exact .lineCheck h
  case compSetup => exact .compSetup h
  all_goals apply Measured.stepped
  case tipWrite => exact .tipWrite h
  case tipQualify => exact .tipQualify h
  case tipUnqualify => exact .tipUnqualify h
  case tipRetire => exact .tipRetire h
  case tipPurge => exact .tipPurge h
  case countersRead => exact .countersRead h
  case sensorWrite => exact .sensorWrite h
  case sensorRetire => exact .sensorRetire h
  case sensorRead => exact .sensorRead h
  case probeArm => exact .probeArm h
  case touchTake => exact .touchTake h
  case pocketWrite => exact .pocketWrite h
  case pocketClearForeign => exact .pocketClearForeign h
  case rackUnlock => exact .rackUnlock h
  case change => exact .change h
  case changeAbort => exact .changeAbort h
  case zoneWrite => exact .zoneWrite h
  case zoneSuspend => exact .zoneSuspend h
  case zoneResume => exact .zoneResume h
  case zoneDelete => exact .zoneDelete h
  case holdRelease => exact .holdRelease h
  case attnFlags => exact .attnFlags h
  case attnConfig => exact .attnConfig h
  case attnTake => exact .attnTake h
  case attnRelease => exact .attnRelease h
  case identify | scanRead | groupRead | compRead | rackRead => exact h
  all_goals simpa using h

theorem Stepped.request {c : Instr} {body : State → Reply} (hb : Machine.requestBody c = some body) (h : Measured m s) :
    Stepped m (s.request c body) := by
  rcases s.request_cases c body with ⟨-, e⟩ | ⟨-, -, e⟩ | ⟨-, -, -, e⟩ | ⟨-, e⟩ <;> rw [e]
  · exact h.stepped
  · exact h.stepped
  · exact h.stepped
  · exact .requestBody hb h

theorem Stepped.takeExecuting {code : Byte} {payload : List Byte} (h : Measured m s) :
    Stepped m (s.takeExecuting code payload) := by
  rcases s.takeExecuting_cases code payload with e | ⟨c, body, -, hb, l, e⟩ <;> rw [e]
  · exact h.stepped
  · exact .settle (.requestBody hb h)

theorem Stepped.lateFrame {bytes : List Byte} (h : Measured m s) : Stepped m (s.lateFrame bytes) := by
  unfold State.lateFrame
  split
  · rename_i code _ _ _
    have hj : Measured m (s.judgeLate code bytes) := by
      obtain ⟨l, e⟩ := s.judgeLate_frame code bytes
      rw [e]
      exact h
    obtain ⟨t, ht, hp⟩ := (s.judgeLate code bytes).progress_cases
    have hts : Stepped m t := by
      rcases ht with rfl | ⟨_, _, -, rfl⟩
      · exact hj.stepped
      · exact .takeExecuting hj
    rcases hp with e | e <;> rw [e]
    · exact hts
    · obtain ⟨l, e⟩ := t.placeAnswer_frame
      rw [e]
      exact hts
  · exact h.stepped

/-! ### Every command -/

theorem Stepped.event {f : State → State} (h : Measured m s) (hf : Stepped m (f s)) : Stepped m (s.event f) :=
  .ite hf h.stepped

theorem Stepped.armEvent {f : State → State} (h : Measured m s) (hf : Stepped m (f s)) : Stepped m (s.armEvent a f) :=
  .ite hf h.stepped

theorem Measured.event {f : State → State} (h : Measured m s) (hf : Measured m (f s)) : Stepped m (s.event f) :=
  .event h hf.stepped

theorem Measured.armEvent {f : State → State} (h : Measured m s) (hf : Measured m (f s)) : Stepped m (s.armEvent a f) :=
  .armEvent h hf.stepped

theorem Measured.judged {bytes : List Byte} {v : FrameVerdict} {f : State → State} (h : Measured m s)
    (hf : Measured m (f s)) : Measured m (s.judged bytes v f) := .ite (.ite h hf) h

theorem Measured.longList {c : Instr} (h : Measured m s) : Measured m (s.longList c) := .ite (.judged h h) h

theorem Measured.collect {n : Nat} (h : Measured m s) : Measured m (s.collect n) := by
  obtain ⟨l, e⟩ := s.collect_frame n
  rw [e]
  exact h

theorem Measured.tick (h : Measured m s) : Measured m s.tick := by
  refine .ite ?_ h
  change Measured m s.tickTimers
  exact .ite h h

theorem exec_stepped (c : Instr) {s t : State} (h : Measured m s) (e : exec c s = .next t) : Stepped m t := by
  cases c <;> cases e
  case startUp l => exact .start s l
  case powerOn => exact h.stepped
  case badFrame => exact Measured.event h (.judged h h)
  case unknownRequestCode => exact Measured.event h (.judged h h)
  case discardedRequest => exact .event h (.lateFrame h)
  case collect => exact Measured.event h (.collect h)
  case restart => exact .event h (.ite h.stepped (.ite h.stepped (.restartBlocks h)))
  case attnFlags => exact .ite (.request rfl h) (Measured.longList h).stepped
  case attnConfig => exact .ite (.request rfl h) (Measured.longList h).stepped
  case pocketWrite | change | changeAbort | zoneWrite | zoneResume | holdRelease =>
    exact .event h (.settle (.request rfl h))
  case quadraturePhase => exact .armEvent h (.takePhase h)
  case referenceMark => exact .armEvent h (.takeMark h)
  case transactionEnd => exact .event h (.transactionEnds h)
  case replyTimeout => exact .event h (.transactionEnds h)
  case scanTimerExpiry => exact .event h (.scanExpiry h)
  case frzInactive => exact .event h (.thaw h)
  case holdAgeTick => exact .event h (.ageGroups h)
  case groupStale => exact .event h (.staleGroup h)
  case restartTransactionLimitEnd => exact .event h (.limitEnds h)
  case checkPointFormation => exact Measured.armEvent h (.settle (.form h))
  case frzActive => exact Measured.event h h
  case triggerLeadingEdge => exact Measured.armEvent h (.triggerEdge h)
  case triggerRelease => exact Measured.armEvent h (.triggerRelease h)
  case qualificationTimeEnd => exact Measured.armEvent h (.acceptTouch h)
  case touchComputation => exact Measured.armEvent h (.computeTouch h)
  case pointRecordReturn => exact Measured.armEvent h (.placePoint h)
  case holdCauseAddition => exact Measured.armEvent h (.addCause h)
  case raiseReport => exact Measured.event h (.raise h)
  case pocketInputEdge p input level => exact Measured.event h (by cases input <;> exact h)
  case observedOccupancyChange => exact Measured.event h (.settle (.occupancyChange h))
  case lidSenseChange => exact Measured.event h (.settle (.senseChange h))
  case lidTimerExpiry => exact Measured.event h (.settle (.lidExpiry h))
  case openCommand => exact Measured.armEvent h (.settle (.openLid h))
  case closeCommand => exact Measured.armEvent h (.settle (.closeLid h))
  case changePocketReport => exact Measured.armEvent h (.settle (.takeReport h))
  case rackRequest => exact Measured.armEvent h (.settle (.rackRequest h))
  case entryReport => exact Measured.armEvent h (.rackEntry h)
  case exitReport => exact Measured.armEvent h (.settle (.rackExit h))
  case changeEndedReport => exact Measured.armEvent h (.settle (.rackChangeEnded h))
  case grantTimerExpiry => exact Measured.event h (.settle (.grantExpiry h))
  case doubleFaultReport => exact Measured.armEvent h (.settle (.doubleFault h))
  case granteeNotice => exact Measured.event h (.settle (.noticeGrantee h))
  case grantedMessage => exact Measured.armEvent h (.settle (.takeGrant h))
  case lapsedMessage => exact Measured.armEvent h (.settle (.takeLapse h))
  case lockedOutMessage => exact Measured.armEvent h (.settle (.takeLockout h))
  case stepTimerExpiry => exact Measured.armEvent h (.settle (.stepExpiry h))
  case modulePresentEdge => exact Measured.armEvent h h
  case modulePresentChange => exact Measured.armEvent h (.settle (.moduleDebounced h))
  case identityReply => exact Measured.armEvent h (.settle (.identityAnswer h))
  case identityAttemptTimeout => exact Measured.armEvent h (.settle (.attemptTimeout h))
  case registrationClaim => exact Measured.event h (.registrationClaim h)
  case stowReleaseBegins => exact Measured.armEvent h (.stowReleaseBegins h)
  case stowTransferComplete => exact Measured.armEvent h (.stowTransferComplete h)
  case pickBegins => exact Measured.armEvent h (.pickBegins h)
  case identityMatched => exact Measured.armEvent h (.identityMatched h)
  case transitResolved => exact Measured.armEvent h (.transitResolved h)
  case identityReport => exact Measured.armEvent h (.identityReport h)
  case moduleLost => exact Measured.armEvent h (.moduleLost h)
  case homePocketSeenEmpty => exact Measured.event h (.ite h (.seenEmpty h))
  case homePocketSeenOccupied => exact Measured.event h (.ite h (.seenOccupied h))
  case restartComparison => exact Measured.event h (.settle (.restartCompareAt h))
  all_goals exact .request rfl h

end

/-- One step of the part makes of the measuring part one of the cases of `Measures.Step`. -/
theorem step_measures {s t : State} (e : step s = .next t) : s.measures.Step t.measures := by
  unfold step at e
  split at e
  · cases e
    exact (Measured.tick rfl).stepped
  · rename_i rest _
    have h : Measured s.measures { s with pending := rest } := rfl
    exact exec_stepped _ h e

end Sys2Proof.Machine
end

section
/-! PROOF. Counts are lengths, the factors in force are those of the coefficients and the groups, and the HELD and STALE
groups are those that age: every step keeps it (O34). -/

namespace Sys2Proof.Machine

/-! ### The laws as properties of the measuring part -/

def Measures.CountLaw (m : Measures) : Prop :=
  ∀ (a : Arm) (i : Axis), AxisLaw (m.axis a i) ∧ IsLength ((m.arms.get a).origin.get i)

def Measures.FactorLaw (m : Measures) : Prop := m.coefficients.InRange ∧ m.factors = formFactors m.coefficients m.groups

/-- The groups that age (R69): those HELD or STALE. -/
def GroupState.Ages (st : GroupState) : Prop := ∃ v n, st = .held v n ∨ st = .stale v n

def Measures.AgeLaw (m : Measures) : Prop :=
  (∀ g : TempGroup, g ∈ m.ageing.flatten ↔ (m.groups.get g).state.Ages) ∧ m.ageing.flatten.Nodup ∧ [] ∉ m.ageing

theorem countLaw_iff (s : State) : CountLaw s ↔ s.measures.CountLaw := Iff.rfl

theorem factorLaw_iff (s : State) : FactorLaw s ↔ s.measures.FactorLaw := by
  simp only [Machine.FactorLaw, Measures.FactorLaw, Coefficients.InRange, State.measures, and_assoc]

theorem ageLaw_iff (s : State) : AgeLaw s ↔ s.measures.AgeLaw := Iff.rfl

/-! ### Lengths (spec 00, section 5) -/

theorem isLength_zero : IsLength 0 := by unfold IsLength Config.lengthMax; omega

theorem saturate_isLength (v : Int) : IsLength (saturate v) := by
  unfold IsLength saturate clamp Config.lengthMax
  split
  · omega
  · split <;> omega

/-- A count that is not saturated is a length (R28). -/
theorem isLength_of_not_saturates {v : Int} (h : saturates v = false) : IsLength v := by
  simp only [saturates, outside, Bool.or_eq_false_iff, decide_eq_false_iff_not] at h
  unfold IsLength
  omega

theorem pointArg_isLength (w : Axes Word) (i : Axis) : IsLength ((pointArg w).get i) := by
  rw [pointArg, Axes.get_map]
  exact saturate_isLength _

/-! ### The axis records (R25 to R33, R40) -/

theorem AxisLaw.count1 {r : AxisRecord} (h : AxisLaw r) (d : Int) : AxisLaw (r.count1 d).1 := by
  obtain ⟨-, hs0, hseek⟩ := h
  simp only [AxisRecord.count1]
  split
  · exact ⟨saturate_isLength _, hs0, fun v hv => AxisState.noConfusion hv⟩
  · rename_i hn
    exact ⟨isLength_of_not_saturates (by simpa using hn), hs0, hseek⟩

theorem AxisLaw.take {r : AxisRecord} (h : AxisLaw r) (p : Phase) : AxisLaw (r.take p).1 := by
  have hheld : AxisLaw { r with phase := some p } := h
  simp only [AxisRecord.take]
  split
  · exact hheld
  · split
    · exact hheld
    · split
      · exact hheld
      · exact hheld.count1 _
      · exact hheld.count1 _
      · exact ⟨h.1, h.2.1, fun v hv => AxisState.noConfusion hv⟩

theorem AxisLaw.restart {r : AxisRecord} (h : AxisLaw r) : AxisLaw r.restart :=
  ⟨isLength_zero, h.2.1, fun _ hv => AxisState.noConfusion hv⟩

theorem AxisLaw.setup {r : AxisRecord} (h : AxisLaw r) (d : Direction) {z : Int} (hz : IsLength z) :
    AxisLaw (r.setup d z) := ⟨h.1, hz, h.2.2⟩

theorem ArmAxes.setup_axis (r : ArmAxes) (o : Point) (d : Axes Direction) (z : Point) (i : Axis) :
    (r.setup o d z).axes.get i = (r.axes.get i).setup (d.get i) (z.get i) := by
  cases i <;> rfl

/-- One arm's part of the law. -/
def ArmAxes.Lengths (r : ArmAxes) : Prop := ∀ i : Axis, AxisLaw (r.axes.get i) ∧ IsLength (r.origin.get i)

section
variable {m m' : Measures}

theorem Measures.CountLaw.setArm (h : m.CountLaw) (a : Arm) {r : ArmAxes} (hr : r.Lengths) :
    Measures.CountLaw { m with arms := m.arms.set a r } := by
  intro b
  simp only [Measures.axis, Two.get_set]
  split
  · exact hr
  · exact h b

theorem Measures.CountLaw.setAxis (h : m.CountLaw) (a : Arm) (i : Axis) {r : AxisRecord} (hr : AxisLaw r) :
    (m.setAxis a i r).CountLaw := by
  refine h.setArm a fun j => ⟨?_, (h a j).2⟩
  simp only [Axes.get_set]
  split
  · exact hr
  · exact (h a j).1

/-- What a command can do to the measuring part keeps the lengths. -/
theorem Measures.CountLaw.step (h : m.CountLaw) (hstep : m.Step m') : m'.CountLaw := by
  cases hstep with
  | same => exact h
  | start s l => exact s.startUp_countLaw l
  | restart arms harm =>
    intro a i
    simp only [Measures.axis]
    rcases harm a with e | e <;> rw [e]
    · exact h a i
    · refine ⟨?_, (h a i).2⟩
      rw [Axes.get_map]
      exact (h a i).1.restart
  | phase a i p => exact h.setAxis a i ((h a i).1.take p)
  | mark a i v hv =>
    obtain ⟨-, hs0, hseek⟩ := (h a i).1
    exact h.setAxis a i ⟨hseek v hv, hs0, fun _ e => AxisState.noConfusion e⟩
  | home a i w =>
    obtain ⟨hcount, hs0, -⟩ := (h a i).1
    refine h.setAxis a i ⟨hcount, hs0, fun v e => ?_⟩
    cases e
    exact saturate_isLength _
  | setup a o d z =>
    refine h.setArm a fun i => ⟨?_, pointArg_isLength o i⟩
    rw [ArmAxes.setup_axis]
    exact (h a i).1.setup _ (pointArg_isLength z i)
  | coefficients c hc => exact h
  | sweep l => exact h
  | age batch later hb => exact h
  | stale f hf => exact h

/-! ### Groups changed together -/

@[simp] theorem Groups.get_mapAll (r : Groups) (f : TempGroup → GroupRecord → GroupRecord) (g : TempGroup) :
    (r.mapAll f).get g = f g (r.get g) := by
  cases g with
  | scale a i => cases a <;> cases i <;> rfl
  | head a => cases a <;> rfl
  | workpiece => rfl

theorem mem_allGroups (g : TempGroup) : g ∈ allGroups := by
  cases g with
  | scale a i => cases a <;> cases i <;> decide
  | head a => cases a <;> decide
  | workpiece => decide

theorem allGroups_nodup : allGroups.Nodup := by decide

/-! ### Factors (R75 to R78) -/

/-- The factor of a group; a head group has none (R78). -/
def Factors.at (f : Factors) : TempGroup → Option Factor
  | .scale a i => some ((f.scale.get a).get i)
  | .head _ => none
  | .workpiece => some f.workpiece

def Coefficients.at (c : Coefficients) : TempGroup → Int
  | .scale a i => (c.scale.get a).get i
  | .head _ => 0
  | .workpiece => c.workpiece

theorem Factors.ext_at {f f' : Factors} (h : ∀ g, f.at g = f'.at g) : f = f' := by
  have hscale : f.scale = f'.scale :=
    Two.ext_get fun a => Axes.ext_get fun i => Option.some.inj (h (.scale a i))
  have hwork : f.workpiece = f'.workpiece := Option.some.inj (h .workpiece)
  exact (Factors.mk.injEq ..).mpr ⟨hscale, hwork⟩

/-- The seven factors, each from its coefficient and its group (R78). -/
theorem formFactors_at (c : Coefficients) (r : Groups) (g : TempGroup) (hg : ∀ a, g ≠ .head a) :
    (formFactors c r).at g = some (formFactor (c.at g) (r.get g).state) := by
  cases g with
  | scale a i => cases a <;> cases i <;> rfl
  | head a => exact absurd rfl (hg a)
  | workpiece => rfl

/-- The factors depend on each group's value and kind of state alone. -/
theorem formFactors_congr (c : Coefficients) {r r' : Groups}
    (h : ∀ g, formFactor (c.at g) (r'.get g).state = formFactor (c.at g) (r.get g).state) :
    formFactors c r' = formFactors c r := by
  refine Factors.ext_at fun g => ?_
  by_cases hg : ∃ a, g = .head a
  · obtain ⟨a, rfl⟩ := hg
    rfl
  · rw [not_exists] at hg
    rw [formFactors_at _ _ _ hg, formFactors_at _ _ _ hg, h]

/-- A factor carries no age (R76). -/
theorem formFactor_older (alpha : Int) (st : GroupState) : formFactor alpha st.older = formFactor alpha st := by
  cases st <;> rfl

/-- A HELD group that becomes STALE has its factor's mark replaced (R78). -/
theorem formFactor_toStale (alpha v : Int) (n : Nat) :
    formFactor alpha (GroupState.held v n).toStale = (formFactor alpha (.held v n)).toStale := rfl

theorem Factors.stale_at (f : Factors) (g k : TempGroup) :
    (f.stale g).at k = if g = k then (f.at k).map Factor.toStale else f.at k := by
  cases g with
  | scale a i =>
    cases k with
    | scale b j =>
      by_cases ha : a = b <;> by_cases hi : i = j <;>
        simp [Factors.stale, Factors.at, Two.get_set, Axes.get_set, ha, hi]
    | head b => rfl
    | workpiece => rfl
  | head a => cases k <;> simp [Factors.stale, Factors.at]
  | workpiece => cases k <;> simp [Factors.stale, Factors.at]

/-- Each group of a list without repetition gives its factor the STALE mark once. -/
theorem Factors.foldl_stale_at (l : List TempGroup) (hl : l.Nodup) (f : Factors) (k : TempGroup) :
    (l.foldl Factors.stale f).at k = if k ∈ l then (f.at k).map Factor.toStale else f.at k := by
  induction l generalizing f with
  | nil => rfl
  | cons g l ih =>
    obtain ⟨hg, hl⟩ := List.nodup_cons.mp hl
    rw [List.foldl_cons, ih hl, Factors.stale_at]
    by_cases hk : g = k
    · subst hk
      simp [hg]
    · simp [hk, Ne.symm hk]

theorem Measures.FactorLaw.stale (h : m.FactorLaw) {f : TempGroup → Bool}
    (hf : ∀ g, f g = true → ∃ v n, (m.groups.get g).state = .held v n) : (m.stale f).FactorLaw := by
  obtain ⟨hc, hform⟩ := h
  refine ⟨hc, Factors.ext_at fun g => ?_⟩
  simp only [Measures.stale, hform]
  rw [Factors.foldl_stale_at _ (allGroups_nodup.filter f)]
  by_cases hg : ∃ a, g = .head a
  · obtain ⟨a, rfl⟩ := hg
    simp [Factors.at]
  · rw [not_exists] at hg
    rw [formFactors_at _ _ _ hg, formFactors_at _ _ _ hg, Groups.stale, Groups.get_mapAll]
    by_cases hd : f g = true
    · obtain ⟨v, n, hv⟩ := hf g hd
      simp [List.mem_filter, mem_allGroups, hd, hv, formFactor_toStale]
    · simp [List.mem_filter, hd]

theorem Measures.FactorLaw.step (h : m.FactorLaw) (hstep : m.Step m') : m'.FactorLaw := by
  obtain ⟨hc, hform⟩ := h
  cases hstep with
  | same => exact ⟨hc, hform⟩
  | start s l => exact (factorLaw_iff _).mp (s.startUp_factorLaw l)
  | restart arms harm => exact ⟨hc, rfl⟩
  | phase a i p => exact ⟨hc, hform⟩
  | mark a i v hv => exact ⟨hc, hform⟩
  | home a i w => exact ⟨hc, hform⟩
  | setup a o d z => exact ⟨hc, hform⟩
  | coefficients c hin => exact ⟨hin, rfl⟩
  | sweep l => exact ⟨hc, rfl⟩
  | age batch later hb =>
    refine ⟨hc, hform.trans (formFactors_congr _ fun g => ?_).symm⟩
    rw [Groups.older, Groups.get_mapAll]
    split
    · exact formFactor_older ..
    · rfl
  | stale f hf => exact Measures.FactorLaw.stale ⟨hc, hform⟩ hf

/-! ### Hold ages (R68, R69) -/

theorem GroupState.ages_older (st : GroupState) : st.older.Ages ↔ st.Ages := by
  cases st <;> simp [GroupState.older, GroupState.Ages]

theorem GroupState.ages_toStale (st : GroupState) : st.toStale.Ages ↔ st.Ages := by
  cases st <;> simp [GroupState.toStale, GroupState.Ages]

/-- After a sweep end the groups without a contributing set age that aged or were LIVE (R68). -/
theorem GroupState.ages_sweepEnd (st : GroupState) (l : List Int) :
    (st.sweepEnd (candidate l)).Ages ↔ (st.Ages ∨ st.isLive = true) ∧ l.isEmpty = true := by
  cases l <;> cases st <;> simp [candidate, GroupState.sweepEnd, GroupState.Ages, GroupState.isLive]

theorem GroupState.not_live_of_ages {st : GroupState} (h : st.Ages) : st.isLive = false := by
  obtain ⟨v, n, rfl | rfl⟩ := h <;> rfl

/-- The groups that age after a sweep end, batch by batch or all together. -/
theorem Measures.sweepEnd_flatten (m : Measures) (l : TempGroup → List Int) :
    (m.sweepEnd l).ageing.flatten = (m.ageing.flatten.filter fun g => (l g).isEmpty) ++ m.groups.newlyHeld l := by
  simp only [Measures.sweepEnd, List.flatten_filter_not_isEmpty, List.flatten_append, List.filter_flatten,
    List.flatten_singleton]

theorem Measures.AgeLaw.sweepEnd (h : m.AgeLaw) (l : TempGroup → List Int) : (m.sweepEnd l).AgeLaw := by
  obtain ⟨hmem, hnodup, -⟩ := h
  refine ⟨fun g => ?_, ?_, ?_⟩
  · rw [Measures.sweepEnd_flatten]
    simp only [Measures.sweepEnd, Groups.sweepEnd, Groups.get_mapAll, GroupState.ages_sweepEnd, ← hmem, Groups.newlyHeld,
      List.mem_append, List.mem_filter, mem_allGroups, true_and, Bool.and_eq_true]
    exact or_and_right.symm
  · rw [Measures.sweepEnd_flatten]
    refine List.Nodup.append (hnodup.filter _) (allGroups_nodup.filter _) fun g hold hnew => ?_
    have hlive : (m.groups.get g).state.isLive = true := by
      simpa using (Bool.and_eq_true_iff.mp (List.mem_filter.mp hnew).2).1
    have hages := (hmem g).mp (List.mem_filter.mp hold).1
    exact Bool.noConfusion (hlive.symm.trans (GroupState.not_live_of_ages hages))
  · simp [Measures.sweepEnd]

theorem Measures.AgeLaw.step (h : m.AgeLaw) (hstep : m.Step m') : m'.AgeLaw := by
  cases hstep with
  | same => exact h
  | start s l => exact s.startUp_ageLaw l
  | restart arms harm =>
    refine ⟨fun g => ?_, List.nodup_nil, List.not_mem_nil⟩
    simp [Groups.reset_get, GroupRecord.reset, GroupState.Ages]
  | phase a i p => exact h
  | mark a i v hv => exact h
  | home a i w => exact h
  | setup a o d z => exact h
  | coefficients c hc => exact h
  | sweep l => exact h.sweepEnd l
  | age batch later hb =>
    obtain ⟨hmem, hnodup, hne⟩ := h
    rw [hb] at hmem hnodup hne
    have hperm : (later ++ [batch]).Perm (batch :: later) := List.perm_append_singleton ..
    refine ⟨fun g => ?_, hperm.flatten.nodup_iff.mpr hnodup, fun hin => hne (hperm.mem_iff.mp hin)⟩
    rw [hperm.flatten.mem_iff, hmem, Groups.older, Groups.get_mapAll]
    split
    · exact (GroupState.ages_older _).symm
    · rfl
  | stale f hf =>
    obtain ⟨hmem, hnodup, hne⟩ := h
    refine ⟨fun g => (hmem g).trans ?_, hnodup, hne⟩
    rw [Measures.stale, Groups.stale, Groups.get_mapAll]
    split
    · exact (GroupState.ages_toStale _).symm
    · rfl

end

/-- Settles O34: what a step can do to the measuring part keeps each of the three laws. -/
theorem lengthsAndFactorsInForceAreKept : Obligations.LengthsAndFactorsInForceAreKept := by
  refine ⟨fun s t h e => ?_, fun s t h e => ?_, fun s t h e => ?_⟩
  · exact (countLaw_iff t).mpr (((countLaw_iff s).mp h).step (step_measures e))
  · exact (factorLaw_iff t).mpr (((factorLaw_iff s).mp h).step (step_measures e))
  · exact (ageLaw_iff t).mpr (((ageLaw_iff s).mp h).step (step_measures e))

end Sys2Proof.Machine
end

section
/-! SUPPORT. The rules of the axis unit: the guard state of an arm, what a fault and a lost guard state change, the phases
of a channel and the count, and the words of a length argument (spec 02; spec 00, section 5). -/

namespace Sys2Proof.Machine

section
variable {s t : State} {a : Arm} {i : Axis}

/-! ### The guard state (R35) -/

theorem State.referenced_iff :
    s.referenced a = true ↔ s.present a = true ∧ ∀ i, (s.axis a i).state = .referenced := by
  simp only [State.referenced, ArmAxes.referenced, Axes.forall, AxisRecord.isReferenced, Axes.map, Bool.and_eq_true,
    beq_iff_eq]
  refine and_congr_right fun _ => ⟨fun ⟨⟨hx, hy⟩, hz⟩ i => ?_, fun h => ⟨⟨h .x, h .y⟩, h .z⟩⟩
  cases i
  · exact hx
  · exact hy
  · exact hz

theorem State.not_referenced (h : (s.axis a i).state ≠ .referenced) : s.referenced a = false :=
  Bool.eq_false_iff.mpr fun hr => h ((State.referenced_iff.mp hr).2 i)

theorem State.referenced_congr (hbuild : t.oneArm = s.oneArm) (harms : t.arms = s.arms) :
    t.referenced a = s.referenced a := by
  cases a <;> simp [State.referenced, State.present, hbuild, harms]

theorem State.axis_setAxis_ne {r : AxisRecord} {j : Axis} (h : i ≠ j) : (s.setAxis a i r).axis a j = s.axis a j := by
  simp [State.axis, Axes.get_set_ne _ _ h]

@[simp] theorem State.setAxis_axis : s.setAxis a i (s.axis a i) = s := by
  have h : s.arms.set a { s.arms.get a with axes := (s.arms.get a).axes.set i (s.axis a i) } = s.arms := by
    have haxes : (s.arms.get a).axes.set i (s.axis a i) = (s.arms.get a).axes := by
      refine Axes.ext_get fun j => ?_
      rw [Axes.get_set]
      split
      · subst j
        rfl
      · rfl
    rw [haxes, Two.set_get_same]
  exact congrArg (fun arms => ({ s with arms := arms } : State)) h

/-- A record in a state other than REFERENCED makes the arm BLIND. -/
theorem State.not_referenced_setAxis {r : AxisRecord} (h : r.state ≠ .referenced) :
    (s.setAxis a i r).referenced a = false :=
  State.not_referenced (i := i) (by rwa [State.axis_setAxis])

theorem State.guardChange_blind (was : Bool) (h : s.referenced a = false) :
    s.guardChange a was = if was = true then s.goBlind a else s := by
  unfold State.guardChange
  rw [h]
  cases was <;> rfl

theorem State.guardChange_from_blind :
    s.guardChange a false = if s.referenced a = true then s.askFormation a else s := by
  unfold State.guardChange
  cases s.referenced a <;> rfl

/-! ### Flags and causes (R170, R184) -/

theorem State.canRaise_axis (h : s.present a = true) : s.canRaise (.axis a) = true := h

theorem State.canRaise_hold (h : s.present a = true) : s.canRaise (.hold a) = true := h

@[simp] theorem State.raise_oneArm (src : AttnSource) : (s.raise src).oneArm = s.oneArm := by
  obtain ⟨r, h⟩ := s.raise_frame src
  rw [h]

/-- A flag that is set stays set by a raise. -/
theorem State.raise_keeps_flag (src : AttnSource) {j : Fin 14} (h : s.attention.sources[j].flag = true) :
    (s.raise src).attention.sources[j].flag = true := by
  rcases s.raise_cases src with ⟨-, e⟩ | ⟨-, e⟩ <;> rw [e]
  · simp only [State.setSource_attention, upd_get]
    split
    · rfl
    · exact h
  · exact h

theorem State.addCause_frame (c : HoldCause) :
    { s.addCause a c with zones := s.zones, touch := s.touch, attention := s.attention } = s := by
  rcases s.addCause_cases a c with ⟨-, e⟩ | ⟨-, -, e⟩ | ⟨-, -, e⟩ <;> rw [e]
  · obtain ⟨r, hr⟩ := ((s.setCauses a (Causes.none.add c)).disarm a).raise_frame (.hold a)
    rw [hr]
    rfl
  · rfl

theorem State.addCause_zones (c : HoldCause) (h : s.present a = true) :
    (s.addCause a c).zones = (s.setCauses a ((s.zones.hold.get a).causes.add c)).zones := by
  rcases s.addCause_cases a c with ⟨h', -⟩ | ⟨-, hc, e⟩ | ⟨-, -, e⟩
  · rw [h] at h'
    cases h'
  · rw [e, State.raise_zones, hc]
    rfl
  · rw [e]

theorem State.addCause_stack (c : HoldCause) : (s.addCause a c).attention.stack = s.attention.stack := by
  rcases s.addCause_cases a c with ⟨-, e⟩ | ⟨-, -, e⟩ | ⟨-, -, e⟩ <;> rw [e]
  · rw [State.raise_stack]
    rfl
  · rfl

/-- The first cause of a set latches the hold: probing is disarmed and HOLD raised. -/
theorem State.addCause_latches (c : HoldCause) (h : s.present a = true)
    (hc : (s.zones.hold.get a).causes = Causes.none) :
    ((s.addCause a c).touch.get a).armed = false ∧
      (s.addCause a c).attention.sources[sourceIndex (.hold a)].flag = true := by
  rcases s.addCause_cases a c with ⟨h', -⟩ | ⟨-, -, e⟩ | ⟨-, hne, -⟩
  · rw [h] at h'
    cases h'
  · rw [e]
    refine ⟨by simp, State.raise_flag _ _ (State.canRaise_hold (by cases a <;> exact h))⟩
  · exact absurd hc hne

end

/-! ### Phases and the count (R26 to R29) -/

/-- The next phase of the forward sequence (R26). -/
def nextPhase : Phase → Phase
  | .p0 => .p1
  | .p1 => .p2
  | .p2 => .p3
  | .p3 => .p0

theorem phaseStep_self (h : Phase) : phaseStep h h = .same := by cases h <;> rfl

theorem phaseStep_next (h : Phase) : phaseStep h (nextPhase h) = .forward := by cases h <;> rfl

theorem phaseStep_back (p : Phase) : phaseStep (nextPhase p) p = .backward := by cases p <;> rfl

theorem phaseStep_opposite (h : Phase) : phaseStep h (nextPhase (nextPhase h)) = .twoAway := by cases h <;> rfl

section
variable {r : AxisRecord} {h p : Phase}

theorem AxisRecord.isFaulted_iff : r.isFaulted = true ↔ ∃ c, r.state = .fault c := by
  unfold AxisRecord.isFaulted
  cases r.state <;> simp

theorem AxisRecord.not_faulted (hf : ∀ c, r.state ≠ .fault c) : r.isFaulted = false :=
  Bool.eq_false_iff.mpr fun hr => (AxisRecord.isFaulted_iff.mp hr).elim hf

/-- The first phase after start-up or RESTART is held without a step (R39, R40). -/
theorem AxisRecord.take_first (hp : r.phase = none) : r.take p = ({ r with phase := some p }, .none) := by
  simp [AxisRecord.take, hp]

/-- In FAULT the phase held follows and nothing is counted (R29). -/
theorem AxisRecord.take_fault (hf : ∃ c, r.state = .fault c) : r.take p = ({ r with phase := some p }, .none) := by
  unfold AxisRecord.take
  cases r.phase with
  | none => rfl
  | some h => simp [AxisRecord.isFaulted_iff.mpr hf]

/-- In every other state the step from the phase held decides. -/
theorem AxisRecord.take_counting (hp : r.phase = some h) (hf : ∀ c, r.state ≠ .fault c) :
    r.take p = match phaseStep h p with
      | .same => ({ r with phase := some p }, .none)
      | .forward => { r with phase := some p : AxisRecord }.count1 (stepCount r.direction true)
      | .backward => { r with phase := some p : AxisRecord }.count1 (stepCount r.direction false)
      | .twoAway => ({ r with phase := some p : AxisRecord }.faultWith .quadrature, .faulted) := by
  simp only [AxisRecord.take, hp, AxisRecord.not_faulted hf]
  cases phaseStep h p <;> rfl

theorem AxisRecord.take_same (hp : r.phase = some h) (hf : ∀ c, r.state ≠ .fault c) : r.take h = (r, .none) := by
  rw [AxisRecord.take_counting hp hf, phaseStep_self, ← hp]

/-- A step of one phase counts `d`, 1 forward and -1 backward, in the sense of the direction (R26). -/
theorem AxisRecord.take_step (hp : r.phase = some h) (hf : ∀ c, r.state ≠ .fault c) {d : Int}
    (hd : (p = nextPhase h ∧ d = 1) ∨ (h = nextPhase p ∧ d = -1)) :
    r.take p = { r with phase := some p : AxisRecord }.count1 (if r.direction = .normal then d else -d) := by
  rw [AxisRecord.take_counting hp hf]
  rcases hd with ⟨rfl, rfl⟩ | ⟨rfl, rfl⟩
  · rw [phaseStep_next]
    cases r.direction <;> rfl
  · rw [phaseStep_back]
    cases r.direction <;> rfl

/-- A phase two steps away is a quadrature error (R27). -/
theorem AxisRecord.take_opposite (hp : r.phase = some h) (hf : ∀ c, r.state ≠ .fault c)
    (hd : p = nextPhase (nextPhase h)) :
    r.take p = ({ r with state := .fault .quadrature, phase := some p }, .faulted) := by
  rw [AxisRecord.take_counting hp hf, hd, phaseStep_opposite]
  rfl

theorem saturates_eq_false {v : Int} (hlo : -2147483647 ≤ v) (hhi : v ≤ 2147483647) : saturates v = false := by
  simp only [saturates, outside, Bool.or_eq_false_iff, decide_eq_false_iff_not]
  unfold Config.lengthMax
  omega

theorem AxisRecord.count1_counted {d : Int} (hlo : -2147483647 ≤ r.count + d) (hhi : r.count + d ≤ 2147483647) :
    r.count1 d = ({ r with count := r.count + d }, .counted) := by
  simp [AxisRecord.count1, saturates_eq_false hlo hhi]

/-- A step above the greatest length leaves the count there (R28). -/
theorem AxisRecord.count1_over (hc : r.count = 2147483647) :
    r.count1 1 = ({ r with count := 2147483647, state := .fault .overrange }, .faulted) := by
  simp only [AxisRecord.count1, hc]
  rfl

/-- A step below the least length leaves the count there (R28). -/
theorem AxisRecord.count1_under (hc : r.count = -2147483647) :
    r.count1 (-1) = ({ r with count := -2147483647, state := .fault .overrange }, .faulted) := by
  simp only [AxisRecord.count1, hc]
  rfl

end

/-! ### The words of a length (spec 00, section 5) -/

theorem lengthArg_eq (w : Word) : lengthArg w = max (-2147483647) w.toInt := by
  have hlt := BitVec.toInt_lt (x := w)
  simp only [lengthArg, saturate, clamp, Config.lengthMax]
  omega

theorem lengthClamped_iff (w : Word) : lengthClamped w = true ↔ w.toInt = -2147483648 := by
  have hlt := BitVec.toInt_lt (x := w)
  have hle := BitVec.le_toInt (x := w)
  simp only [lengthClamped, saturates, outside, Bool.or_eq_true, decide_eq_true_eq]
  unfold Config.lengthMax
  omega

theorem Axes.any_iff (t : Axes Bool) : t.any = true ↔ ∃ i, t.get i = true := by
  simp only [Axes.any, Bool.or_eq_true]
  constructor
  · rintro ((h | h) | h)
    · exact ⟨.x, h⟩
    · exact ⟨.y, h⟩
    · exact ⟨.z, h⟩
  · rintro ⟨i, h⟩
    cases i
    · exact .inl (.inl h)
    · exact .inl (.inr h)
    · exact .inr h

theorem pointClamped_iff (w : Axes Word) : pointClamped w = true ↔ ∃ i, (w.get i).toInt = -2147483648 := by
  simp only [pointClamped, Axes.any_iff, Axes.get_map, lengthClamped_iff]

theorem axisArg_of_toNat {b : Byte} {i : Axis} (h : b.toNat = i.toNat) : axisArg b = some i := by
  cases i <;> simp [axisArg, h, Axis.toNat]

end Sys2Proof.Machine
end

section
/-! PROOF. The channel phases: counting, and the faults of an axis (O22). -/

namespace Sys2Proof.Machine

section
variable {s : State} {a : Arm} {i : Axis} {p : Phase} {r : AxisRecord}

/-! ### A phase by what came of it (R26 to R29) -/

theorem exec_quadraturePhase (h : s.serves a) : exec (.quadraturePhase a i p) s = .next (s.takePhase a i p) :=
  congrArg Host.Outcome.next (s.armEvent_on a _ h)

theorem State.takePhase_held (h : (s.axis a i).take p = (r, .none)) : s.takePhase a i p = s.setAxis a i r := by
  simp only [State.takePhase, h]

theorem State.takePhase_counted (h : (s.axis a i).take p = (r, .counted)) :
    s.takePhase a i p = if s.referenced a = true then (s.setAxis a i r).askFormation a else s.setAxis a i r := by
  simp only [State.takePhase, h]

theorem State.takePhase_faulted (h : (s.axis a i).take p = (r, .faulted)) :
    s.takePhase a i p = (s.setAxis a i r).axisFault a (s.referenced a) := by
  simp only [State.takePhase, h]

/-! ### An axis in FAULT (R27, R28, R35, R165, R170) -/

/-- The cause AXIS_FAULT and the AXIS source, before the guard state is told. -/
def State.blame (s : State) (a : Arm) : State := (s.addCause a .axisFault).raise (.axis a)

theorem State.blame_frame : { s.blame a with zones := s.zones, touch := s.touch, attention := s.attention } = s := by
  obtain ⟨q, hq⟩ := (s.addCause a .axisFault).raise_frame (.axis a)
  rw [State.blame, hq]
  exact State.addCause_frame .axisFault

theorem State.blame_arms : (s.blame a).arms = s.arms :=
  congrArg Measures.arms (Measured.raise (.addCause (m := s.measures) rfl))

theorem State.blame_oneArm : (s.blame a).oneArm = s.oneArm := by
  have h := State.blame_frame (s := s) (a := a)
  generalize s.blame a = t at h
  rw [← h]

theorem State.blame_sequencer : (s.blame a).sequencer = s.sequencer := by
  have h := State.blame_frame (s := s) (a := a)
  generalize s.blame a = t at h
  rw [← h]

theorem State.blame_referenced : (s.blame a).referenced a = s.referenced a :=
  State.referenced_congr State.blame_oneArm State.blame_arms

theorem State.blame_zones (h : s.present a = true) :
    (s.blame a).zones = (s.setCauses a ((s.zones.hold.get a).causes.add .axisFault)).zones := by
  rw [State.blame, State.raise_zones, State.addCause_zones _ h]

/-- An axis fault of an arm that is BLIND by now: what is blamed, and the points held are dropped if it was REFERENCED. -/
theorem State.axisFault_eq (was : Bool) (h : s.referenced a = false) :
    s.axisFault a was = if was = true then (s.blame a).goBlind a else s.blame a :=
  State.guardChange_blind was (State.blame_referenced.trans h)

theorem State.axisFault_referenced (was : Bool) (h : s.referenced a = false) :
    (s.axisFault a was).referenced a = false := by
  rw [State.axisFault_eq was h]
  split <;> exact State.blame_referenced.trans h

theorem State.axisFault_zones (was : Bool) (hp : s.present a = true) (h : s.referenced a = false) :
    (s.axisFault a was).zones = { s.zones with hold := s.zones.hold.set a { s.zones.hold.get a with
      causes := (s.zones.hold.get a).causes.add .axisFault
      points := if was = true then none else (s.zones.hold.get a).points } } := by
  rw [State.axisFault_eq was h]
  cases was
  · exact State.blame_zones hp
  · change ((s.blame a).setHold a _).zones = _
    simp only [State.setHold_zones, State.blame_zones hp]
    cases a <;> rfl

theorem State.axisFault_table (was : Bool) (hp : s.present a = true) (h : s.referenced a = false) :
    (s.axisFault a was).zones.table = s.zones.table := by
  rw [State.axisFault_zones was hp h]

theorem State.axisFault_grantee (was : Bool) (hp : s.present a = true) (h : s.referenced a = false) :
    (s.axisFault a was).zones.grantee = s.zones.grantee := by
  rw [State.axisFault_zones was hp h]

theorem State.axisFault_hold (was : Bool) (hp : s.present a = true) (h : s.referenced a = false) :
    (s.axisFault a was).zones.hold.get a = { s.zones.hold.get a with
      causes := (s.zones.hold.get a).causes.add .axisFault
      points := if was = true then none else (s.zones.hold.get a).points } := by
  rw [State.axisFault_zones was hp h]
  exact Two.get_set_same ..

theorem State.axisFault_hold_other (was : Bool) (hp : s.present a = true) (h : s.referenced a = false) :
    (s.axisFault a was).zones.hold.get a.other = s.zones.hold.get a.other := by
  rw [State.axisFault_zones was hp h]
  exact Two.get_set_other ..

theorem State.axisFault_change (was : Bool) (h : s.referenced a = false) :
    (s.axisFault a was).sequencer =
      if was = true then (s.setChange a { s.change a with lastReference := none }).sequencer else s.sequencer := by
  rw [State.axisFault_eq was h]
  cases was
  · exact State.blame_sequencer
  · simp only [State.goBlind, State.change, if_true, State.setChange_sequencer, State.setHold_sequencer,
      State.blame_sequencer]

theorem State.axisFault_arms (was : Bool) : (s.axisFault a was).arms = s.arms :=
  congrArg Measures.arms (Measured.axisFault (m := s.measures) rfl)

theorem State.axisFault_attention (was : Bool) (h : s.referenced a = false) :
    (s.axisFault a was).attention = (s.blame a).attention := by
  rw [State.axisFault_eq was h]
  split <;> rfl

theorem State.axisFault_stack (was : Bool) (h : s.referenced a = false) :
    (s.axisFault a was).attention.stack = s.attention.stack := by
  rw [State.axisFault_attention was h, State.blame, State.raise_stack, State.addCause_stack]

/-- The first cause latches the hold. -/
theorem State.axisFault_latches (was : Bool) (hp : s.present a = true) (h : s.referenced a = false)
    (hc : (s.zones.hold.get a).causes = Causes.none) :
    ((s.axisFault a was).touch.get a).armed = false ∧
      (s.axisFault a was).attention.sources[sourceIndex (.hold a)].flag = true := by
  obtain ⟨harmed, hflag⟩ := State.addCause_latches .axisFault hp hc
  rw [State.axisFault_attention was h]
  refine ⟨?_, State.raise_keeps_flag _ hflag⟩
  have htouch : (s.axisFault a was).touch = (s.addCause a .axisFault).touch := by
    rw [State.axisFault_eq was h]
    split <;> exact State.raise_touch ..
  rwa [htouch]

theorem State.axisFault_flag (was : Bool) (hp : s.present a = true) (h : s.referenced a = false) :
    (s.axisFault a was).attention.sources[sourceIndex (.axis a)].flag = true := by
  rw [State.axisFault_attention was h]
  refine State.raise_flag _ _ (State.canRaise_axis ?_)
  have hbuild : (s.addCause a .axisFault).oneArm = s.oneArm := (State.raise_oneArm ..).symm.trans State.blame_oneArm
  cases a
  · rfl
  · exact (congrArg not hbuild).trans hp

/-- Nothing but the hold record, probing, the change record and the attention flags changes. -/
theorem State.axisFault_frame (was : Bool) (h : s.referenced a = false) :
    { s.axisFault a was with
      zones := s.zones, touch := s.touch, sequencer := s.sequencer, attention := s.attention } = s := by
  rw [State.axisFault_eq was h]
  have hb := congrArg (fun w : State => { w with sequencer := s.sequencer }) (State.blame_frame (s := s) (a := a))
  split <;> exact hb

end

/-- Settles O22: each phase by what it makes of the record, and each fault by the cause, the source and the guard state. -/
theorem phasesAreCountedOrFault : Obligations.PhasesAreCountedOrFault := by
  refine ⟨fun s a i p hs => ?_, fun s a i h p hs hp hf => ?_⟩
  · intro r next held
    have hnext (q : Phase) : next q = nextPhase q := by cases q <;> rfl
    rw [exec_quadraturePhase hs]
    refine ⟨fun hp => ?_, fun hf => ?_, fun h hp hf => ⟨fun he => ?_, fun d hd => ?_⟩⟩
    · rw [State.takePhase_held (AxisRecord.take_first hp)]
    · rw [State.takePhase_held (AxisRecord.take_fault hf)]
    · rw [he, State.takePhase_held (AxisRecord.take_same hp hf), State.setAxis_axis]
    · intro n moved hhi hlo
      have hn : r.count + (if r.direction = .normal then d else -d) = n := by
        simp only [n]
        split <;> omega
      simp only [hnext] at hd
      have htake : r.take p = ({ r with count := n, phase := some p }, .counted) := by
        rw [AxisRecord.take_step hp hf hd, AxisRecord.count1_counted (by rw [hn]; exact hlo) (by rw [hn]; exact hhi), hn]
      rw [State.takePhase_counted htake]
  · intro r next faults
    have hnext (q : Phase) : next q = nextPhase q := by cases q <;> rfl
    have hfaults (cause : FaultCause) (n : Int)
        (htake : r.take p = ({ r with count := n, state := .fault cause, phase := some p }, .faulted)) :
        faults cause n := by
      have hblind :
            (s.setAxis a i { r with count := n, state := .fault cause, phase := some p }).referenced a = false :=
        State.not_referenced_setAxis AxisState.noConfusion
      have hpresent :
            (s.setAxis a i { r with count := n, state := .fault cause, phase := some p }).present a = true := hs.2
      have hhold := State.axisFault_hold (s.referenced a) hpresent hblind
      have hchange := State.axisFault_change (s.referenced a) hblind
      refine ⟨_, (exec_quadraturePhase hs).trans (congrArg Host.Outcome.next (State.takePhase_faulted htake)),
        State.axisFault_arms _, State.axisFault_referenced _ hblind, congrArg HoldRecord.causes hhold,
        State.axisFault_flag _ hpresent hblind, State.axisFault_latches _ hpresent hblind, fun hw => ⟨?_, ?_⟩,
        fun hw => ⟨?_, ?_⟩, State.axisFault_table _ hpresent hblind, State.axisFault_grantee _ hpresent hblind,
        State.axisFault_hold_other _ hpresent hblind, State.axisFault_stack _ hblind,
        congrArg (fun w : State => { w with arms := s.arms }) (State.axisFault_frame (s.referenced a) hblind)⟩
      · rw [hhold, if_pos hw]
      · rw [if_pos hw] at hchange
        rw [State.change, hchange]
        exact congrArg Change.lastReference (Two.get_set_same ..)
      · rw [hhold, hw]
        rfl
      · rw [hchange, hw]
        rfl
    have hover (n : Int) {d : Int} (hd : (p = nextPhase h ∧ d = 1) ∨ (h = nextPhase p ∧ d = -1))
        (hcount : ({ r with phase := some p } : AxisRecord).count1 (if r.direction = .normal then d else -d) =
          ({ r with count := n, state := .fault .overrange, phase := some p }, .faulted)) : faults .overrange n :=
      hfaults .overrange n ((AxisRecord.take_step hp hf hd).trans hcount)
    simp only [hnext]
    refine ⟨fun hd => hfaults .quadrature r.count (AxisRecord.take_opposite hp hf hd), ?_, ?_⟩
    · rintro hc (⟨hd, hdir⟩ | ⟨hd, hdir⟩)
      · exact hover _ (.inl ⟨hd, rfl⟩) (by rw [hdir]; exact AxisRecord.count1_over hc)
      · exact hover _ (.inr ⟨hd, rfl⟩) (by rw [hdir]; exact AxisRecord.count1_over hc)
    · rintro hc (⟨hd, hdir⟩ | ⟨hd, hdir⟩)
      · exact hover _ (.inr ⟨hd, rfl⟩) (by rw [hdir]; exact AxisRecord.count1_under hc)
      · exact hover _ (.inl ⟨hd, rfl⟩) (by rw [hdir]; exact AxisRecord.count1_under hc)

end Sys2Proof.Machine
end

section
/-! PROOF. The reference search (O23). -/

namespace Sys2Proof.Machine

section
variable {s : State} {a : Arm} {i : Axis}

/-! ### AXIS_HOME (R30) -/

theorem axisHomeReq_accepted {arm axis : Byte} {w : Word} (hp : s.present a = true) (ha : arm.toNat = a.toNat)
    (hi : axis.toNat = i.toNat) : axisHomeReq arm axis w s =
      { status := okOr (lengthClamped w), payload := [((s.home a i (lengthArg w)).axis a i).state.code],
        state := s.home a i (lengthArg w) } := by
  simp [axisHomeReq, sideArg_of_toNat ha, axisArg_of_toNat hi, State.absentArm, hp]

theorem State.home_eq (v : Int) : s.home a i v =
    if s.referenced a = true then (s.setAxis a i { s.axis a i with state := .seeking v }).goBlind a
    else s.setAxis a i { s.axis a i with state := .seeking v } :=
  State.guardChange_blind _ (State.not_referenced_setAxis AxisState.noConfusion)

theorem State.home_arms (v : Int) :
    (s.home a i v).arms = (s.setAxis a i { s.axis a i with state := .seeking v }).arms := by
  rw [State.home_eq]
  split <;> rfl

theorem State.home_axis (v : Int) : (s.home a i v).axis a i = { s.axis a i with state := .seeking v } :=
  (congrArg (fun q : Two ArmAxes => (q.get a).axes.get i) (State.home_arms v)).trans (State.axis_setAxis ..)

theorem State.home_blind (v : Int) : (s.home a i v).referenced a = false :=
  State.not_referenced (i := i) (by rw [State.home_axis]; exact AxisState.noConfusion)

/-! ### The reference mark (R31) -/

theorem exec_referenceMark (h : s.serves a) : exec (.referenceMark a i) s = .next (s.takeMark a i) :=
  congrArg Host.Outcome.next (s.armEvent_on a _ h)

theorem State.takeMark_ignored (h : ∀ v, (s.axis a i).state ≠ .seeking v) : s.takeMark a i = s := by
  unfold State.takeMark
  dsimp only
  split
  · next v hv => exact absurd hv (h v)
  · rfl

/-- The mark of a SEEKING axis finds the arm BLIND, so that it may become REFERENCED by it. -/
theorem State.takeMark_seeking {v : Int} (h : (s.axis a i).state = .seeking v) : s.takeMark a i =
    ((s.setAxis a i { s.axis a i with count := v, state := .referenced }).raise (.axis a)).guardChange a false := by
  have hblind : s.referenced a = false := State.not_referenced (i := i) (by rw [h]; exact AxisState.noConfusion)
  simp only [State.takeMark, h, hblind]

/-- The arm is REFERENCED after the mark exactly when the other two axes are (R35). -/
theorem State.referenced_after_mark {r : AxisRecord} (hr : r.state = .referenced) (hp : s.present a = true) :
    ((s.setAxis a i r).raise (.axis a)).referenced a = true ↔ ∀ j : Axis, j ≠ i → (s.axis a j).state = .referenced := by
  have hraise : ((s.setAxis a i r).raise (.axis a)).referenced a = (s.setAxis a i r).referenced a :=
    State.referenced_congr (State.raise_oneArm ..)
      (congrArg Measures.arms (Measured.raise (m := (s.setAxis a i r).measures) rfl))
  have hp : (s.setAxis a i r).present a = true := hp
  rw [hraise, State.referenced_iff, and_iff_right hp]
  refine ⟨fun h j hj => State.axis_setAxis_ne (Ne.symm hj) ▸ h j, fun h j => ?_⟩
  by_cases hj : i = j
  · subst hj
    rwa [State.axis_setAxis]
  · rw [State.axis_setAxis_ne hj]
    exact h j (Ne.symm hj)

end

/-- Settles O23: the state AXIS_HOME leaves, and the mark by the state of its axis. -/
theorem referenceSearchSetsTheCount : Obligations.ReferenceSearchSetsTheCount := by
  refine ⟨fun s arm axis reference a i ht hp ha hi => ?_, fun s a i hs => ?_⟩
  · have hreply := axisHomeReq_accepted (w := reference) hp ha hi
    rw [State.home_axis] at hreply
    refine ⟨s.home a i (lengthArg reference), (request_answered ht hreply).trans ?_, ?_, State.home_blind _, fun hr => ?_,
      fun hr => ?_, ?_⟩
    · simp only [okOr, lengthClamped_iff]
      rfl
    · rw [State.home_arms, lengthArg_eq]
    · rw [State.home_eq, if_pos hr]
      exact ⟨rfl, rfl⟩
    · rw [State.home_eq, hr]
      exact ⟨rfl, rfl⟩
    · rw [State.home_eq]
      split <;> rfl
  · refine ⟨fun hno => ?_, fun v hv => ?_⟩
    · rw [exec_referenceMark hs, State.takeMark_ignored hno]
    · intro marked last
      have hlast := State.referenced_after_mark (s := s) (i := i)
        (r := { s.axis a i with count := v, state := .referenced }) rfl hs.2
      rw [exec_referenceMark hs, State.takeMark_seeking hv, State.guardChange_from_blind]
      exact ⟨fun h => by rw [if_pos (hlast.mpr h)], fun h => by rw [if_neg (mt hlast.mp h)]⟩

end Sys2Proof.Machine
end

section
/-! PROOF. ARM_SETUP (O24). -/

namespace Sys2Proof.Machine

section
variable {s : State} {a : Arm}

/-! ### ARM_SETUP (R33, R34) -/

/-- The direction a byte stands for (R201). -/
theorem directionArg_eq {b : Byte} (h : b.toNat ≤ 1) :
    directionArg b = some (if b.toNat = 0 then .normal else .reversed) := by
  have hb : b.toNat = 0 ∨ b.toNat = 1 := by omega
  rcases hb with e | e <;> simp [directionArg, e]

theorem directionArg_none {b : Byte} (h : 1 < b.toNat) : directionArg b = none := by
  unfold directionArg
  split
  · omega
  · omega
  · rfl

/-- The byte of a direction is the byte it was given by. -/
theorem directionArg_code {b : Byte} (h : b.toNat ≤ 1) :
    (if b.toNat = 0 then Direction.normal else .reversed).code = b := by
  refine BitVec.eq_of_toNat_eq ?_
  have hb : b.toNat = 0 ∨ b.toNat = 1 := by omega
  rcases hb with e | e <;> simp [e, Direction.code]

theorem directionsArg_none {d : Axes Byte} (h : ∃ i, 1 < (d.get i).toNat) : directionsArg d = none := by
  obtain ⟨i, hi⟩ := h
  have hn := directionArg_none hi
  cases i <;> simp only [Axes.get] at hn <;> simp [directionsArg, hn]

/-- The directions three bytes of their list stand for. -/
def directionsOf (d : Axes Byte) : Axes Direction := d.map fun b => if b.toNat = 0 then .normal else .reversed

theorem directionsArg_some {d : Axes Byte} (h : ∀ i, (d.get i).toNat ≤ 1) :
    directionsArg d = some (directionsOf d) := by
  have hx : directionArg d.x = some (directionsOf d).x := directionArg_eq (h .x)
  have hy : directionArg d.y = some (directionsOf d).y := directionArg_eq (h .y)
  have hz : directionArg d.z = some (directionsOf d).z := directionArg_eq (h .z)
  simp only [directionsArg, hx, hy, hz]

/-- The answer's layout, with the direction bytes as they were given. -/
theorem ArmAxes.setupBytes_setup (r : ArmAxes) (o z : Point) {d : Axes Byte} (h : ∀ i, (d.get i).toNat ≤ 1) :
    (r.setup o (directionsOf d) z).setupBytes =
      pointBytes o ++ [d.x, d.y, d.z] ++ intBytes z.x ++ intBytes z.y ++ intBytes z.z := by
  have hx : (directionsOf d).x.code = d.x := directionArg_code (h .x)
  have hy : (directionsOf d).y.code = d.y := directionArg_code (h .y)
  have hz : (directionsOf d).z.code = d.z := directionArg_code (h .z)
  simp [ArmAxes.setupBytes, ArmAxes.setup, AxisRecord.setup, axesBytes, hx, hy, hz]

theorem State.setupArm_cases (o z : Point) (d : Axes Direction) :
    s.setupArm a o d z = s.setArm a ((s.arms.get a).setup o d z) ∨
      s.setupArm a o d z = (s.setArm a ((s.arms.get a).setup o d z)).askFormation a := by
  simp only [State.setupArm]
  split
  · exact .inr rfl
  · exact .inl rfl

theorem State.setupArm_arms (o z : Point) (d : Axes Direction) :
    (s.setupArm a o d z).arms = s.arms.set a ((s.arms.get a).setup o d z) := by
  rcases State.setupArm_cases (s := s) (a := a) o z d with e | e <;> rw [e] <;> rfl

theorem State.setupArm_arm (o z : Point) (d : Axes Direction) :
    (s.setupArm a o d z).arms.get a = (s.arms.get a).setup o d z := by
  rw [State.setupArm_arms, Two.get_set_same]

theorem State.setupArm_axis (o z : Point) (d : Axes Direction) (i : Axis) :
    (s.setupArm a o d z).axis a i = (s.axis a i).setup (d.get i) (z.get i) := by
  rw [State.axis, State.setupArm_arm, ArmAxes.setup_axis]
  rfl

/-- A setup leaves the guard state. -/
theorem State.referenced_setArm_setup (o z : Point) (d : Axes Direction) :
    (s.setArm a ((s.arms.get a).setup o d z)).referenced a = s.referenced a := by
  have hax (i : Axis) : ((s.setArm a ((s.arms.get a).setup o d z)).axis a i).state = (s.axis a i).state := by
    rw [State.axis, State.setArm_arms, Two.get_set_same, ArmAxes.setup_axis]
    rfl
  rw [Bool.eq_iff_iff, State.referenced_iff, State.referenced_iff]
  simp only [hax]
  rfl

/-- A motion event is told when the arm is REFERENCED and an origin offset or a fixed point is another (R34). -/
theorem State.setupArm_comp (o z : Point) (d : Axes Direction) :
    (s.setupArm a o d z).comp =
      if (o ≠ (s.arms.get a).origin ∨ z ≠ (s.arms.get a).axes.map AxisRecord.s0) ∧ s.referenced a = true then
        (s.askFormation a).comp else s.comp := by
  simp only [State.setupArm, State.referenced_setArm_setup]
  split <;> rfl

/-- Two points differ exactly when they differ on an axis. -/
theorem Axes.ne_iff {α : Type} {t u : Axes α} : t ≠ u ↔ ∃ i, t.get i ≠ u.get i := by
  rw [ne_eq, ← not_forall]
  exact not_congr ⟨fun h i => h ▸ rfl, Axes.ext_get⟩

/-- An origin offset or a fixed point is another one exactly when it is on some axis. -/
theorem setup_moved_iff (o z : Point) (d : Axes Direction) :
    (o ≠ (s.arms.get a).origin ∨ z ≠ (s.arms.get a).axes.map AxisRecord.s0) ↔
      ∃ i, ((s.arms.get a).setup o d z).origin.get i ≠ (s.arms.get a).origin.get i ∨
        ((s.axis a i).setup (d.get i) (z.get i)).s0 ≠ (s.axis a i).s0 := by
  rw [Axes.ne_iff, Axes.ne_iff, ← exists_or]
  simp only [Axes.get_map]
  rfl

theorem armSetupReq_accepted {arm : Byte} {o z : Axes Word} {d : Axes Byte} (hp : s.present a = true)
    (ha : arm.toNat = a.toNat) {e : Axes Direction} (hd : directionsArg d = some e) : armSetupReq arm o d z s =
      { status := okOr (pointClamped o || pointClamped z),
        payload := ((s.setupArm a (pointArg o) e (pointArg z)).arms.get a).setupBytes,
        state := s.setupArm a (pointArg o) e (pointArg z) } := by
  simp [armSetupReq, sideArg_of_toNat ha, hd, State.absentArm, hp]

theorem pointArg_get (w : Axes Word) (i : Axis) : (pointArg w).get i = max (-2147483647) (w.get i).toInt := by
  rw [pointArg, Axes.get_map, lengthArg_eq]

end

/-- Settles O24: the record stored, its answer, and the motion event. -/
theorem armSetupIsStored : Obligations.ArmSetupIsStored := by
  intro s arm origin direction s0 a ht hp ha c
  refine ⟨fun hbad => request_answered ht ?_, fun hdir => ?_⟩
  · simp [armSetupReq, sideArg_of_toNat ha, directionsArg_none hbad]
  · have hreply := armSetupReq_accepted (o := origin) (z := s0) hp ha (directionsArg_some hdir)
    have harm := State.setupArm_arm (s := s) (a := a) (pointArg origin) (pointArg s0) (directionsOf direction)
    have haxis := State.setupArm_axis (s := s) (a := a) (pointArg origin) (pointArg s0) (directionsOf direction)
    have hcomp := State.setupArm_comp (s := s) (a := a) (pointArg origin) (pointArg s0) (directionsOf direction)
    rw [harm, ArmAxes.setupBytes_setup _ _ _ hdir] at hreply
    refine ⟨s.setupArm a (pointArg origin) (directionsOf direction) (pointArg s0),
      pointClamped origin || pointClamped s0, (request_answered ht hreply).trans ?_, ?_, fun i => ⟨?_, ?_⟩, ?_,
      fun hmoved => ?_, fun hstill => ?_, ?_⟩
    · rw [harm, haxis, haxis, haxis]
      rfl
    · rw [Bool.or_eq_true, pointClamped_iff, pointClamped_iff, ← exists_or]
    · rw [harm]
      exact pointArg_get ..
    · rw [haxis, pointArg_get, directionsOf, Axes.get_map]
      rfl
    · rw [State.setupArm_arms, Two.get_set_other]
    · simp only [harm, haxis] at hmoved
      rw [hcomp, if_pos ⟨(setup_moved_iff ..).mpr hmoved.2, hmoved.1⟩]
    · simp only [harm, haxis] at hstill
      rw [hcomp, if_neg]
      rintro ⟨hmoved, hr⟩
      obtain ⟨i, hi⟩ := (setup_moved_iff ..).mp hmoved
      rcases hstill with hb | hsame
      · exact Bool.noConfusion (hb.symm.trans hr)
      · exact hi.elim (absurd (hsame i).1) (absurd (hsame i).2)
    · rcases State.setupArm_cases (s := s) (a := a) (pointArg origin) (pointArg s0) (directionsOf direction) with
        e | e <;> rw [e] <;> rfl

end Sys2Proof.Machine
end

section
/-! PROOF. The stages of a position and the check points formed from them (spec 05, R83 to R92), which POSITION_READ
answers (O59). -/

namespace Sys2Proof.Machine

/-! ### The stages (R84 to R89) -/

theorem saturate_eq_limited (v : Int) : saturate v = limited v := clamp_eq_max_min (by decide) v

theorem saturates_iff (v : Int) : saturates v = true ↔ limited v ≠ v := by
  rw [← saturate_eq_limited]
  exact outside_iff (by decide) v

/-- A stage whose exact value is `v`, after earlier stages of which one was limited exactly when `c` holds. -/
structure Staged.Holds (m : Staged) (v : Int) (c : Prop) : Prop where
  value_eq : m.value = limited v
  clamped_iff : m.clamped = true ↔ c ∨ limited v ≠ v

theorem saturated_holds (v : Int) : (saturated v).Holds v False where
  value_eq := saturate_eq_limited v
  clamped_iff := by rw [false_or]; exact saturates_iff v

theorem Staged.Holds.addStage {m : Staged} {v : Int} {c : Prop} (h : m.Holds v c) (d : Int) :
    (addStage m d).Holds (limited v + d) (c ∨ limited v ≠ v) where
  value_eq := by rw [← h.value_eq]; exact saturate_eq_limited _
  clamped_iff := by
    rw [← h.clamped_iff, ← h.value_eq, ← saturates_iff]
    exact (Bool.or_eq_true ..).to_iff

section
variable {s : State} {a : Arm} {i : Axis} {tip : Option (Fin 64)} {e : Option Entry}

theorem Gathered.scaled_holds (p : Point) (i : Axis) :
    (((s.gather a).scaled p).get i).Holds (scaleExact s a p i) False := by
  cases i <;> exact saturated_holds _

theorem Axes.get_zip {α β γ : Type} (f : α → β → γ) (t : Axes α) (u : Axes β) (i : Axis) :
    (Axes.zip f t u).get i = f (t.get i) (u.get i) := by
  cases i <;> rfl

/-- The reference point: the room stage after the scale stage (R92). -/
theorem Gathered.referenceRoom_holds (p : Point) (i : Axis) : (((s.gather a).referenceRoom p).get i).Holds
    (referenceExact s a p i) (False ∨ limited (scaleExact s a p i) ≠ scaleExact s a p i) := by
  rw [Gathered.referenceRoom, Axes.get_zip]
  exact (Gathered.scaled_holds p i).addStage _

/-- The tip stage adds the offset of the entry used. -/
theorem tipExact_eq (he : s.mountedEntry a = e) (p : Point) (i : Axis) :
    tipExact s a p e i = limited (scaleExact s a p i) + (s.gather a).offset.get i := by
  have hentry : (s.gather a).entry = e := he
  unfold tipExact
  rw [Gathered.offset, hentry]
  cases e with
  | none => rw [Option.map_none, Option.getD_none, Axes.get_all]
  | some e => rfl

/-- The tip centre: the scale, tip and room stages (R85 to R87). -/
theorem Gathered.tipRoom_holds (he : s.mountedEntry a = e) (p : Point) (i : Axis) :
    (((s.gather a).tipRoom p).get i).Holds (roomExact s a p e i)
      ((False ∨ limited (scaleExact s a p i) ≠ scaleExact s a p i) ∨
        limited (tipExact s a p e i) ≠ tipExact s a p e i) := by
  rw [Gathered.tipRoom, Axes.get_zip, Axes.get_zip, roomExact, tipExact_eq he]
  exact ((Gathered.scaled_holds p i).addStage _).addStage _

/-! ### The mounted tip and its entry (R5, R83) -/

/-- The look-up finds what is said to be the one record that fits, or finds none when none is said to fit. -/
theorem State.findTip_eq {f : Tip → Bool} (h : ∀ i, tip = some i ↔ ∃ t, s.library.tips[i] = .active t ∧ f t = true) :
    s.findTip f = tip := by
  cases hfound : s.findTip f with
  | none =>
    have hnone := State.findTip_eq_none_iff.mp hfound
    cases tip with
    | none => rfl
    | some i =>
      obtain ⟨t, ht, hf⟩ := (h i).mp rfl
      exact absurd hf (hnone i t ht)
  | some i =>
    obtain ⟨t, ht, hf⟩ := State.findTip_some hfound
    exact ((h i).mpr ⟨t, (s.activeTip_eq_some_iff i t).mp ht, hf⟩).symm

theorem Mounted.mountedTip (h : Mounted s a tip) : s.mountedTip a = tip :=
  State.findTip_eq fun i => (h i).trans (by simp only [beq_iff_eq])

theorem Mounted.mountedEntry (h : Mounted s a tip) (he : EntryUsed s a tip e) : s.mountedEntry a = e := by
  rw [State.mountedEntry, h.mountedTip]
  cases tip with
  | none => exact (he.1 rfl).symm
  | some i =>
    obtain ⟨t, ht, -⟩ := (h i).mp rfl
    rw [Option.bind_some, (s.activeTip_eq_some_iff i t).mpr ht, he.2 i t rfl ht]
    rfl

/-! ### The check points (R92) -/

theorem Gathered.scaleMark_iff (f : FactorMarks → Bool) :
    (s.gather a).scaleMark f = true ↔ ∃ i : Axis, f ((s.comp.factors.scale.get a).get i).marks = true := by
  simp only [Gathered.scaleMark, Axes.any_iff, Axes.get_map]
  rfl

theorem Gathered.checkMarks_areCheckMarks (suspect clamped : Bool) :
    AreCheckMarks s a ((s.gather a).checkMarks suspect clamped) :=
  ⟨Gathered.scaleMark_iff _, Gathered.scaleMark_iff _, Gathered.scaleMark_iff _, Gathered.scaleMark_iff _, rfl⟩

theorem anyClamped_iff (t : Axes Staged) : anyClamped t = true ↔ ∃ i, (t.get i).clamped = true := by
  simp only [anyClamped, Axes.any_iff, Axes.get_map]

/-- What is gathered for an arm gives its check points. -/
theorem Gathered.checkPoints_areCheckPoints (ht : Mounted s a tip) (he : EntryUsed s a tip e) (p : Point) :
    AreCheckPoints s a p tip e ((s.gather a).checkPoints p) := by
  have hentry := ht.mountedEntry he
  have hgathered : (s.gather a).entry = e := hentry
  refine ⟨fun i => ?_, Gathered.checkMarks_areCheckMarks .., rfl, ?_, fun hnone => ?_, fun x hx => ?_⟩
  · exact (Axes.get_map ..).trans (Gathered.referenceRoom_holds p i).value_eq
  · refine (anyClamped_iff _).trans (exists_congr fun i => ?_)
    rw [(Gathered.referenceRoom_holds p i).clamped_iff, false_or]
  · simp [Gathered.checkPoints, hgathered, hnone]
  · subst hx
    cases tip with
    | none => exact absurd (he.1 rfl) (Option.some_ne_none x)
    | some j =>
      have htip : (s.gather a).tip = some j := ht.mountedTip
      refine ⟨(s.gather a).tipPoint p j, ?_, rfl, ?_, fun i => ?_, Gathered.checkMarks_areCheckMarks .., ?_, ?_⟩
      · simp [Gathered.checkPoints, hgathered, htip]
      · simp [Gathered.tipPoint, Gathered.radius, hgathered]
      · exact (Axes.get_map ..).trans (Gathered.tipRoom_holds hentry p i).value_eq
      · simp [Gathered.tipPoint, Gathered.checkMarks, Gathered.suspect, hgathered]
      · refine (anyClamped_iff _).trans (exists_congr fun i => ?_)
        rw [(Gathered.tipRoom_holds hentry p i).clamped_iff, false_or, or_assoc]

end

end Sys2Proof.Machine
end

section
/-! PROOF. The read requests and the bytes of the records they answer (O59). -/

namespace Sys2Proof.Machine

section
variable {s : State} {a : Arm}

/-! ### A read request answered -/

/-- A read request is answered with a payload and changes nothing. -/
theorem read_answered {c : Instr} {body : State → Reply} {payload layout : List Byte} (ht : s.takesRequests)
    (hb : body s = accept payload s) (hp : payload = layout) :
    done (s.request c body) = .next (s.respond c { status := .ok, payload := layout, state := s }) :=
  request_answered ht (hp ▸ hb)

theorem positionReadReq_eq {arm : Byte} (hp : s.present a = true) (ha : arm.toNat = a.toNat) :
    positionReadReq arm s = positionReadBody a s := by
  simp [positionReadReq, sideArg_of_toNat ha, State.absentArm, hp]

theorem changeReadReq_eq {arm : Byte} (hp : s.present a = true) (ha : arm.toNat = a.toNat) :
    changeReadReq arm s = changeReadBody a s := by
  simp [changeReadReq, sideArg_of_toNat ha, State.absentArm, hp]

theorem holdReadReq_eq {arm : Byte} (hp : s.present a = true) (ha : arm.toNat = a.toNat) :
    holdReadReq arm s = holdReadBody a s := by
  simp [holdReadReq, sideArg_of_toNat ha, State.absentArm, hp]

/-! ### Lists and vectors -/

theorem listBytes_byte {α : Type} (f : α → Byte) (l : List α) :
    listBytes (fun x => [f x]) l = byteOf l.length :: l.map f :=
  congrArg _ List.map_eq_flatMap.symm

theorem Vector.toList_eq_map_finRange {α : Type} {n : Nat} (v : Vector α n) :
    v.toList = (List.finRange n).map fun i => v[i] := by
  refine List.ext_getElem (by simp) fun i h1 h2 => ?_
  simp

theorem find?_finRange_eq_some {n : Nat} {p : Fin n → Bool} {i : Fin n} (hi : p i = true)
    (hlow : ∀ j < i, p j = false) : (List.finRange n).find? p = some i := by
  rw [List.find?_eq_some_iff_getElem]
  refine ⟨hi, i.val, by simp, by simp, fun j hj => ?_⟩
  simp [hlow ⟨j, hj.trans i.isLt⟩ hj]

/-! ### The records of an arm (R37, R159, R174) -/

theorem AxisRecord.bytes_eq (r : AxisRecord) : r.bytes = intBytes r.count ++ [r.state.code, r.direction.code]
    ++ intBytes r.s0
    ++ (match r.state with
        | .seeking v => 1 :: intBytes v
        | _ => [0, 0, 0, 0, 0])
    ++ (match r.state with
        | .fault f => [1, f.code]
        | _ => [0, 0]) := by
  rw [AxisRecord.bytes]
  cases r.state <;> rfl

/-- The positions of a BLIND arm are absent (R37). -/
theorem State.positionBytes_blind (h : s.referenced a = false) : s.positionBytes a = List.replicate 29 0 := by
  simp [State.positionBytes, h]

theorem State.positionBytes_referenced (h : s.referenced a = true) {q : CheckPoints}
    (hq : (s.gather a).checkPoints (s.arms.get a).counts = q) :
    s.positionBytes a = [1] ++ pointBytes q.reference ++ [q.referenceMarks.byte]
      ++ (match q.tip with
          | some t => 1 :: pointBytes t.position ++ [t.marks.byte, byteOf t.number.val]
          | none => List.replicate 15 0) := by
  simp only [State.positionBytes, h, hq, if_true]
  cases q.tip with
  | none => rfl
  | some t => simp [presence, numberByte]

theorem State.holdActive_eq (hs : s.serves a) :
    s.holdActive a = decide ((s.zones.hold.get a).causes ≠ Causes.none) := by
  obtain ⟨hpower, hpresent⟩ := hs
  rw [Bool.eq_iff_iff, decide_eq_true_iff, ne_eq, ← Causes.isEmpty_iff]
  simp [State.holdActive, hpower, hpresent]

theorem State.claimed_toList : (s.claimed a).toList =
    (List.finRange 16).map fun z => (s.zone z).any fun r => r.kind == .shared (some a) := by
  rw [State.claimed, Vector.toList_ofFn, List.ofFn_eq_map]

theorem StagedOutcome.bytes_eq (o : StagedOutcome) : o.bytes =
    match o with
    | .none => [0, 0, 0]
    | .started => [1, 1, 0]
    | .refusedAtStart st => [1, 2, st.code]
    | .nothingToDo => [1, 3, 0]
    | .discarded => [1, 4, 0] := by
  cases o <;> rfl

theorem HeadState.id_bytes (h : HeadState) : presence 4 wordBytes h.id =
    match h with
    | .foreignModule (some id) => 1 :: wordBytes id
    | _ => [0, 0, 0, 0, 0] := by
  rcases h with _ | _ | _ | (_ | id) <;> rfl

/-! ### The records of the scan and the groups (R59, R63, R72) -/

theorem State.members_eq (g : TempGroup) : s.members g =
    ((List.finRange 16).countP fun i =>
      (s.sensor .zero i).any fun r => r.binding == some g && r.state != .retired)
    + ((List.finRange 16).countP fun i =>
      (s.sensor .one i).any fun r => r.binding == some g && r.state != .retired) := by
  simp only [State.members, Vector.toList_eq_map_finRange, List.countP_map]
  rfl

theorem State.groupBytes_eq (g : TempGroup) : s.groupBytes g =
    (match (s.scanner.groups.get g).state with
      | .empty => [0, 0, 0, 0, 0, 0, 0, 0, 0, 0, 0]
      | .live v => [1, 1] ++ intBytes v ++ [0, 0, 0, 0, 0]
      | .held v n => [2, 1] ++ intBytes v ++ 1 :: natBytes n
      | .stale v n => [3, 1] ++ intBytes v ++ 1 :: natBytes n)
    ++ [byteOf (s.scanner.groups.get g).contributors, byteOf (s.members g)] := by
  rw [State.groupBytes]
  cases (s.scanner.groups.get g).state <;> rfl

theorem LineCheck.firstFailing_none {k : LineCheck} (h : ∀ i : Fin 16, k.failedPasses[i] = 0) :
    k.firstFailing = none := by
  simp [LineCheck.firstFailing, h]

theorem LineCheck.firstFailing_some {k : LineCheck} {i : Fin 16} (hi : k.failedPasses[i] ≠ 0)
    (hlow : ∀ j < i, k.failedPasses[j] = 0) : k.firstFailing = some i :=
  find?_finRange_eq_some (bne_iff_ne.mpr hi) fun j hj => by simp [hlow j hj]

theorem LineCheck.bytes_eq (k : LineCheck) : k.bytes =
    [k.state.code, byteOf k.completed, byteOf k.requested]
    ++ presence 3 (fun i : Fin 16 => numberByte i ++ twoBytes k.failedPasses[i]) k.firstFailing
    ++ byteOf ((List.finRange 16).filter fun i => k.answered[i]).length ::
      ((List.finRange 16).filter fun i => k.answered[i]).map fun i => byteOf i.val :=
  congrArg _ (listBytes_byte (fun i : Fin 16 => byteOf i.val) _)

/-! ### The records of the rack and the zones (R114, R132, R208) -/

theorem Arbiter.bytes_eq (r : Arbiter) : r.code ++ r.flags =
    match r with
    | .free => List.replicate 8 0
    | .granted a acknowledged inside ended => [1, armByte a, 1, yesNo acknowledged, 1, yesNo inside, 1, yesNo ended]
    | .lockedOut => 2 :: List.replicate 7 0 := by
  cases r <;> rfl

theorem foreignByte_eq (b : Bool) : foreignByte b = yesNo (!b) := by cases b <;> rfl

theorem State.pocketBytes_eq (p : Fin 20) : s.pocketBytes p =
    [(s.pocket p).state.code] ++ presence 24 boxBytes (s.pocket p).dock.zero
      ++ presence 24 boxBytes (s.pocket p).dock.one ++ [yesNo (s.pocket p).occupied, yesNo (s.pocket p).sense]
      ++ (if (s.pocket p).state = .vacant then [0, 0] else [1, yesNo (s.expected p)])
      ++ [yesNo (!(s.pocket p).foreignMark), (s.pocket p).lid.code, yesNo (s.pocket p).drive]
      ++ presence 4 natBytes (s.pocket p).timer := by
  have hexpected : presence 1 (fun b => [yesNo b])
      (if (s.pocket p).state = .vacant then none else some (s.expected p)) =
      if (s.pocket p).state = .vacant then [0, 0] else [1, yesNo (s.expected p)] := by
    split <;> rfl
  rw [← hexpected, ← foreignByte_eq]
  rfl

theorem ZoneKind.codes_eq (k : ZoneKind) : [k.code, k.armCode] =
    match k with
    | .forbidden => [0, 0xFF]
    | .privateTo b => [1, armByte b]
    | .shared _ => [2, 0xFF]
    | .rack => [3, 0xFF] := by
  cases k <;> rfl

theorem ZoneKind.claimant_byte (k : ZoneKind) : (k.claimant.map armByte).getD 0xFF =
    match k with
    | .shared (some b) => armByte b
    | _ => 0xFF := by
  rcases k with _ | _ | (_ | _) | _ <;> rfl

theorem State.zoneRecord_none {z : Fin 16} (h : s.zone z = none) : s.zoneRecord z = [byteOf z.val, 0] := by
  have htable : s.zones.table[z] = none := h
  rw [State.zoneRecord, htable]

theorem State.zoneRecord_some {z : Fin 16} {r : Zone} (h : s.zone z = some r) : s.zoneRecord z =
    [byteOf z.val, if r.suspended then 2 else 1]
      ++ (match r.kind with
          | .forbidden => [0, 0xFF]
          | .privateTo b => [1, armByte b]
          | .shared _ => [2, 0xFF]
          | .rack => [3, 0xFF])
      ++ boxBytes r.box ++ intBytes r.margin
      ++ [match r.kind with
          | .shared (some b) => armByte b
          | _ => 0xFF]
      ++ [zoneSets (s.zones.hold.get .zero) z, if s.oneArm then 0 else zoneSets (s.zones.hold.get .one) z] := by
  have htable : s.zones.table[z] = some r := h
  rw [State.zoneRecord, htable, ← ZoneKind.codes_eq, ← ZoneKind.claimant_byte]
  simp only [List.cons_append, List.nil_append, List.append_assoc]

/-- The tip whose home is a pocket, when at most one record has it. -/
theorem State.tipWithHome_eq {p : Fin 20} {home : Option (Fin 64)}
    (h : ∀ i, home = some i ↔ ∃ t, s.library.tips[i] = .active t ∧ t.home = p) : s.tipWithHome p = home :=
  State.findTip_eq fun i => (h i).trans (by simp only [beq_iff_eq])

/-! ### The answers (R37, R59, R63, R72, R74, R94, R120, R132, R159, R174, R180, R208) -/

theorem changeRead_payload {arm : Byte} (ha : arm.toNat = a.toNat) (c : Change) (h : Head) :
    c.bytes a ++ h.bytes =
      [c.state.code] ++ presence 1 numberByte c.target ++ presence 1 numberByte c.stowing
        ++ presence 1 numberByte c.current ++ [yesNo c.allow]
        ++ (byteOf c.opened.length :: c.opened.map fun p => byteOf p.val) ++ [yesNo c.stowClose]
        ++ presence 4 natBytes c.timer
        ++ presence 1 (fun r => [r.code]) (if c.state = .reconciling then c.faultResult else none)
        ++ (if c.state = .reconciling then [1, yesNo c.double] else [0, 0])
        ++ presence 2 (fun r => [r.1.code, yesNo r.2]) c.last
        ++ presence 3 (fun r => [arm, (r.target.map fun i => byteOf i.val).getD 0xFF, yesNo r.allow]) c.staged
        ++ c.stagedOutcome.bytes ++ [h.state.code] ++ presence 4 wordBytes h.state.id
        ++ [yesNo h.allowUnqualified, yesNo h.modulePresent, yesNo h.attempt.isSome] := by
  have hopened : listBytes numberByte c.opened = byteOf c.opened.length :: c.opened.map fun p => byteOf p.val :=
    listBytes_byte (fun p : Fin 20 => byteOf p.val) _
  have hdouble : presence 1 (fun d => [yesNo d]) (if c.state = .reconciling then some c.double else none) =
      if c.state = .reconciling then [1, yesNo c.double] else [0, 0] := by
    split <;> rfl
  simp only [Change.bytes, Head.bytes, ChangeRequest.bytes, hopened, hdouble, armByte_of_toNat ha, timerBytes, markByte,
    pinByte, List.append_assoc]

end

/-- Settles O59: each read by the layout of its record. -/
theorem readsAnswerAndChangeNothing : Obligations.ReadsAnswerAndChangeNothing := by
  refine ⟨fun s arm a ht ha hp => ⟨?_, ?_, ?_, ?_⟩, fun s ht => ⟨?_, ?_, ?_, ?_, ?_, ?_, ?_⟩⟩
  · refine read_answered ht (changeReadReq_eq hp ha) ?_
    rw [changeRead_payload ha, StagedOutcome.bytes_eq, HeadState.id_bytes]
    rfl
  · refine read_answered ht (holdReadReq_eq hp ha) ?_
    simp only [HoldRecord.bytes, Causes.bytes, zoneSetBytes, State.claimed_toList, State.holdActive_eq ⟨ht.1, hp⟩]
    rfl
  · intro hblind
    have hr : s.referenced a = false := hblind.elim fun i hi => State.not_referenced hi
    refine read_answered ht (positionReadReq_eq hp ha) ?_
    rw [State.positionBytes_blind hr, hr, axesBytes, AxisRecord.bytes_eq, AxisRecord.bytes_eq, AxisRecord.bytes_eq]
    rfl
  · intro hall tip e hm he
    have hr : s.referenced a = true := State.referenced_iff.mpr ⟨hp, hall⟩
    refine ⟨_, Gathered.checkPoints_areCheckPoints hm he _, read_answered ht (positionReadReq_eq hp ha) ?_⟩
    rw [State.positionBytes_referenced hr rfl, hr, axesBytes, AxisRecord.bytes_eq, AxisRecord.bytes_eq,
      AxisRecord.bytes_eq]
    simp only [if_true, List.append_assoc]
    rfl
  · refine read_answered ht rfl ?_
    simp only [StringControl.scanBytes, timerBytes, List.append_assoc]
    rfl
  · refine read_answered ht rfl ?_
    simp only [allGroups, List.flatMap_cons, List.flatMap_nil, State.groupBytes_eq, State.members_eq]
    simp only [Factors.bytes, axesBytes, List.append_assoc]
    rfl
  · refine read_answered ht rfl ?_
    simp only [Coefficients.bytes, axesBytes, List.append_assoc]
    rfl
  · refine read_answered ht rfl ?_
    rw [Arbiter.bytes_eq]
    rw [listBytes_byte]
    simp only [PocketReport.bytes, timerBytes, List.append_assoc]
    rfl
  · intro string g hg
    have hreq : lineCheckReadReq string s = accept (s.string g).check.bytes s := by
      rw [lineCheckReadReq, sideArg_of_toNat hg]
    refine ⟨fun hnone => read_answered ht hreq ?_, fun i hi hlow => read_answered ht hreq ?_⟩
    · rw [LineCheck.bytes_eq, LineCheck.firstFailing_none hnone]
      rfl
    · rw [LineCheck.bytes_eq, LineCheck.firstFailing_some hi hlow]
      rfl
  · intro pocket p hpocket r box home hhome
    have hreq : pocketReadReq pocket s =
        accept (s.pocketBytes p ++ [yesNo (s.suppressed p)] ++ presence 1 numberByte home) s := by
      rw [pocketReadReq, pocketArg, indexArg_of_val hpocket, ← State.tipWithHome_eq hhome]
    refine read_answered ht hreq ?_
    have hbox (o : Option Box) : presence 24 boxBytes o = box o := by cases o <;> rfl
    rw [State.pocketBytes_eq, hbox, hbox]
    simp only [List.append_assoc]
    rfl
  · intro zone z hz
    have hreq : zoneReadReq zone s = accept (s.zoneRecord z) s := by rw [zoneReadReq, zoneArg, indexArg_of_val hz]
    refine ⟨fun hnone => read_answered ht hreq ?_, fun r hr => read_answered ht hreq ?_⟩
    · rw [State.zoneRecord_none hnone, byteOf_of_toNat hz]
    · rw [State.zoneRecord_some hr, byteOf_of_toNat hz]
      simp only [List.append_assoc]
      rfl

end Sys2Proof.Machine
end

section
/-! PROOF. A step on an empty queue (O2). -/

namespace Sys2Proof.Machine

section
variable {s : State}

/-! ### One millisecond (log 8) -/

theorem step_of_empty (h : s.pending = []) : step s = .next s.tick := by
  unfold step
  rw [h]

theorem State.tick_off (h : s.powered = false) : s.tick = s := by
  unfold State.tick
  rw [if_neg (by simp [h])]

theorem State.tick_frozen (hp : s.powered = true) (hf : s.frz = true) : s.tick = s.tickTouch := by
  simp [State.tick, State.tickTimers, hp, hf]

/-- While FRZ is inactive the scan, grant, lid and step timers run down beside the qualification timers. -/
theorem State.tick_thawed (hp : s.powered = true) (hf : s.frz = false) : s.tick = State.tickTouch { s with
      scanner := { s.scanner with timer := tickTimer s.scanner.timer }
      rack := { s.rack with
        grantTimer := tickTimer s.rack.grantTimer
        pockets := s.rack.pockets.map fun r => { r with timer := tickTimer r.timer } }
      sequencer := { s.sequencer with
        change := s.sequencer.change.map fun c => { c with timer := tickTimer c.timer } } } := by
  simp [State.tick, State.tickTimers, hp, hf]

/-- The qualification timer runs whatever FRZ is (R99). -/
theorem State.tick_touch (hp : s.powered = true) (a : Arm) :
    s.tick.touch.get a = { s.touch.get a with trigger := (s.touch.get a).trigger.older } := by
  cases hf : s.frz
  · rw [State.tick_thawed hp hf, State.tickTouch, Two.get_map]
  · rw [State.tick_frozen hp hf, State.tickTouch, Two.get_map]

end

/-- Settles O2: what runs on an empty queue. -/
theorem emptyQueueStepRunsTimers : Obligations.EmptyQueueStepRunsTimers := by
  intro s hq
  rw [step_of_empty hq]
  refine ⟨fun hp => ⟨s.tick, rfl, fun a => ?_, fun hf => ?_, fun hf => ?_⟩, fun hp => ?_⟩
  · refine (State.tick_touch hp a).trans
      (congrArg (fun st => ({ s.touch.get a with trigger := st } : TouchRecord)) ?_)
    cases (s.touch.get a).trigger <;> rfl
  · rw [State.tick_frozen hp hf]
    rfl
  · rw [State.tick_thawed hp hf]
    refine ⟨rfl, rfl, fun p => ?_, fun a => ?_, rfl, rfl, rfl⟩
    · exact Vector.getElem_map _ p.isLt
    · exact Two.get_map ..
  · rw [State.tick_off hp]

end Sys2Proof.Machine
end

section
/-! PROOF. The settings (O9). -/

namespace Sys2Proof.Machine

section
variable {s : State} {g h : Strg} {w k n : Nat} {f : TempGroup → Bool}

/-! ### The settings table (R204) -/

/-- Every range of the table begins at a number that no range with an end of 1 or more passes. -/
theorem State.settingRange_ordered {x : Setting} (hx : 1 ≤ (s.settingRange x).2) :
    (s.settingRange x).1 ≤ (s.settingRange x).2 := by
  cases x with
  | faultCount g => exact hx
  | _ => simp [State.settingRange]

theorem State.settingClamp_eq {x : Setting} (hx : 1 ≤ (s.settingRange x).2) (v : Word) :
    (s.settingClamp x v : Int) =
      max ((s.settingRange x).1 : Int) (min ((s.settingRange x).2 : Int) v.toInt) := by
  have hle : ((s.settingRange x).1 : Int) ≤ ((s.settingRange x).2 : Int) :=
    Int.ofNat_le.mpr (State.settingRange_ordered hx)
  rw [State.settingClamp, clamp_eq_max_min hle]
  omega

/-- A write counts as clamped when it stores another value, or when a W below K lowers K (R51, R203). -/
theorem State.lowersFaultCount_iff (x : Setting) :
    s.lowersFaultCount x n = true ↔ ∃ g, x = .windowLength g ∧ n < (s.string g).faultCount := by
  cases x <;> simp [State.lowersFaultCount]

/-! ### W and K of a string (R51) -/

theorem State.setWindow_frame : ∃ v x, s.setWindow g w k = { s with scanner := { s.scanner with
    sensors := v, strings := x } } := by
  simp only [State.setWindow]
  split <;> exact ⟨_, _, rfl⟩

theorem State.setWindow_string : (s.setWindow g w k).string h =
    if g = h then { s.string g with windowLength := w, faultCount := k } else s.string h := by
  rw [← State.string_setString]
  simp only [State.setWindow]
  split <;> rfl

theorem State.sensor_emptyWindows (i : Fin 16) : (s.emptyWindows g).sensor h i =
    (s.sensor h i).map fun r => if g = h then { r with window := [] } else r := by
  simp only [State.emptyWindows, State.sensor, Two.get_set]
  split
  · rename_i e
    subst e
    simp
  · simp

/-- A change of W or K empties the windows of the string. -/
theorem State.sensor_setWindow (i : Fin 16) : (s.setWindow g w k).sensor h i =
    (s.sensor h i).map fun r =>
      if g = h ∧ ¬ (w = (s.string g).windowLength ∧ k = (s.string g).faultCount) then { r with window := [] }
      else r := by
  simp only [State.setWindow]
  split
  · rename_i e
    simp only [e, and_self, not_true_eq_false, and_false, if_false, Option.map_id']
    rfl
  · rename_i e
    rw [State.sensor_emptyWindows]
    simp only [e, not_false_eq_true, and_true]
    rfl

/-! ### Groups that become STALE (R70, R78, R79) -/

theorem State.takeFactors_frame (c : Factors) :
    ∃ d, s.takeFactors c = { s with comp := { s.comp with factors := c, formationDue := d } } := by
  simp only [State.takeFactors]
  split <;> split <;> exact ⟨_, rfl⟩

theorem State.makeStale_none (hf : ∀ x, f x = false) : s.makeStale f = s := by
  simp [State.makeStale, hf]

/-- Where a group is named, the groups named become STALE, GROUP is raised, and the factors follow. -/
theorem State.makeStale_some {x : TempGroup} (hx : f x = true) : ∃ d r, s.makeStale f = { s with
      scanner := { s.scanner with groups := s.scanner.groups.stale f }
      comp := { s.comp with factors := (allGroups.filter f).foldl Factors.stale s.comp.factors, formationDue := d }
      attention := r } ∧ r.sources[12].flag = true := by
  have hne : (allGroups.filter f).isEmpty = false := by
    rw [List.isEmpty_eq_false_iff_exists_mem]
    exact ⟨x, List.mem_filter.mpr ⟨mem_allGroups x, hx⟩⟩
  obtain ⟨r, hr⟩ := (s.setGroups (s.scanner.groups.stale f)).raise_frame .group
  have hflag := State.raise_flag (s.setGroups (s.scanner.groups.stale f)) .group rfl
  obtain ⟨d, hd⟩ := State.takeFactors_frame (s := (s.setGroups (s.scanner.groups.stale f)).raise .group)
    ((allGroups.filter f).foldl Factors.stale s.comp.factors)
  have e : s.makeStale f = ((s.setGroups (s.scanner.groups.stale f)).raise .group).takeFactors
      ((allGroups.filter f).foldl Factors.stale s.comp.factors) := by
    simp only [State.makeStale, hne]
    rfl
  rw [hr] at hflag
  rw [e, hd, hr]
  exact ⟨d, r, rfl, hflag⟩

theorem State.makeStale_frame (f : TempGroup → Bool) : ∃ r c a, s.makeStale f =
    { s with scanner := { s.scanner with groups := r }, comp := c, attention := a } := by
  by_cases hf : ∃ x, f x = true
  · obtain ⟨x, hx⟩ := hf
    obtain ⟨d, r, e, -⟩ := State.makeStale_some (s := s) hx
    exact ⟨_, _, _, e⟩
  · exact ⟨_, _, _, State.makeStale_none (by simpa using hf)⟩

theorem State.makeStale_group (x : TempGroup) : (s.makeStale f).scanner.groups.get x =
    if f x = true then { s.scanner.groups.get x with state := (s.scanner.groups.get x).state.toStale }
    else s.scanner.groups.get x := by
  by_cases hf : ∃ x, f x = true
  · obtain ⟨y, hy⟩ := hf
    obtain ⟨d, r, e, -⟩ := State.makeStale_some (s := s) hy
    rw [e]
    exact Groups.get_mapAll ..
  · rw [not_exists] at hf
    rw [State.makeStale_none (by simpa using hf), if_neg (hf x)]

theorem State.makeStale_factor (x : TempGroup) : (s.makeStale f).comp.factors.at x =
    if f x = true then (s.comp.factors.at x).map Factor.toStale else s.comp.factors.at x := by
  by_cases hf : ∃ x, f x = true
  · obtain ⟨y, hy⟩ := hf
    obtain ⟨d, r, e, -⟩ := State.makeStale_some (s := s) hy
    rw [e]
    simp [Factors.foldl_stale_at _ (allGroups_nodup.filter f), mem_allGroups]
  · rw [not_exists] at hf
    rw [State.makeStale_none (by simpa using hf), if_neg (hf x)]

/-- A group is due when it is HELD and at least as old as the limit (R69). -/
theorem State.groupDue_iff (x : TempGroup) : s.groupDue x = true ↔
    ∃ v m, (s.scanner.groups.get x).state = .held v m ∧ s.scanner.holdLimit ≤ m := by
  unfold State.groupDue
  cases (s.scanner.groups.get x).state <;> simp [GroupState.due]

/-! ### A setting stored (R203) -/

/-- What no setting is about stays. -/
theorem State.storeSetting_frame (x : Setting) :
    (s.storeSetting x n).library.tips = s.library.tips ∧ (s.storeSetting x n).arms = s.arms ∧
      (s.storeSetting x n).zones = s.zones ∧ (s.storeSetting x n).link = s.link := by
  cases x with
  | windowLength g =>
    obtain ⟨v, x, e⟩ := State.setWindow_frame (s := s) (g := g) (w := n) (k := min (s.string g).faultCount n)
    rw [State.storeSetting, e]
    exact ⟨rfl, rfl, rfl, rfl⟩
  | faultCount g =>
    obtain ⟨v, x, e⟩ := State.setWindow_frame (s := s) (g := g) (w := (s.string g).windowLength) (k := n)
    rw [State.storeSetting, e]
    exact ⟨rfl, rfl, rfl, rfl⟩
  | holdLimit =>
    obtain ⟨r, c, a, e⟩ := State.makeStale_frame (s := { s with scanner := { s.scanner with holdLimit := n } })
      (State.groupDue { s with scanner := { s.scanner with holdLimit := n } })
    simp only [State.storeSetting, e, and_self]
  | _ => exact ⟨rfl, rfl, rfl, rfl⟩

/-- The value stored is the setting's. -/
theorem State.settingValue_storeSetting (x : Setting) : (s.storeSetting x n).settingValue x = n := by
  cases x with
  | windowLength g => simp [State.storeSetting, State.settingValue, State.setWindow_string]
  | faultCount g => simp [State.storeSetting, State.settingValue, State.setWindow_string]
  | holdLimit =>
    obtain ⟨r, c, a, e⟩ := State.makeStale_frame (s := { s with scanner := { s.scanner with holdLimit := n } })
      (State.groupDue { s with scanner := { s.scanner with holdLimit := n } })
    simp only [State.storeSetting, State.settingValue, e]
  | qualificationTime a => simp [State.storeSetting, State.settingValue]
  | _ => rfl

/-- A setting whose string is another, or that is no setting of a string, keeps its value beside a write of W and K. -/
theorem State.settingValue_setWindow {j : Setting} (hw : j ≠ .windowLength g) (hk : j ≠ .faultCount g) :
    (s.setWindow g w k).settingValue j = s.settingValue j := by
  obtain ⟨v, x, e⟩ := State.setWindow_frame (s := s) (g := g) (w := w) (k := k)
  cases j with
  | windowLength h =>
    have hne : g ≠ h := fun eg => hw (eg ▸ rfl)
    simp [State.settingValue, State.setWindow_string, hne]
  | faultCount h =>
    have hne : g ≠ h := fun eg => hk (eg ▸ rfl)
    simp [State.settingValue, State.setWindow_string, hne]
  | _ => rw [e]; rfl

/-- Every other setting keeps its value (R203), but for a K that a W lowers (R51). -/
theorem State.settingValue_storeSetting_ne {x j : Setting} (hj : j ≠ x)
    (hk : ∀ g, x = .windowLength g → j ≠ .faultCount g) : (s.storeSetting x n).settingValue j = s.settingValue j := by
  cases x with
  | windowLength g => exact State.settingValue_setWindow hj (hk g rfl)
  | faultCount g =>
    by_cases hw : j = .windowLength g
    · subst hw
      simp [State.storeSetting, State.settingValue, State.setWindow_string]
    · exact State.settingValue_setWindow hw hj
  | holdLimit =>
    obtain ⟨r, c, a, e⟩ := State.makeStale_frame (s := { s with scanner := { s.scanner with holdLimit := n } })
      (State.groupDue { s with scanner := { s.scanner with holdLimit := n } })
    simp only [State.storeSetting, e]
    cases j with
    | holdLimit => exact absurd rfl hj
    | _ => rfl
  | qualificationTime a =>
    cases j with
    | qualificationTime b =>
      have hne : a ≠ b := fun e => hj (e ▸ rfl)
      simp [State.storeSetting, State.settingValue, Two.get_set_ne _ _ hne]
    | _ => rfl
  | _ => cases j <;> simp_all [State.storeSetting, State.settingValue, State.string]

/-- A write that changes the stored W or K of a string empties the windows of that string, and no other write touches a
record (R51). -/
theorem State.sensor_storeSetting (x : Setting) (i : Fin 16) : (s.storeSetting x n).sensor g i =
    (s.sensor g i).map fun r =>
      if (x = .windowLength g ∨ x = .faultCount g) ∧
          (((s.storeSetting x n).string g).windowLength ≠ (s.string g).windowLength ∨
            ((s.storeSetting x n).string g).faultCount ≠ (s.string g).faultCount)
      then { r with window := [] } else r := by
  cases x with
  | windowLength h =>
    simp only [State.storeSetting, State.sensor_setWindow, State.setWindow_string]
    by_cases e : h = g
    · subst e
      simp [imp_iff_not_or]
    · simp [e]
  | faultCount h =>
    simp only [State.storeSetting, State.sensor_setWindow, State.setWindow_string]
    by_cases e : h = g
    · subst e
      simp
    · simp [e]
  | holdLimit =>
    obtain ⟨r, c, a, e⟩ := State.makeStale_frame (s := { s with scanner := { s.scanner with holdLimit := n } })
      (State.groupDue { s with scanner := { s.scanner with holdLimit := n } })
    simp [State.storeSetting, e]
    rfl
  | _ => simp [State.storeSetting]; rfl

theorem State.faultCount_storeSetting :
    ((s.storeSetting (.windowLength g) n).string g).faultCount = min (s.string g).faultCount n := by
  simp [State.storeSetting, State.setWindow_string]

/-- Only the hold limit reaches the groups, their factors and the attention flags. -/
theorem State.storeSetting_measuring {x : Setting} (hx : x ≠ .holdLimit) :
    (s.storeSetting x n).scanner.groups = s.scanner.groups ∧ (s.storeSetting x n).comp = s.comp ∧
      (s.storeSetting x n).attention = s.attention := by
  cases x with
  | windowLength g =>
    obtain ⟨v, x, e⟩ := State.setWindow_frame (s := s) (g := g) (w := n) (k := min (s.string g).faultCount n)
    rw [State.storeSetting, e]
    exact ⟨rfl, rfl, rfl⟩
  | faultCount g =>
    obtain ⟨v, x, e⟩ := State.setWindow_frame (s := s) (g := g) (w := (s.string g).windowLength) (k := n)
    rw [State.storeSetting, e]
    exact ⟨rfl, rfl, rfl⟩
  | holdLimit => exact absurd rfl hx
  | _ => exact ⟨rfl, rfl, rfl⟩

/-! ### The hold limit stored (R70, R78) -/

/-- The group is HELD and has reached the hold limit `n`. -/
def State.DueAt (s : State) (n : Nat) (x : TempGroup) : Prop :=
  ∃ v m, (s.scanner.groups.get x).state = .held v m ∧ n ≤ m

/-- With the limit stored, the groups that are due become STALE. -/
theorem State.storeHoldLimit_eq : ∃ f : TempGroup → Bool, (∀ x, f x = true ↔ s.DueAt n x) ∧
    s.storeSetting .holdLimit n = State.makeStale { s with scanner := { s.scanner with holdLimit := n } } f :=
  ⟨_, fun _ => State.groupDue_iff _, rfl⟩

theorem State.storeHoldLimit_group (x : TempGroup) :
    (∀ v m, (s.scanner.groups.get x).state = .held v m → n ≤ m →
      (s.storeSetting .holdLimit n).scanner.groups.get x =
        { state := .stale v m, contributors := (s.scanner.groups.get x).contributors }) ∧
    (¬ s.DueAt n x → (s.storeSetting .holdLimit n).scanner.groups.get x = s.scanner.groups.get x) := by
  obtain ⟨f, hf, e⟩ := State.storeHoldLimit_eq (s := s) (n := n)
  rw [e, State.makeStale_group]
  refine ⟨fun v m hv hm => ?_, fun hd => if_neg (mt (hf x).mp hd)⟩
  rw [if_pos ((hf x).mpr ⟨v, m, hv, hm⟩)]
  simp [hv, GroupState.toStale]

theorem State.storeHoldLimit_factor (x : TempGroup) :
    (s.DueAt n x → (s.storeSetting .holdLimit n).comp.factors.at x = (s.comp.factors.at x).map Factor.toStale) ∧
    (¬ s.DueAt n x → (s.storeSetting .holdLimit n).comp.factors.at x = s.comp.factors.at x) := by
  obtain ⟨f, hf, e⟩ := State.storeHoldLimit_eq (s := s) (n := n)
  rw [e, State.makeStale_factor]
  exact ⟨fun hd => if_pos ((hf x).mpr hd), fun hd => if_neg (mt (hf x).mp hd)⟩

/-- GROUP is raised if a group is due; if none is, no factor and no flag changes. -/
theorem State.storeHoldLimit_flag :
    ((∃ x, s.DueAt n x) → (s.storeSetting .holdLimit n).attention.sources[12].flag = true) ∧
    ((∀ x, ¬ s.DueAt n x) → (s.storeSetting .holdLimit n).comp = s.comp ∧
      (s.storeSetting .holdLimit n).attention = s.attention) := by
  obtain ⟨f, hf, e⟩ := State.storeHoldLimit_eq (s := s) (n := n)
  rw [e]
  refine ⟨fun ⟨x, hx⟩ => ?_, fun hd => ?_⟩
  · obtain ⟨d, r, er, hflag⟩ :=
      State.makeStale_some (s := { s with scanner := { s.scanner with holdLimit := n } }) ((hf x).mpr hx)
    rw [er]
    exact hflag
  · rw [State.makeStale_none fun x => Bool.eq_false_iff.mpr (mt (hf x).mp (hd x))]
    exact ⟨rfl, rfl⟩

/-! ### SETTING_WRITE and SETTING_READ (R203, R204) -/

theorem settingWriteReq_stored {number : Byte} {x : Setting} {v : Word} (hx : settingArg number = some x)
    (hp : s.settingAbsent x = false) : settingWriteReq number v s =
      { status := if decide ((s.settingClamp x v : Int) ≠ v.toInt) || s.lowersFaultCount x (s.settingClamp x v)
          then .clamped else .ok,
        payload := number :: natBytes (s.settingClamp x v),
        state := s.storeSetting x (s.settingClamp x v) } := by
  simp only [settingWriteReq, hx, hp, settingWriteBody, State.settingValue_storeSetting, okOr]
  rfl

theorem settingReadReq_read {number : Byte} {x : Setting} (hx : settingArg number = some x)
    (hp : s.settingAbsent x = false) :
    settingReadReq number s = { status := .ok, payload := number :: natBytes (s.settingValue x), state := s } := by
  simp [settingReadReq, hx, hp, accept]

end

/-- Settles O9: the table, the value stored by a write, and the value a read answers. -/
theorem settingsAreClampedStoredAndRead : Obligations.SettingsAreClampedStoredAndRead := by
  refine ⟨⟨fun s => rfl, fun b hb => settingArg_none (.inr hb), by decide⟩, fun s number x v ht hx hp hhi => ?_⟩
  refine ⟨s.storeSetting x (s.settingClamp x v), s.settingClamp x v, _,
    request_answered ht (settingWriteReq_stored hx hp), State.settingClamp_eq hhi v, ?_, State.settingValue_storeSetting x,
    fun g hg => ?_, fun j => State.settingValue_storeSetting_ne, ?_⟩
  · rw [Bool.or_eq_true, decide_eq_true_iff, State.lowersFaultCount_iff]
  · subst hg
    exact State.faultCount_storeSetting
  · obtain ⟨htips, harms, hzones, hlink⟩ := State.storeSetting_frame (s := s) (n := s.settingClamp x v) x
    refine ⟨htips, harms, hzones, hlink, fun g i => State.sensor_storeSetting x i, State.storeSetting_measuring,
      fun hlimit => ?_, fun r hr hrp => request_answered hr (settingReadReq_read hx hrp)⟩
    subst hlimit
    refine ⟨State.storeHoldLimit_group, fun a i => ⟨fun hd => ?_, fun hd => ?_⟩, fun hd => ?_, fun hd => ?_, ?_, ?_⟩
    · exact Option.some.inj ((State.storeHoldLimit_factor (.scale a i)).1 hd)
    · exact Option.some.inj ((State.storeHoldLimit_factor (.scale a i)).2 hd)
    · exact Option.some.inj ((State.storeHoldLimit_factor .workpiece).1 hd)
    · exact Option.some.inj ((State.storeHoldLimit_factor .workpiece).2 hd)
    · exact State.storeHoldLimit_flag.1
    · exact State.storeHoldLimit_flag.2

end Sys2Proof.Machine
end

section
/-! SUPPORT. The rules of the strings (spec 03): what a sweep end leaves, how a string goes on, and what the end of a
transaction does to the sensor records and to the line check. -/

namespace Sys2Proof.Machine

section
variable {s t : State} {g h : Strg} {i : Fin 16} {last : Option (Fin 16)}

/-! ### The records of the strings -/

@[simp] theorem State.setString_self : s.setString g (s.string g) = s := by
  simp only [State.setString, State.string, Two.set_get_same]

theorem State.sensor_setSensor (j : Fin 16) (v : Option Sensor) : (s.setSensor g i v).sensor h j =
    if g = h ∧ i = j then v else s.sensor h j := by
  simp only [State.sensor, State.setSensor_scanner, Two.get_set]
  by_cases e : g = h
  · subst e
    simp only [true_and, if_true]
    exact upd_get ..
  · simp [e]

@[simp] theorem State.sensor_setString (v : StringControl) : (s.setString g v).sensor h i = s.sensor h i := rfl

@[simp] theorem State.string_setSensor (v : Option Sensor) : (s.setSensor g i v).string h = s.string h := rfl

theorem Strg.eq_or_other (g h : Strg) : h = g ∨ h = g.other := by cases g <;> cases h <;> simp [Side.other]

/-- A record the sweep reads: ACTIVE or FAILED (R43). -/
theorem Sensor.readable_iff (r : Sensor) : r.readable = true ↔ r.state ≠ .retired := bne_iff_ne

theorem Sensor.readable_eq_false_iff (r : Sensor) : r.readable = false ↔ r.state = .retired := by
  rw [← Bool.not_eq_true, Sensor.readable_iff, not_not]

theorem readable_any_eq_false_iff {o : Option Sensor} :
    o.any Sensor.readable = false ↔ ∀ r, o = some r → r.state = .retired := by
  cases o <;> simp [Sensor.readable_eq_false_iff]

/-! ### A sweep end (R55, R57, R67 to R70, R78) -/

/-- `t` is `s`, or `s` after a sweep end: the groups, the factors, the tip entries and the scan may differ; the sensors and
the strings do not, and no flag is lost. -/
structure Swept (s t : State) : Prop where
  sensors : t.scanner.sensors = s.scanner.sensors
  strings : t.scanner.strings = s.scanner.strings
  mode : t.scanner.mode = s.scanner.mode
  period : t.scanner.period = s.scanner.period
  overruns : t.scanner.overruns = s.scanner.overruns
  frame : { t with scanner := s.scanner, comp := s.comp, library := s.library, attention := s.attention } = s
  flags : ∀ j : Fin 14, s.attention.sources[j].flag = true → t.attention.sources[j].flag = true

theorem Swept.refl (s : State) : Swept s s := ⟨rfl, rfl, rfl, rfl, rfl, rfl, fun _ => id⟩

theorem Swept.sensor (w : Swept s t) (g : Strg) (i : Fin 16) : t.sensor g i = s.sensor g i := by
  rw [State.sensor, w.sensors, State.sensor]

theorem Swept.string (w : Swept s t) (g : Strg) : t.string g = s.string g := by
  rw [State.string, w.strings, State.string]

theorem Swept.frz (w : Swept s t) : t.frz = s.frz := by
  have h := congrArg State.frz w.frame
  exact h

theorem State.ageArm_frame (a : Arm) : ∃ l, (s.ageArm a).2 = { s with library := l } := by
  unfold State.ageArm
  split
  · split
    · exact ⟨_, rfl⟩
    · exact ⟨_, rfl⟩
  · exact ⟨_, rfl⟩

/-- Drift ageing touches the library, and raises TIP if it raises anything (R22). -/
theorem State.driftAge_cases : ∃ l, s.driftAge = { s with library := l } ∨
    s.driftAge = ({ s with library := l } : State).raise .tip := by
  obtain ⟨l, hl⟩ := s.ageArm_frame .zero
  obtain ⟨m, hm⟩ := (s.ageArm .zero).2.ageArm_frame .one
  refine ⟨m, ?_⟩
  simp only [State.driftAge]
  rw [hm, hl]
  split
  · exact .inr rfl
  · exact .inl rfl

theorem State.driftAge_swept : Swept s s.driftAge := by
  obtain ⟨l, e | e⟩ := s.driftAge_cases <;> rw [e]
  · exact ⟨rfl, rfl, rfl, rfl, rfl, rfl, fun _ => id⟩
  · have hflags (j : Fin 14) := State.raise_keeps_flag (s := { s with library := l }) .tip (j := j)
    obtain ⟨r, hr⟩ := ({ s with library := l } : State).raise_frame .tip
    rw [hr] at hflags ⊢
    exact ⟨rfl, rfl, rfl, rfl, rfl, rfl, hflags⟩

theorem Swept.trans {u : State} (w : Swept s t) (x : Swept t u) : Swept s u := by
  obtain ⟨h1, h2, h3, h4, h5, h6, h7⟩ := w
  obtain ⟨k1, k2, k3, k4, k5, k6, k7⟩ := x
  refine ⟨k1.trans h1, k2.trans h2, k3.trans h3, k4.trans h4, k5.trans h5, ?_, fun j hj => k7 j (h7 j hj)⟩
  rw [← k6] at h6
  exact h6

theorem State.sweepEnd_swept : Swept s s.sweepEnd := by
  have hform : Swept s s.formGroups.recompute := by
    obtain ⟨d, e⟩ := State.takeFactors_frame (s := s.formGroups)
      (formFactors s.formGroups.comp.coefficients s.formGroups.scanner.groups)
    rw [State.recompute, e]
    exact ⟨rfl, rfl, rfl, rfl, rfl, rfl, fun _ => id⟩
  have hscan (u : State) : Swept u u.scanTransition := by
    unfold State.scanTransition
    split <;> exact ⟨rfl, rfl, rfl, rfl, rfl, rfl, fun _ => id⟩
  exact (hform.trans State.driftAge_swept).trans (hscan _)

theorem State.endIfSwept_swept : Swept s s.endIfSwept := by
  unfold State.endIfSwept
  split
  · exact State.sweepEnd_swept
  · exact .refl s

theorem State.scanTransition_scan : (s.scanTransition.scanner.state, s.scanTransition.scanner.timer) =
    if s.scanner.state = .sweeping ∧ s.scanner.mode = .continuous then (.waiting, s.scanner.timer)
    else (.stopped, none) := by
  unfold State.scanTransition
  split <;> rfl

/-- The scan after a sweep end (R57). -/
theorem State.sweepEnd_scan : (s.sweepEnd.scanner.state, s.sweepEnd.scanner.timer) =
    if s.scanner.state = .sweeping ∧ s.scanner.mode = .continuous then (.waiting, s.scanner.timer)
    else (.stopped, none) := by
  have hdrift (u : State) : u.driftAge.scanner = u.scanner := by
    obtain ⟨l, el | el⟩ := u.driftAge_cases <;> rw [el]
    obtain ⟨r, hr⟩ := ({ u with library := l } : State).raise_frame .tip
    rw [hr]
  obtain ⟨d, e⟩ := State.takeFactors_frame (s := s.formGroups)
    (formFactors s.formGroups.comp.coefficients s.formGroups.scanner.groups)
  rw [State.sweepEnd, State.scanTransition_scan, hdrift, State.recompute, e]
  rfl

/-! ### The next address (R54) -/

theorem State.mayBegin_iff : s.mayBegin g = true ↔ s.frz = false ∧ (s.string g).limit = false := by
  simp [State.mayBegin]

theorem State.mayBegin_eq_false_iff : s.mayBegin g = false ↔ s.frz = true ∨ (s.string g).limit = true := by
  cases hf : s.frz <;> cases hl : (s.string g).limit <;> simp [State.mayBegin, hf, hl]

/-- The lowest registered address above the last one read is read next. -/
theorem State.nextAddress_some {r : Sensor} (hr : s.sensor g i = some r) (hreg : r.state ≠ .retired)
    (habove : ∀ l, last = some l → l < i)
    (hlow : ∀ j < i, (∀ l, last = some l → l < j) → ∀ q, s.sensor g j = some q → q.state = .retired) :
    s.nextAddress g last = some i := by
  refine find?_finRange_eq_some ?_ fun j hj => ?_
  · cases last with
    | none => simp [hr, Sensor.readable_iff, hreg]
    | some l => simp [hr, Sensor.readable_iff, hreg, habove l rfl]
  · cases last with
    | none => simpa [readable_any_eq_false_iff] using hlow j hj
    | some l =>
      by_cases hl : l < j
      · simpa [readable_any_eq_false_iff, hl] using hlow j hj (fun k hk => by cases hk; exact hl)
      · simp [hl]

/-- Without a registered address above the last one read, none is read. -/
theorem State.nextAddress_none
    (hnone : ∀ j, (∀ l, last = some l → l < j) → ∀ q, s.sensor g j = some q → q.state = .retired) :
    s.nextAddress g last = none := by
  refine List.find?_eq_none.mpr fun j _ => ?_
  cases last with
  | none => simpa [readable_any_eq_false_iff] using hnone j (by simp)
  | some l =>
    by_cases hl : l < j
    · simpa [readable_any_eq_false_iff, hl] using hnone j (fun k hk => by cases hk; exact hl)
    · simp [hl]

/-! ### How a string goes on (R54, R60 to R62, R65) -/

theorem State.kickCheck_cases :
    ((s.string g).check.state = .running ∧ s.mayBegin g = true ∧ s.kickCheck g = s.setString g { s.string g with
        transaction := some { address := (s.string g).check.next, owner := .lineCheck, stale := false }
        pass := .ended }) ∨
    (¬ ((s.string g).check.state = .running ∧ s.mayBegin g = true) ∧ s.kickCheck g = s) := by
  simp only [State.kickCheck]
  split <;> rename_i hc
  · exact .inl ⟨hc.1, hc.2, rfl⟩
  · exact .inr ⟨hc, rfl⟩

/-- A string goes on in its transaction and its pass alone. -/
theorem State.kick_frame (g : Strg) :
    ∃ x p, s.kick g = s.setString g { s.string g with transaction := x, pass := p } := by
  have hself : ∃ x p, s = s.setString g { s.string g with transaction := x, pass := p } :=
    ⟨_, _, State.setString_self.symm⟩
  have hcheck (u : State) : ∃ x p, u.kickCheck g = u.setString g { u.string g with transaction := x, pass := p } := by
    rcases State.kickCheck_cases (s := u) (g := g) with ⟨-, -, e⟩ | ⟨-, e⟩ <;> rw [e]
    · exact ⟨_, _, rfl⟩
    · exact ⟨_, _, State.setString_self.symm⟩
  simp only [State.kick]
  split
  · exact hself
  · split
    · exact hcheck s
    · split
      · obtain ⟨x, p, e⟩ := hcheck (s.setString g { s.string g with pass := .ended })
        rw [e]
        refine ⟨x, p, ?_⟩
        cases g <;> rfl
      · split
        · exact ⟨_, _, rfl⟩
        · exact hself

@[simp] theorem State.kick_sensor : (s.kick g).sensor h i = s.sensor h i := by
  obtain ⟨x, p, e⟩ := s.kick_frame g
  rw [e]
  rfl

@[simp] theorem State.kick_frz : (s.kick g).frz = s.frz := by
  obtain ⟨x, p, e⟩ := s.kick_frame g
  rw [e]
  rfl

@[simp] theorem State.kick_attention : (s.kick g).attention = s.attention := by
  obtain ⟨x, p, e⟩ := s.kick_frame g
  rw [e]
  rfl

theorem State.kick_sensors : (s.kick g).scanner.sensors = s.scanner.sensors := by
  obtain ⟨x, p, e⟩ := s.kick_frame g
  rw [e]
  rfl

theorem State.kick_scanner : { (s.kick g).scanner with strings := s.scanner.strings } = s.scanner := by
  obtain ⟨x, p, e⟩ := s.kick_frame g
  rw [e]
  rfl

theorem State.kick_others : { s.kick g with scanner := s.scanner } = s := by
  obtain ⟨x, p, e⟩ := s.kick_frame g
  rw [e]
  rfl

theorem State.kick_string_ne (hne : g ≠ h) : (s.kick g).string h = s.string h := by
  obtain ⟨x, p, e⟩ := s.kick_frame g
  rw [e, State.string_setString, if_neg hne]

@[simp] theorem State.kick_check : ((s.kick g).string h).check = (s.string h).check := by
  obtain ⟨x, p, e⟩ := s.kick_frame g
  rw [e, State.string_setString]
  split
  · rename_i e
    rw [e]
  · rfl

@[simp] theorem State.kick_limit : ((s.kick g).string h).limit = (s.string h).limit := by
  obtain ⟨x, p, e⟩ := s.kick_frame g
  rw [e, State.string_setString]
  split
  · rename_i e
    rw [e]
  · rfl

/-- A string with a transaction in flight waits for its end. -/
theorem State.kick_of_transaction {x : Transaction} (hx : (s.string g).transaction = some x) : s.kick g = s := by
  simp [State.kick, hx]

/-- A pass reads its next address (R54). -/
theorem State.kick_reads (hx : (s.string g).transaction = none) (hp : (s.string g).pass = .reading last)
    (hn : s.nextAddress g last = some i) (hb : s.mayBegin g = true) :
    (s.kick g).string g = { s.string g with
      transaction := some { address := i, owner := .sweep, stale := false }, pass := .reading (some i) } := by
  simp [State.kick, hx, hp, hn, hb, State.begin]

/-- A pass with an address to read does not end (R54, R60, R65). -/
theorem State.kick_pass_goes_on (hx : (s.string g).transaction = none) (hp : (s.string g).pass = .reading last)
    (hn : s.nextAddress g last = some i) : ((s.kick g).string g).pass ≠ .ended := by
  cases hb : s.mayBegin g with
  | true => simp [State.kick_reads hx hp hn hb]
  | false =>
    have e : s.kick g = s := by simp [State.kick, hx, hp, hn, hb]
    simp [e, hp]

/-- The string has no pass, and its line check, if one runs, reads its next address unless it is held back. -/
def ServesCheck (s : State) (g : Strg) (c : StringControl) : Prop :=
  c.pass = .ended ∧
  ((s.string g).check.state = .running → s.frz = false → (s.string g).limit = false →
    c.transaction = some { address := (s.string g).check.next, owner := .lineCheck, stale := false }) ∧
  ((s.string g).check.state ≠ .running → c.transaction = none)

theorem State.kickCheck_serves (hx : (s.string g).transaction = none) (hp : (s.string g).pass = .ended) :
    ServesCheck s g ((s.kickCheck g).string g) := by
  rcases State.kickCheck_cases (s := s) (g := g) with ⟨hr, hb, e⟩ | ⟨hn, e⟩
  · rw [e, State.string_setString, if_pos rfl]
    exact ⟨rfl, fun _ _ _ => rfl, fun hne => absurd hr hne⟩
  · rw [e]
    exact ⟨hp, fun hr hf hl => absurd ⟨hr, State.mayBegin_iff.mpr ⟨hf, hl⟩⟩ hn, fun _ => hx⟩

/-- A string whose pass has ended serves its line check (R61, R62). -/
theorem State.kick_serves (hx : (s.string g).transaction = none) (hp : (s.string g).pass = .ended) :
    ServesCheck s g ((s.kick g).string g) := by
  have e : s.kick g = s.kickCheck g := by simp [State.kick, hx, hp]
  rw [e]
  exact State.kickCheck_serves hx hp

theorem State.kick_last (hx : (s.string g).transaction = none) (hp : (s.string g).pass = .reading last)
    (hn : s.nextAddress g last = none) :
    s.kick g = (s.setString g { s.string g with pass := .ended }).kickCheck g := by
  simp [State.kick, hx, hp, hn]

/-- A pass without an address to read ends, and the line check is served (R54, R61). -/
theorem State.kick_ends_pass (hx : (s.string g).transaction = none) (hp : (s.string g).pass = .reading last)
    (hn : s.nextAddress g last = none) : ServesCheck s g ((s.kick g).string g) := by
  have hstring : (s.setString g { s.string g with pass := .ended }).string g = { s.string g with pass := .ended } := by
    simp
  have hc := State.kickCheck_serves (s := s.setString g { s.string g with pass := .ended }) (g := g)
    (by rw [hstring]; exact hx) (by rw [hstring])
  rw [State.kick_last hx hp hn]
  simpa only [ServesCheck, hstring, State.setString_frz] using hc

/-- While FRZ is active or the limit runs, no transaction begins (R60, R65). -/
theorem State.kick_waits (hx : (s.string g).transaction = none) (hb : s.frz = true ∨ (s.string g).limit = true) :
    ((s.kick g).string g).transaction = none := by
  have hb : s.mayBegin g = false := State.mayBegin_eq_false_iff.mpr hb
  have hcheck (u : State) (hu : u.mayBegin g = false) : u.kickCheck g = u := by simp [State.kickCheck, hu]
  cases hp : (s.string g).pass with
  | ended =>
    have e : s.kick g = s.kickCheck g := by simp [State.kick, hx, hp]
    rw [e, hcheck s hb, hx]
  | reading last =>
    cases hn : s.nextAddress g last with
    | some i =>
      have e : s.kick g = s := by simp [State.kick, hx, hp, hn, hb]
      rw [e, hx]
    | none =>
      have hb' : (s.setString g { s.string g with pass := .ended }).mayBegin g = false := by
        simpa [State.mayBegin] using hb
      rw [State.kick_last hx hp hn, hcheck _ hb']
      simpa using hx

/-- A string goes on, and then at most a sweep end follows. -/
theorem State.goOn_swept : Swept (s.kick g) (s.goOn g) := State.endIfSwept_swept

@[simp] theorem State.goOn_sensor : (s.goOn g).sensor h i = s.sensor h i := by
  rw [State.goOn_swept.sensor, State.kick_sensor]

theorem State.goOn_string : (s.goOn g).string h = (s.kick g).string h := State.goOn_swept.string h

theorem State.goOn_sensors : (s.goOn g).scanner.sensors = s.scanner.sensors :=
  State.goOn_swept.sensors.trans State.kick_sensors

theorem State.goOn_keeps_flag {j : Fin 14} (hj : s.attention.sources[j].flag = true) :
    (s.goOn g).attention.sources[j].flag = true :=
  State.goOn_swept.flags j (by rwa [State.kick_attention])

/-! ### The end of a transaction (R41) -/

/-- The line is free. -/
def State.freeLine (s : State) (g : Strg) : State := s.setString g { s.string g with transaction := none }

@[simp] theorem State.freeLine_string : (s.freeLine g).string g = { s.string g with transaction := none } := by
  simp [State.freeLine]

@[simp] theorem State.freeLine_sensor : (s.freeLine g).sensor h i = s.sensor h i := rfl

theorem State.transactionEnds_none {e : LineEnd} (hx : (s.string g).transaction = none) : s.transactionEnds g e = s := by
  simp [State.transactionEnds, hx]

theorem State.transactionEnds_sweep {x : Transaction} {e : LineEnd} (hx : (s.string g).transaction = some x)
    (ho : x.owner = .sweep) : s.transactionEnds g e = ((s.freeLine g).sweepReading g x e).goOn g := by
  simp only [State.transactionEnds, hx, ho]
  rfl

theorem State.transactionEnds_lineCheck {x : Transaction} {e : LineEnd} (hx : (s.string g).transaction = some x)
    (ho : x.owner = .lineCheck) : s.transactionEnds g e = ((s.freeLine g).checkReading g x e).goOn g := by
  simp only [State.transactionEnds, hx, ho]
  rfl

/-! ### A sweep's reading (R42, R43, R49 to R53) -/

/-- A sweep's reading touches the record read, and may raise SENSOR. -/
theorem State.sweepReading_frame (x : Transaction) (e : LineEnd) : ∃ v r, s.sweepReading g x e =
    { s.setSensor g x.address v with attention := r } := by
  have hself : s = { s.setSensor g x.address (s.sensor g x.address) with attention := s.attention } := by
    cases g <;> simp [State.setSensor, State.sensor, upd]
  simp only [State.sweepReading]
  split
  · exact ⟨_, _, hself⟩
  · split
    · exact ⟨_, _, hself⟩
    · rename_i q _ _
      split
      · obtain ⟨r, hr⟩ := (s.setSensor g x.address (some (q.take (s.string g).windowLength (s.string g).faultCount
          (classify q.trim e)))).raise_frame .sensor
        rw [hr]
        exact ⟨_, _, rfl⟩
      · exact ⟨_, _, rfl⟩

@[simp] theorem State.sweepReading_string (x : Transaction) (e : LineEnd) :
    (s.sweepReading g x e).string h = s.string h := by
  obtain ⟨v, r, hr⟩ := State.sweepReading_frame (s := s) (g := g) x e
  rw [hr]
  rfl

@[simp] theorem State.sweepReading_frz (x : Transaction) (e : LineEnd) : (s.sweepReading g x e).frz = s.frz := by
  obtain ⟨v, r, hr⟩ := State.sweepReading_frame (s := s) (g := g) x e
  rw [hr]
  rfl

theorem State.sweepReading_sensor_ne (x : Transaction) (e : LineEnd) (hne : (h, i) ≠ (g, x.address)) :
    (s.sweepReading g x e).sensor h i = s.sensor h i := by
  obtain ⟨v, r, hr⟩ := State.sweepReading_frame (s := s) (g := g) x e
  have hs := State.sensor_setSensor (s := s) (g := g) (i := x.address) (h := h) i v
  rw [if_neg fun ⟨hg, hi⟩ => hne (by rw [hg, hi])] at hs
  rw [hr, ← hs]
  rfl

/-- A stale transaction, and one whose record is no longer registered, change nothing (R43). -/
theorem State.sweepReading_ignored {x : Transaction} {e : LineEnd}
    (hx : x.stale = true ∨ ∀ r, s.sensor g x.address = some r → r.state = .retired) : s.sweepReading g x e = s := by
  unfold State.sweepReading
  split
  · rfl
  · rename_i r hr
    have hc : x.stale = true ∨ (!r.readable) = true := by
      simpa [Sensor.readable_eq_false_iff] using hx.imp_right fun hx => hx r hr
    exact if_pos hc

/-- The record of a registered sensor takes the reading. -/
theorem State.sweepReading_takes {x : Transaction} {r : Sensor} (e : LineEnd) (hr : s.sensor g x.address = some r)
    (hreg : r.state ≠ .retired) (hx : x.stale = false) :
    (s.sweepReading g x e).sensor g x.address =
      some (r.take (s.string g).windowLength (s.string g).faultCount (classify r.trim e)) := by
  have hc : ¬ (x.stale = true ∨ (!r.readable) = true) := by simp [hx, (Sensor.readable_iff r).mpr hreg]
  simp only [State.sweepReading, hr, if_neg hc]
  split
  · obtain ⟨a, ha⟩ := (s.setSensor g x.address (some (r.take (s.string g).windowLength (s.string g).faultCount
      (classify r.trim e)))).raise_frame .sensor
    rw [ha]
    exact (State.sensor_setSensor ..).trans (if_pos ⟨rfl, rfl⟩)
  · exact (State.sensor_setSensor ..).trans (if_pos ⟨rfl, rfl⟩)

/-- A sensor that becomes FAILED raises SENSOR (R52). -/
theorem State.sweepReading_raises {x : Transaction} {r : Sensor} {e : LineEnd} (hr : s.sensor g x.address = some r)
    (hactive : r.state = .active) (hx : x.stale = false)
    (hfailed : (r.take (s.string g).windowLength (s.string g).faultCount (classify r.trim e)).state = .failed) :
    (s.sweepReading g x e).attention.sources[11].flag = true := by
  have hc : ¬ (x.stale = true ∨ (!r.readable) = true) := by simp [hx, Sensor.readable, hactive]
  simp only [State.sweepReading, hr, if_neg hc, hactive, hfailed, and_self, if_true]
  exact State.raise_flag _ .sensor rfl

/-! ### A line check's reading (R62, R63) -/

/-- The line check after a reading: what is noted, and where the check goes on. -/
def State.checkAfter (s : State) (g : Strg) (x : Transaction) (e : LineEnd) : LineCheck :=
  ((s.string g).check.note x.address ((s.sensor g x.address).filter Sensor.readable).isSome
    (classify ((((s.sensor g x.address).filter Sensor.readable).map Sensor.trim).getD 0) e)).advance x.address

/-- A line check's reading touches the check, and may raise LINE_CHECK. -/
theorem State.checkReading_frame (x : Transaction) (e : LineEnd) : ∃ r, s.checkReading g x e =
    { s.setCheck g (s.checkAfter g x e) with attention := r } := by
  simp only [State.checkReading, State.checkAfter]
  split
  · exact ⟨_, rfl⟩
  · obtain ⟨r, hr⟩ := (s.setCheck g (s.checkAfter g x e)).raise_frame .lineCheck
    exact ⟨r, hr⟩

theorem State.checkReading_string (x : Transaction) (e : LineEnd) :
    (s.checkReading g x e).string g = { s.string g with check := s.checkAfter g x e } := by
  obtain ⟨r, hr⟩ := State.checkReading_frame (s := s) (g := g) x e
  rw [hr]
  exact (State.string_setString ..).trans (if_pos rfl)

theorem State.checkReading_raises {x : Transaction} {e : LineEnd} (hc : (s.checkAfter g x e).state ≠ .running) :
    (s.checkReading g x e).attention.sources[13].flag = true := by
  have he : s.checkReading g x e = (s.setCheck g (s.checkAfter g x e)).raise .lineCheck := if_neg hc
  rw [he]
  exact State.raise_flag _ .lineCheck rfl

end

end Sys2Proof.Machine
end

section
/-! PROOF. SENSOR_WRITE, SENSOR_RETIRE and SENSOR_READ (O25). -/

namespace Sys2Proof.Machine

section
variable {s : State} {g h : Strg} {i j : Fin 16} {b : Option TempGroup} {r : Sensor}

/-! ### The groups a binding names (R46) -/

theorem namesArmOne_iff (k : TempGroup) : namesArmOne k = true ↔ k = .head .one ∨ ∃ n, k = .scale .one n := by
  unfold namesArmOne
  split <;> simp_all

/-- The binding names a group of arm 1 (R46). -/
theorem any_namesArmOne_iff :
    b.any namesArmOne = true ↔ b = some (.head .one) ∨ ∃ n, b = some (.scale .one n) := by
  cases b <;> simp [namesArmOne_iff]

theorem capacity_eq (k : TempGroup) : capacity k = if k = .workpiece then 8 else 4 := by cases k <;> simp [capacity]

theorem memberOf_iff {o : Option Sensor} {k : TempGroup} :
    memberOf o k = true ↔ ∃ r, o = some r ∧ r.binding = some k ∧ r.state ≠ .retired := by
  simp [memberOf, Option.any_eq_true, Sensor.readable]

/-- The capacity test: the record would join a group that has its number of members. -/
theorem State.groupFull_iff (o : Option Sensor) : s.groupFull o b = true ↔
    ∃ k, b = some k ∧ ¬ (∃ r, o = some r ∧ r.binding = some k ∧ r.state ≠ .retired) ∧
      (if k = .workpiece then 8 else 4) ≤ s.members k := by
  simp only [State.groupFull, Option.any_eq_true, Bool.and_eq_true, Bool.not_eq_true', decide_eq_true_iff, capacity_eq,
    ← memberOf_iff, Bool.not_eq_true]

/-! ### A record written or retired (R43 to R45, R47) -/

/-- A sweep's transaction to the address becomes stale; another one does not (R43). -/
theorem State.makeTransactionStale_eq : s.makeTransactionStale g i =
    s.setString g { s.string g with transaction := (s.string g).transaction.map fun x =>
      { x with stale := x.stale || decide (x.address = i ∧ x.owner = .sweep) } } := by
  have hself {o : Option Transaction} (ho : (s.string g).transaction = o) :
      s = s.setString g { s.string g with transaction := o } := by
    rw [← ho]
    exact State.setString_self.symm
  unfold State.makeTransactionStale
  split
  · rename_i w hw
    split <;> rename_i hc
    · simp [hw, hc]
    · simp only [hw, Option.map_some, decide_eq_false hc, Bool.or_false]
      exact hself hw
  · rename_i hw
    simpa [hw] using hself hw

/-- The record a SENSOR_WRITE leaves (R44, R45). -/
theorem State.writeSensor_registered {trim : Int} {shift : Nat} (hr : s.sensor g i = some r) (hreg : r.state ≠ .retired) :
    s.writeSensor g i b trim shift = s.setSensor g i (some (r.rewrite b trim shift)) := by
  simp [State.writeSensor, hr, Option.filter, (Sensor.readable_iff r).mpr hreg]

theorem State.filter_unregistered (hr : ∀ r, s.sensor g i = some r → r.state = .retired) :
    (s.sensor g i).filter Sensor.readable = none := by
  cases hs : s.sensor g i with
  | none => rfl
  | some r => simp [Option.filter, (Sensor.readable_eq_false_iff r).mpr (hr r hs)]

theorem State.writeSensor_fresh {trim : Int} {shift : Nat} (hr : ∀ r, s.sensor g i = some r → r.state = .retired) :
    s.writeSensor g i b trim shift =
      (s.setSensor g i (some (Sensor.fresh b trim shift))).makeTransactionStale g i := by
  simp [State.writeSensor, State.filter_unregistered hr]

theorem Sensor.rewrite_eq (r : Sensor) (b : Option TempGroup) (trim : Int) (shift : Nat) : r.rewrite b trim shift =
    { r with binding := b, trim, shift
             last := if trim = r.trim then r.last else none
             filtered := if trim = r.trim then r.filtered else none } := by
  unfold Sensor.rewrite
  split <;> simp_all

/-- A record written: the one record, and of its string at most the transaction in flight. -/
theorem State.writeSensor_frame (b : Option TempGroup) (trim : Int) (shift : Nat) : ∃ v x,
    s.writeSensor g i b trim shift = (s.setSensor g i v).setString g { s.string g with transaction := x } := by
  unfold State.writeSensor
  split
  · rename_i r _
    refine ⟨some (r.rewrite b trim shift), (s.string g).transaction, ?_⟩
    exact State.setString_self.symm
  · rw [State.makeTransactionStale_eq]
    exact ⟨_, _, rfl⟩

/-! ### SENSOR_WRITE -/

theorem trimArg_eq (w : Word) : trimArg w = max (-2000) (min 2000 w.toInt) := clamp_eq_max_min (by decide) _

theorem sensorWriteReq_eq {string address binding : Byte} {trim : Word} {shift : Byte} (hg : string.toNat = g.toNat)
    (hi : address.toNat = i.val) (hb : groupArg binding = some b) :
    sensorWriteReq string address binding trim shift s = sensorWriteBody g i b trim shift s := by
  simp [sensorWriteReq, sideArg_of_toNat hg, addressArg, indexArg_of_val hi, hb]

/-- Whether SENSOR_WRITE clamps its trim or its shift. -/
def sensorClamps (trim : Word) (shift : Byte) : Bool :=
  outside (-Config.trimMax) Config.trimMax trim.toInt || decide (Config.shiftMax < shift.toNat)

theorem sensorClamps_iff (trim : Word) (shift : Byte) : sensorClamps trim shift = true ↔
    max (-2000) (min 2000 trim.toInt) ≠ trim.toInt ∨ min shift.toNat 7 ≠ shift.toNat := by
  have htrim : outside (-Config.trimMax) Config.trimMax trim.toInt = true ↔ trimArg trim ≠ trim.toInt :=
    outside_iff (by decide) _
  rw [sensorClamps, Bool.or_eq_true, htrim, trimArg_eq, decide_eq_true_iff, Config.shiftMax]
  omega

theorem sensorWriteBody_absent {trim : Word} {shift : Byte} (h1 : s.oneArm = true) (hb : b.any namesArmOne = true) :
    sensorWriteBody g i b trim shift s = refuse .notPresent s := if_pos ⟨h1, hb⟩

theorem sensorWriteBody_full {trim : Word} {shift : Byte} (ha : ¬ (s.oneArm = true ∧ b.any namesArmOne = true))
    (hf : s.groupFull (s.sensor g i) b = true) : sensorWriteBody g i b trim shift s = refuse .full s := by
  rw [sensorWriteBody, if_neg ha, if_pos hf]

theorem sensorWriteBody_accepted {trim : Word} {shift : Byte} (ha : ¬ (s.oneArm = true ∧ b.any namesArmOne = true))
    (hf : ¬ s.groupFull (s.sensor g i) b = true) : sensorWriteBody g i b trim shift s =
      { status := if sensorClamps trim shift then .clamped else .ok,
        payload := sensorRecord g i ((s.writeSensor g i b (trimArg trim) (shiftArg shift)).sensor g i),
        state := s.writeSensor g i b (trimArg trim) (shiftArg shift) } := by
  rw [sensorWriteBody, if_neg ha, if_neg hf]
  rfl

/-- The record registered afresh (R44). -/
theorem State.writeSensor_registers {trim : Int} {shift : Nat} (hr : ∀ r, s.sensor g i = some r → r.state = .retired) :
    (s.writeSensor g i b trim shift).sensor g i = some (Sensor.fresh b trim shift) ∧
    ((s.writeSensor g i b trim shift).string g).transaction = (s.string g).transaction.map fun x =>
      { x with stale := x.stale || decide (x.address = i ∧ x.owner = .sweep) } := by
  rw [State.writeSensor_fresh hr, State.makeTransactionStale_eq]
  simp [State.sensor_setSensor]

/-- The record changed (R45). -/
theorem State.writeSensor_changes {trim : Int} {shift : Nat} (hr : s.sensor g i = some r) (hreg : r.state ≠ .retired) :
    (s.writeSensor g i b trim shift).sensor g i = some (r.rewrite b trim shift) ∧
    (s.writeSensor g i b trim shift).scanner.strings = s.scanner.strings := by
  rw [State.writeSensor_registered hr hreg]
  exact ⟨by simp [State.sensor_setSensor], rfl⟩

theorem State.writeSensor_others {trim : Int} {shift : Nat} (hne : (h, j) ≠ (g, i)) :
    (s.writeSensor g i b trim shift).sensor h j = s.sensor h j := by
  obtain ⟨v, x, e⟩ := State.writeSensor_frame (s := s) (g := g) (i := i) b trim shift
  rw [e, State.sensor_setString, State.sensor_setSensor, if_neg fun ⟨hg, hi⟩ => hne (by rw [hg, hi])]

/-! ### SENSOR_RETIRE and SENSOR_READ -/

/-- The record retired (R47). -/
def State.retireSensor (s : State) (g : Strg) (i : Fin 16) (r : Sensor) : State :=
  (s.setSensor g i (some { r with state := .retired, binding := none })).makeTransactionStale g i

theorem sensorRetireReq_refused {string address : Byte} (hg : string.toNat = g.toNat) (hi : address.toNat = i.val)
    (hr : ∀ r, s.sensor g i = some r → r.state = .retired) : sensorRetireReq string address s = refuse .wrongState s := by
  simp [sensorRetireReq, sideArg_of_toNat hg, addressArg, indexArg_of_val hi, State.filter_unregistered hr]

theorem sensorRetireReq_accepted {string address : Byte} (hg : string.toNat = g.toNat) (hi : address.toNat = i.val)
    (hr : s.sensor g i = some r) (hreg : r.state ≠ .retired) :
    sensorRetireReq string address s = accept [] (s.retireSensor g i r) := by
  simp [sensorRetireReq, sideArg_of_toNat hg, addressArg, indexArg_of_val hi, hr, Option.filter,
    (Sensor.readable_iff r).mpr hreg, State.retireSensor]

theorem sensorReadReq_none {string address clear : Byte} (hc : 1 < clear.toNat) :
    sensorReadReq string address clear s = refuse .badArgument s := by
  unfold sensorReadReq
  split
  · rename_i hclear
    rw [yesNoArg_none hc] at hclear
    cases hclear
  · rfl

theorem sensorReadReq_eq {string address clear : Byte} (hg : string.toNat = g.toNat) (hi : address.toNat = i.val)
    (hc : clear.toNat ≤ 1) : sensorReadReq string address clear s = accept (sensorRecord g i (s.sensor g i))
      (if clear.toNat = 1 then s.setSensor g i ((s.sensor g i).map fun r => { r with badCount := 0 }) else s) := by
  simp [sensorReadReq, sideArg_of_toNat hg, addressArg, indexArg_of_val hi, yesNoArg_some hc]

end

/-- Settles O25: the three requests about a sensor record. -/
theorem sensorRecordsAreWrittenRetiredAndRead : Obligations.SensorRecordsAreWrittenRetiredAndRead := by
  refine ⟨fun s string address binding trim shift g i b ht hg hi hb => ?_, fun s string address clear g i ht hg hi => ?_⟩
  · intro c absent isMember full tr sh
    have habsent : absent ↔ s.oneArm = true ∧ b.any namesArmOne = true := and_congr_right' any_namesArmOne_iff.symm
    have hfull : full ↔ s.groupFull (s.sensor g i) b = true := by
      simp only [State.groupFull_iff, State.members_eq]
      rfl
    have htr : trimArg trim = tr := trimArg_eq trim
    have hreply := sensorWriteReq_eq (s := s) (trim := trim) (shift := shift) hg hi hb
    refine ⟨fun ha => request_answered ht ?_, fun ha hf => request_answered ht ?_, fun ha hf => ?_⟩
    · obtain ⟨h1, hn⟩ := habsent.mp ha
      rw [hreply, sensorWriteBody_absent h1 hn]
    · rw [hreply, sensorWriteBody_full (mt habsent.mpr ha) (hfull.mp hf)]
    · refine ⟨s.writeSensor g i b tr sh, sensorClamps trim shift, request_answered ht ?_, sensorClamps_iff trim shift,
        State.writeSensor_registers, fun r hr hreg => ?_, fun h j => State.writeSensor_others, ?_⟩
      · rw [hreply, sensorWriteBody_accepted (mt habsent.mpr ha) (mt hfull.mpr hf), htr]
        rfl
      · rw [← Sensor.rewrite_eq]
        exact State.writeSensor_changes hr hreg
      · obtain ⟨v, x, e⟩ := State.writeSensor_frame (s := s) (g := g) (i := i) b tr sh
        rw [e]
        cases g <;> exact ⟨rfl, rfl, rfl, rfl⟩
  · intro c d
    refine ⟨fun hr => request_answered ht (sensorRetireReq_refused hg hi hr), fun r hr hreg => ?_,
      fun hc => request_answered ht (sensorReadReq_none hc), fun hc => request_answered ht ?_,
      fun hc => request_answered ht ?_⟩
    · refine ⟨s.retireSensor g i r, request_answered ht (sensorRetireReq_accepted hg hi hr hreg), ?_⟩
      rw [State.retireSensor, State.makeTransactionStale_eq]
      refine ⟨by simp [State.sensor_setSensor], fun h j hne => ?_, by simp, rfl⟩
      rw [State.sensor_setString, State.sensor_setSensor, if_neg fun ⟨hg, hi⟩ => hne (by rw [hg, hi])]
    · subst hc
      rw [sensorReadReq_eq hg hi (by decide)]
      rfl
    · subst hc
      rw [sensorReadReq_eq hg hi (by decide)]
      rfl

end Sys2Proof.Machine
end

section
/-! PROOF. The readings of a sweep (O26). -/

namespace Sys2Proof.Machine

section
variable {s u : State} {g h : Strg} {x : Transaction} {e : LineEnd} {r : Sensor} {w k : Nat}

/-! ### The ends of a transaction (R41) -/

theorem exec_replyTimeout (hp : s.powered = true) : exec (.replyTimeout g) s = .next (s.transactionEnds g .silent) :=
  congrArg Host.Outcome.next (State.event_on _ _ hp)

theorem exec_transactionEnd (hp : s.powered = true) (code : BitVec 16) (ready parity : Bool) :
    exec (.transactionEnd g code ready parity) s = .next (s.transactionEnds g (.reply code ready parity)) :=
  congrArg Host.Outcome.next (State.event_on _ _ hp)

/-- A transaction ends by a reply or without one. -/
theorem exec_ends_transaction {c : Instr} (hp : s.powered = true)
    (hc : c = .replyTimeout g ∨ ∃ code ready parity, c = .transactionEnd g code ready parity) :
    ∃ e, exec c s = .next (s.transactionEnds g e) := by
  rcases hc with rfl | ⟨code, ready, parity, rfl⟩
  · exact ⟨_, exec_replyTimeout hp⟩
  · exact ⟨_, exec_transactionEnd hp code ready parity⟩

/-! ### The judgement of a reply (R42, R49) -/

/-- The number of set bits among code, ready mark and parity mark (R41). -/
def replyBits (code : BitVec 16) (ready parity : Bool) : Nat :=
  ((List.range 16).countP fun i => code.getLsbD i) + ready.toNat + parity.toNat

theorem parityRight_iff (code : BitVec 16) (ready parity : Bool) :
    parityRight code ready parity = true ↔ replyBits code ready parity % 2 = 0 := beq_iff_eq

variable {code : BitVec 16} {ready parity : Bool} {trim : Int}

theorem classify_badParity (hb : replyBits code ready parity % 2 = 1) :
    classify trim (.reply code ready parity) = .badParity := by
  have hp : parityRight code ready parity = false := by
    rw [← Bool.not_eq_true, parityRight_iff]
    omega
  simp [classify, hp]

theorem classify_notReady (hb : replyBits code ready parity % 2 = 0) (hr : ready = false) :
    classify trim (.reply code ready parity) = .notReady := by
  subst hr
  simp [classify, (parityRight_iff ..).mpr hb]

/-- Outside the range of R42. -/
theorem outside_temperature_iff (v : Int) : outside 0 Config.temperatureMax v = true ↔ v < 0 ∨ 50000 < v := by
  rw [outside, Bool.or_eq_true, decide_eq_true_iff, decide_eq_true_iff]
  rfl

theorem classify_outOfRange (hb : replyBits code ready parity % 2 = 0) (hr : ready = true)
    (hv : convertCode code trim < 0 ∨ 50000 < convertCode code trim) :
    classify trim (.reply code ready parity) = .outOfRange (convertCode code trim) := by
  subst hr
  simp [classify, (parityRight_iff ..).mpr hb, (outside_temperature_iff _).mpr hv]

theorem classify_good (hb : replyBits code ready parity % 2 = 0) (hr : ready = true)
    (h0 : 0 ≤ convertCode code trim) (h50 : convertCode code trim ≤ 50000) :
    classify trim (.reply code ready parity) = .good (convertCode code trim) := by
  have hin : ¬ outside 0 Config.temperatureMax (convertCode code trim) = true := by
    rw [outside_temperature_iff]
    omega
  subst hr
  simp [classify, (parityRight_iff ..).mpr hb, hin]

/-! ### The window (R52, R53) -/

/-- The judgement `o` entered in the window of `r`, with the last and the filtered value given. -/
def Sensor.judge (r : Sensor) (w k : Nat) (o : Judged) (last filtered : Option Int) : Sensor :=
  ({ r with last, filtered } : Sensor).enter w k o

theorem Sensor.take_silent : r.take w k .noReply = r.judge w k .bad r.last r.filtered := rfl

theorem Sensor.take_badParity : r.take w k .badParity = r.judge w k .bad r.last r.filtered := rfl

theorem Sensor.take_notReady : r.take w k .notReady = r := rfl

theorem Sensor.take_outOfRange (v : Int) : r.take w k (.outOfRange v) = r.judge w k .bad (some v) r.filtered := rfl

theorem Sensor.take_good (v : Int) :
    r.take w k (.good v) = r.judge w k .good (some v) (some (filterStep r.shift r.filtered v)) := rfl

theorem filterStep_eq (shift : Nat) (filtered : Option Int) (v : Int) : filterStep shift filtered v =
    match filtered with
    | none => v
    | some f => f + roundDiv (v - f) (2 ^ shift) := by
  cases filtered <;> rfl

theorem pushWindow_eq (l : List Judged) (o : Judged) : pushWindow w l o = (l ++ [o]).drop (l.length + 1 - w) := by
  simp [pushWindow]

/-- The record at the address after the judgement `o`: the statement's words about a judgement entered. -/
def Entered (s : State) (g : Strg) (i : Fin 16) (r : Sensor) (o : Judged) (last filtered : Option Int) (u : State) :
    Prop :=
  let w := (s.string g).windowLength
  let k := (s.string g).faultCount
  let window := (r.window ++ [o]).drop (r.window.length + 1 - w)
  let bads := window.countP (· == .bad)
  ∃ q : Sensor, u.sensor g i = some q ∧ q.binding = r.binding ∧ q.trim = r.trim ∧ q.shift = r.shift ∧
    q.last = last ∧ q.filtered = filtered ∧ q.window = window ∧
    q.badCount = (if o = .bad then bump r.badCount else r.badCount) ∧
    (r.state = .active → (k ≤ bads → q.state = .failed ∧ u.attention.sources[11].flag = true) ∧
      (bads < k → q.state = .active)) ∧
    (r.state = .failed → (window.length = w ∧ bads = 0 → q.state = .active) ∧
      (¬ (window.length = w ∧ bads = 0) → q.state = .failed))

theorem Sensor.judge_window (o : Judged) (last filtered : Option Int) :
    (r.judge w k o last filtered).window = (r.window ++ [o]).drop (r.window.length + 1 - w) := pushWindow_eq ..

/-- The state after a judgement is that of the window (R52, R53). -/
theorem Sensor.judge_state (o : Judged) (last filtered : Option Int) : (r.judge w k o last filtered).state =
    windowState w k r.state (r.judge w k o last filtered).window := rfl

/-- A record judged and in its place, with SENSOR raised if it became FAILED, is one the judgement has entered. -/
theorem entered_of_judge {i : Fin 16} {o : Judged} {last filtered : Option Int}
    (hu : u.sensor g i = some (r.judge (s.string g).windowLength (s.string g).faultCount o last filtered))
    (hflag : r.state = .active →
      (r.judge (s.string g).windowLength (s.string g).faultCount o last filtered).state = .failed →
      u.attention.sources[11].flag = true) : Entered s g i r o last filtered u := by
  have hstate := r.judge_state (w := (s.string g).windowLength) (k := (s.string g).faultCount) o last filtered
  have hwindow := r.judge_window (w := (s.string g).windowLength) (k := (s.string g).faultCount) o last filtered
  rw [hwindow] at hstate
  refine ⟨_, hu, rfl, rfl, rfl, rfl, rfl, hwindow, rfl, fun ha => ⟨fun hk => ?_, fun hk => ?_⟩,
    fun hf => ⟨fun hw => ?_, fun hw => ?_⟩⟩
  · have hfailed : (r.judge (s.string g).windowLength (s.string g).faultCount o last filtered).state = .failed := by
      rw [hstate, ha]
      exact if_pos hk
    exact ⟨hfailed, hflag ha hfailed⟩
  · rw [hstate, ha]
    exact if_neg (Nat.not_le.mpr hk)
  · rw [hstate, hf]
    exact if_pos hw
  · rw [hstate, hf]
    exact if_neg hw

/-! ### The reading of a sweep -/

/-- A reading of a registered sensor: the sensor takes it, and every other one is left. -/
theorem State.sweep_takes (hx : (s.string g).transaction = some x) (ho : x.owner = .sweep)
    (hr : s.sensor g x.address = some r) (hreg : r.state ≠ .retired) (hstale : x.stale = false) :
    (s.transactionEnds g e).sensor g x.address =
      some (r.take (s.string g).windowLength (s.string g).faultCount (classify r.trim e)) ∧
    (r.state = .active →
      (r.take (s.string g).windowLength (s.string g).faultCount (classify r.trim e)).state = .failed →
      (s.transactionEnds g e).attention.sources[11].flag = true) := by
  have htake := State.sweepReading_takes (s := s.freeLine g) e hr hreg hstale
  have hraise := State.sweepReading_raises (s := s.freeLine g) (e := e) hr
  rw [State.freeLine_string] at htake hraise
  rw [State.transactionEnds_sweep hx ho]
  exact ⟨State.goOn_sensor.trans htake, fun ha hf => State.goOn_keeps_flag (j := 11) (hraise ha hstale hf)⟩

theorem State.sweep_others (hx : (s.string g).transaction = some x) (ho : x.owner = .sweep) {j : Fin 16}
    (hne : (h, j) ≠ (g, x.address)) : (s.transactionEnds g e).sensor h j = s.sensor h j := by
  rw [State.transactionEnds_sweep hx ho, State.goOn_sensor, State.sweepReading_sensor_ne _ _ hne, State.freeLine_sensor]

/-- A reading judged by `o` is entered so. -/
theorem State.sweep_enters {o : Judged} {last filtered : Option Int} (hx : (s.string g).transaction = some x)
    (ho : x.owner = .sweep) (hr : s.sensor g x.address = some r) (hreg : r.state ≠ .retired) (hstale : x.stale = false)
    (hj : r.take (s.string g).windowLength (s.string g).faultCount (classify r.trim e) =
      r.judge (s.string g).windowLength (s.string g).faultCount o last filtered) :
    Entered s g x.address r o last filtered (s.transactionEnds g e) := by
  obtain ⟨htake, hraise⟩ := State.sweep_takes (e := e) hx ho hr hreg hstale
  rw [hj] at htake hraise
  exact entered_of_judge htake hraise

/-- A stale transaction, and one whose record is no longer registered, leave the sensors as they are (R43). -/
theorem State.sweep_ignored (hx : (s.string g).transaction = some x) (ho : x.owner = .sweep)
    (hignored : x.stale = true ∨ ∀ r, s.sensor g x.address = some r → r.state = .retired) :
    (s.transactionEnds g e).scanner.sensors = s.scanner.sensors := by
  rw [State.transactionEnds_sweep hx ho, State.goOn_sensors, State.sweepReading_ignored (s := s.freeLine g) hignored]
  rfl

/-! ### The pass goes on (R54, R60, R61, R65) -/

/-- The string after a sweep's reading, before it goes on: its line is free, and nothing else of it has changed. -/
theorem State.sweep_string (hx : (s.string g).transaction = some x) (ho : x.owner = .sweep) :
    ∃ v : State, (s.transactionEnds g e).string g = (v.kick g).string g ∧
      v.string g = { s.string g with transaction := none } ∧ v.frz = s.frz ∧
      ∀ j, j ≠ x.address → v.sensor g j = s.sensor g j := by
  refine ⟨(s.freeLine g).sweepReading g x e, ?_, ?_, ?_, fun j hj => ?_⟩
  · rw [State.transactionEnds_sweep hx ho, State.goOn_string]
  · rw [State.sweepReading_string, State.freeLine_string]
  · rw [State.sweepReading_frz]
    rfl
  · rw [State.sweepReading_sensor_ne _ _ (by simp [hj]), State.freeLine_sensor]

end

/-- Settles O26: the judgement of a sweep's reading, and what the string does after it. -/
theorem sweepReadingsAreJudged : Obligations.SweepReadingsAreJudged := by
  intro s g x hp hx ho
  refine ⟨fun c hc hpass => ?_, fun hignored => ⟨⟨_, exec_replyTimeout hp, State.sweep_ignored hx ho hignored⟩,
    fun code ready parity => ⟨_, exec_transactionEnd hp .., State.sweep_ignored hx ho hignored⟩⟩,
    fun r hr hreg hstale => ?_⟩
  · obtain ⟨e, hexec⟩ := exec_ends_transaction hp hc
    obtain ⟨v, hu, hv, hfrz, hsensor⟩ := State.sweep_string (e := e) hx ho
    have hnone : (v.string g).transaction = none := by rw [hv]
    have hreads : (v.string g).pass = .reading (some x.address) := by rw [hv, hpass]
    have habove (j : Fin 16) (hj : ∀ l, some x.address = some l → l < j) : v.sensor g j = s.sensor g j :=
      hsensor j (ne_of_gt (hj _ rfl))
    refine ⟨_, hexec, fun hheld => ?_, fun j r hj hr hreg hlow hf hl => ?_, fun hlast => ?_⟩
    · rw [hu]
      exact State.kick_waits hnone (by rw [hfrz, hv]; exact hheld)
    · have hj' : ∀ l, some x.address = some l → l < j := by simpa using hj
      have hnext : v.nextAddress g (some x.address) = some j := by
        refine State.nextAddress_some ((habove j hj').trans hr) hreg hj' fun i hi hai q hq => ?_
        exact hlow i (hai _ rfl) hi q ((habove i hai).symm.trans hq)
      rw [hu, State.kick_reads hnone hreads hnext (State.mayBegin_iff.mpr ⟨hfrz.trans hf, by rw [hv]; exact hl⟩)]
      exact ⟨rfl, rfl⟩
    · have hnext : v.nextAddress g (some x.address) = none := by
        refine State.nextAddress_none fun i hai q hq => ?_
        exact hlast i q (hai _ rfl) ((habove i hai).symm.trans hq)
      have hserves := State.kick_ends_pass hnone hreads hnext
      rw [← hu] at hserves
      simpa only [ServesCheck, hv, hfrz] using hserves
  · have hothers (e : LineEnd) : (∀ j : Fin 16, j ≠ x.address → (s.transactionEnds g e).sensor g j = s.sensor g j) ∧
        ∀ j : Fin 16, (s.transactionEnds g e).sensor g.other j = s.sensor g.other j :=
      ⟨fun j hj => State.sweep_others hx ho (by simp [hj]), fun j => State.sweep_others hx ho (by simp)⟩
    refine ⟨⟨_, exec_replyTimeout hp, hothers _, State.sweep_enters hx ho hr hreg hstale Sensor.take_silent⟩,
      fun code ready parity => ⟨_, exec_transactionEnd hp .., hothers _, fun hbits => ?_, fun hbits hready => ?_,
        fun hbits hready hv => ?_, fun hbits hready h0 h50 => ?_⟩⟩
    · refine State.sweep_enters hx ho hr hreg hstale ?_
      rw [classify_badParity hbits, Sensor.take_badParity]
    · rw [(State.sweep_takes hx ho hr hreg hstale).1, classify_notReady hbits hready, Sensor.take_notReady]
    · refine State.sweep_enters hx ho hr hreg hstale ?_
      rw [classify_outOfRange hbits hready hv, Sensor.take_outOfRange]
      rfl
    · refine State.sweep_enters hx ho hr hreg hstale ?_
      rw [classify_good hbits hready h0 h50, Sensor.take_good, filterStep_eq]
      rfl

end Sys2Proof.Machine
end

section
/-! PROOF. The line checks (O27). -/

namespace Sys2Proof.Machine

section
variable {s : State} {g : Strg} {x : Transaction} {e : LineEnd} {c : LineCheck} {i : Fin 16} {n : Nat}

/-! ### LINE_CHECK (R61) -/

theorem lineCheckReq_running {string passes : Byte} (hg : string.toNat = g.toNat)
    (hc : (s.string g).check.state = .running) : lineCheckReq string passes s = refuse .inUse s := by
  simp [lineCheckReq, sideArg_of_toNat hg, hc]

theorem lineCheckReq_accepted {string passes : Byte} (hg : string.toNat = g.toNat)
    (hc : (s.string g).check.state ≠ .running) : lineCheckReq string passes s =
      { status := if 1 ≤ passes.toNat ∧ passes.toNat ≤ 16 then .ok else .clamped, payload := [],
        state := s.startCheck g (max 1 (min 16 passes.toNat)) } := by
  have hstatus : okOr (clampNat 1 16 passes.toNat != passes.toNat) =
      if 1 ≤ passes.toNat ∧ passes.toNat ≤ 16 then .ok else .clamped := by
    have hiff : (clampNat 1 16 passes.toNat != passes.toNat) = true ↔ ¬ (1 ≤ passes.toNat ∧ passes.toNat ≤ 16) := by
      rw [bne_iff_ne, clampNat]
      omega
    rw [okOr]
    by_cases hin : 1 ≤ passes.toNat ∧ passes.toNat ≤ 16
    · rw [if_neg fun h => hiff.mp h hin, if_pos hin]
    · rw [if_pos (hiff.mpr hin), if_neg hin]
  simp only [lineCheckReq, sideArg_of_toNat hg, if_neg hc, hstatus]
  rfl

/-- The check as LINE_CHECK starts it. -/
def LineCheck.started (n : Nat) : LineCheck := { LineCheck.reset with state := .running, requested := n }

theorem State.startCheck_check : ((s.startCheck g n).string g).check = .started n := by
  rw [State.startCheck, State.goOn_string, State.kick_check, State.string_setString, if_pos rfl]
  rfl

theorem State.startCheck_sensors : (s.startCheck g n).scanner.sensors = s.scanner.sensors := State.goOn_sensors

/-- On a free string the check begins at address 0 unless it is held back (R61). -/
theorem State.startCheck_free (hx : (s.string g).transaction = none) :
    ((s.startCheck g n).string g).pass = .ended ∧
      (s.frz = false → (s.string g).limit = false → ((s.startCheck g n).string g).transaction =
        some { address := 0, owner := .lineCheck, stale := false }) := by
  have hs : s.startCheck g n =
      (s.setString g { s.string g with check := .started n, pass := .ended }).goOn g := by
    simp only [State.startCheck, hx]
    rfl
  have hserves := State.kick_serves (s := s.setString g { s.string g with check := .started n, pass := .ended })
    (g := g) (by simpa using hx) (by simp)
  rw [← State.goOn_string, ← hs] at hserves
  obtain ⟨hpass, hbegins, -⟩ := hserves
  refine ⟨hpass, fun hf hl => ?_⟩
  simpa [LineCheck.started, LineCheck.reset] using hbegins (by simp [LineCheck.started]) hf (by simpa using hl)

/-- A transaction in flight goes on, and its pass with it. -/
theorem State.startCheck_busy (hx : (s.string g).transaction = some x) :
    ((s.startCheck g n).string g).transaction = some x ∧ ((s.startCheck g n).string g).pass = (s.string g).pass := by
  have hs : s.startCheck g n = (s.setString g { s.string g with check := .started n }).goOn g := by
    simp only [State.startCheck, hx]
    rfl
  rw [hs, State.goOn_string, State.kick_of_transaction (x := x) (by simpa using hx)]
  simpa using hx

/-! ### A reading noted (R62) -/

/-- A BAD reading of a registered sensor is counted (R62). -/
theorem LineCheck.note_failedPasses (registered : Bool) (y : Reading) (j : Fin 16) :
    (c.note i registered y).failedPasses[j] =
      c.failedPasses[j] + (if j = i ∧ registered = true ∧ y.judged = some .bad then 1 else 0) := by
  unfold LineCheck.note
  split
  · split
    · rw [upd_get]
      split <;> simp_all
      omega
    · simp_all
  · split <;> simp_all

/-- A GOOD reading of an unregistered address is noted (R62). -/
theorem LineCheck.note_answered (registered : Bool) (y : Reading) (j : Fin 16) :
    (c.note i registered y).answered[j] =
      (c.answered[j] || decide (j = i ∧ ¬ registered = true ∧ y.judged = some .good)) := by
  unfold LineCheck.note
  split
  · split <;> simp_all
  · split
    · rw [upd_get]
      split <;> simp_all
      omega
    · simp_all

theorem LineCheck.note_keeps (registered : Bool) (y : Reading) :
    (c.note i registered y).requested = c.requested ∧ (c.note i registered y).completed = c.completed ∧
      (c.note i registered y).state = c.state := by
  unfold LineCheck.note
  split
  · split <;> exact ⟨rfl, rfl, rfl⟩
  · split <;> exact ⟨rfl, rfl, rfl⟩

/-! ### Where a check goes on (R62, R63) -/

theorem LineCheck.advance_keeps : (c.advance i).failedPasses = c.failedPasses ∧ (c.advance i).answered = c.answered ∧
    (c.advance i).requested = c.requested := by
  unfold LineCheck.advance
  split
  · exact ⟨rfl, rfl, rfl⟩
  · dsimp only
    split <;> exact ⟨rfl, rfl, rfl⟩

theorem LineCheck.advance_lower (hi : i.val < 15) :
    (c.advance i).next.val = i.val + 1 ∧ (c.advance i).completed = c.completed ∧ (c.advance i).state = c.state := by
  simp [LineCheck.advance, show i.val + 1 < 16 by omega]

theorem LineCheck.firstFailing_isSome_iff : c.firstFailing.isSome = true ↔ ∃ j : Fin 16, c.failedPasses[j] ≠ 0 := by
  simp [LineCheck.firstFailing, List.find?_isSome]

theorem LineCheck.advance_top_eq (hi : i.val = 15) : c.advance i =
    if c.requested ≤ c.completed + 1 then
      { c with next := 0, completed := c.completed + 1,
               state := if c.firstFailing.isSome then .failed else .done }
    else { c with next := 0, completed := c.completed + 1 } := by
  simp only [LineCheck.advance, hi]
  rfl

/-- After the sixteenth address the pass is complete, and with the last pass the check is DONE or FAILED. -/
theorem LineCheck.advance_top (hi : i.val = 15) :
    (c.advance i).next = 0 ∧ (c.advance i).completed = c.completed + 1 ∧
    (c.completed + 1 < c.requested → (c.advance i).state = c.state) ∧
    (c.requested ≤ c.completed + 1 →
      ((∀ j : Fin 16, c.failedPasses[j] = 0) → (c.advance i).state = .done) ∧
      ((∃ j : Fin 16, c.failedPasses[j] ≠ 0) → (c.advance i).state = .failed)) := by
  rw [LineCheck.advance_top_eq hi]
  split <;> rename_i hc
  · refine ⟨rfl, rfl, fun h => by omega, fun _ => ⟨fun h => ?_, fun h => ?_⟩⟩
    · exact if_neg fun hs => (LineCheck.firstFailing_isSome_iff.mp hs).elim fun j hj => hj (h j)
    · exact if_pos (LineCheck.firstFailing_isSome_iff.mpr h)
  · exact ⟨rfl, rfl, fun _ => rfl, fun h => absurd h hc⟩

/-! ### The reading of a line check (R62, R63) -/

/-- The check `q` after a reading of the address `i`: the statement's words about a reading noted. -/
def Noted (s : State) (g : Strg) (i : Fin 16) (e : LineEnd) (q : LineCheck) : Prop :=
  let check := (s.string g).check
  let y := classify (((s.sensor g i).filter Sensor.readable).map Sensor.trim |>.getD 0) e
  (∀ j : Fin 16, q.failedPasses[j] = check.failedPasses[j] +
    (if j = i ∧ (s.sensor g i).any Sensor.readable ∧ y.judged = some .bad then 1 else 0)) ∧
  (∀ j : Fin 16, q.answered[j] = (check.answered[j] || decide (j = i ∧
    ¬ (s.sensor g i).any Sensor.readable ∧ y.judged = some .good))) ∧
  q.requested = check.requested ∧
  (i.val < 15 → q.next.val = i.val + 1 ∧ q.completed = check.completed ∧ q.state = check.state) ∧
  (i.val = 15 → q.next = 0 ∧ q.completed = check.completed + 1 ∧
    (check.completed + 1 < check.requested → q.state = check.state) ∧
    (check.requested ≤ check.completed + 1 →
      ((∀ j : Fin 16, q.failedPasses[j] = 0) → q.state = .done) ∧
      ((∃ j : Fin 16, q.failedPasses[j] ≠ 0) → q.state = .failed)))

theorem State.checkAfter_noted : Noted s g x.address e (s.checkAfter g x e) := by
  have hreg : ((s.sensor g x.address).filter Sensor.readable).isSome = (s.sensor g x.address).any Sensor.readable := by
    cases s.sensor g x.address <;> simp [Option.filter]
    split <;> simp_all
  unfold State.checkAfter
  rw [hreg]
  generalize hy : classify ((((s.sensor g x.address).filter Sensor.readable).map Sensor.trim).getD 0) e = y
  have hfailed := (s.string g).check.note_failedPasses (i := x.address) ((s.sensor g x.address).any Sensor.readable) y
  have hanswered := (s.string g).check.note_answered (i := x.address) ((s.sensor g x.address).any Sensor.readable) y
  obtain ⟨hrequested, hcompleted, hstate⟩ :=
    (s.string g).check.note_keeps (i := x.address) ((s.sensor g x.address).any Sensor.readable) y
  generalize (s.string g).check.note x.address ((s.sensor g x.address).any Sensor.readable) y = c at *
  obtain ⟨hf, ha, hq⟩ := c.advance_keeps (i := x.address)
  rw [Noted, hy, hf, ha, hq, ← hcompleted, ← hrequested, ← hstate]
  exact ⟨hfailed, hanswered, rfl, LineCheck.advance_lower, LineCheck.advance_top⟩

/-- A line check's reading: it is noted, an end of the check raises LINE_CHECK, and no sensor record is touched. -/
theorem State.lineCheck_noted (hx : (s.string g).transaction = some x) (ho : x.owner = .lineCheck) :
    Noted s g x.address e ((s.transactionEnds g e).string g).check ∧
    (((s.transactionEnds g e).string g).check.state ≠ .running →
      (s.transactionEnds g e).attention.sources[13].flag = true) ∧
    (s.transactionEnds g e).scanner.sensors = s.scanner.sensors := by
  have hafter : (s.freeLine g).checkAfter g x e = s.checkAfter g x e := by
    simp only [State.checkAfter, State.freeLine_string, State.freeLine_sensor]
  have hcheck : ((s.transactionEnds g e).string g).check = s.checkAfter g x e := by
    rw [State.transactionEnds_lineCheck hx ho, State.goOn_string, State.kick_check, State.checkReading_string, hafter]
  rw [hcheck]
  refine ⟨State.checkAfter_noted, fun hend => ?_, ?_⟩ <;> rw [State.transactionEnds_lineCheck hx ho]
  · exact State.goOn_keeps_flag (j := 13) (State.checkReading_raises (by rwa [hafter]))
  · obtain ⟨r, hr⟩ := State.checkReading_frame (s := s.freeLine g) (g := g) x e
    rw [State.goOn_sensors, hr]
    rfl

end

/-- Settles O27: how a line check starts, and what each of its readings does. -/
theorem lineChecksReadEveryAddress : Obligations.LineChecksReadEveryAddress := by
  refine fun s g => ⟨fun string passes ht hg => ⟨fun hc => ?_, fun hc => ?_⟩, fun x hp hx ho => ⟨?_, ?_⟩⟩
  · exact request_answered ht (lineCheckReq_running hg hc)
  · exact ⟨_, request_answered ht (lineCheckReq_accepted hg hc), State.startCheck_check, State.startCheck_sensors,
      State.startCheck_free, fun _ => State.startCheck_busy⟩
  · exact ⟨_, exec_replyTimeout hp, State.lineCheck_noted hx ho⟩
  · exact fun code ready parity => ⟨_, exec_transactionEnd hp .., State.lineCheck_noted hx ho⟩

end Sys2Proof.Machine
end

section
/-! PROOF. SCAN_CONTROL and the scan timer (O28). -/

namespace Sys2Proof.Machine

section
variable {s : State} {g : Strg} {i : Fin 16} {r : Sensor} {m : ScanMode} {timer : Timer}

/-! ### A sweep begins (R54) -/

/-- Both strings go on, each by its own records. -/
theorem State.kickBoth_string (s : State) (g : Strg) : ∃ v : State,
    ((s.kick .zero).kick .one).string g = (v.kick g).string g ∧ v.string g = s.string g ∧ v.frz = s.frz ∧
      ∀ i, v.sensor g i = s.sensor g i := by
  cases g with
  | zero => exact ⟨s, State.kick_string_ne (by decide), rfl, rfl, fun _ => rfl⟩
  | one => exact ⟨s.kick .zero, rfl, State.kick_string_ne (by decide), State.kick_frz, fun _ => State.kick_sensor⟩

theorem State.kickBoth_frame (s : State) : ∃ x, (s.kick .zero).kick .one =
    { s with scanner := { s.scanner with strings := x } } := by
  obtain ⟨x, p, e⟩ := s.kick_frame .zero
  obtain ⟨y, q, e'⟩ := (s.kick .zero).kick_frame .one
  rw [e', e]
  exact ⟨_, rfl⟩

/-- A string as a sweep begins: a pass starts unless its line check runs. -/
def StringControl.passStarted (c : StringControl) : StringControl :=
  if c.check.state = .running then c else { c with pass := .reading none }

theorem State.startPass_eq : s.startPass g = s.setString g (s.string g).passStarted := by
  simp only [State.startPass, StringControl.passStarted]
  split
  · exact State.setString_self.symm
  · rfl

/-- The part with a sweep begun, before the sweep ends at once where there is nothing to read. -/
def State.launch (s : State) (timer : Timer) : State :=
  ((((s.setScan .sweeping timer).startPass .zero).startPass .one).kick .zero).kick .one

theorem State.beginSweep_eq : s.beginSweep timer = (s.launch timer).endIfSwept := rfl

theorem State.launch_frame : ∃ x, s.launch timer =
    { s with scanner := { s.scanner with strings := x, state := .sweeping, timer } } := by
  obtain ⟨x, e⟩ := State.kickBoth_frame (((s.setScan .sweeping timer).startPass .zero).startPass .one)
  rw [State.launch, e, State.startPass_eq, State.startPass_eq]
  exact ⟨x, rfl⟩

/-- Each string goes on from its records with its pass started. -/
theorem State.launch_string (g : Strg) : ∃ v : State, (s.launch timer).string g = (v.kick g).string g ∧
    v.string g = (s.string g).passStarted ∧ v.frz = s.frz ∧ ∀ i, v.sensor g i = s.sensor g i := by
  obtain ⟨v, hv, hstring, hfrz, hsensor⟩ :=
    State.kickBoth_string (((s.setScan .sweeping timer).startPass .zero).startPass .one) g
  refine ⟨v, hv, hstring.trans ?_, hfrz.trans ?_, fun i => (hsensor i).trans ?_⟩ <;>
    rw [State.startPass_eq, State.startPass_eq]
  · cases g <;> rfl
  · rfl
  · rfl

/-- A free string with a sensor to read. -/
def State.ToRead (s : State) (g : Strg) : Prop :=
  (s.string g).check.state ≠ .running ∧ (s.string g).transaction = none ∧
    ∃ (i : Fin 16) (r : Sensor), s.sensor g i = some r ∧ r.state ≠ .retired

theorem State.nextAddress_isSome (hr : s.sensor g i = some r) (hreg : r.state ≠ .retired) :
    ∃ j, s.nextAddress g none = some j := by
  cases hn : s.nextAddress g none with
  | some j => exact ⟨j, rfl⟩
  | none =>
    have hnot := List.find?_eq_none.mp hn i (List.mem_finRange i)
    simp [hr, Sensor.readable_iff, hreg] at hnot

/-- A free string with a sensor to read keeps the sweep in flight. -/
theorem State.launch_pass (h : s.ToRead g) : ((s.launch timer).string g).pass ≠ .ended := by
  obtain ⟨hcheck, hx, i, r, hr, hreg⟩ := h
  obtain ⟨v, hv, hstring, -, hsensor⟩ := State.launch_string (s := s) (timer := timer) g
  rw [StringControl.passStarted, if_neg hcheck] at hstring
  obtain ⟨j, hj⟩ := State.nextAddress_isSome ((hsensor i).trans hr) hreg
  rw [hv]
  exact State.kick_pass_goes_on (by rw [hstring]; exact hx) (by rw [hstring]) hj

theorem State.endIfSwept_of_pass (hp : (s.string g).pass ≠ .ended) : s.endIfSwept = s := by
  refine if_neg fun ⟨_, h0, h1⟩ => ?_
  cases g
  · exact hp h0
  · exact hp h1

/-- Where there is a sensor to read, the scan is SWEEPING. -/
theorem State.beginSweep_launch (h : s.ToRead g) : s.beginSweep timer = s.launch timer :=
  State.endIfSwept_of_pass (State.launch_pass h)

/-- A free string reads its lowest registered address (R54). -/
theorem State.beginSweep_reads (hcheck : (s.string g).check.state ≠ .running) (hx : (s.string g).transaction = none)
    (hf : s.frz = false) (hl : (s.string g).limit = false) (hr : s.sensor g i = some r) (hreg : r.state ≠ .retired)
    (hlow : ∀ j < i, ∀ q, s.sensor g j = some q → q.state = .retired) :
    ((s.beginSweep timer).string g).transaction = some { address := i, owner := .sweep, stale := false } := by
  obtain ⟨v, hv, hstring, hfrz, hsensor⟩ := State.launch_string (s := s) (timer := timer) g
  rw [StringControl.passStarted, if_neg hcheck] at hstring
  have hnext : v.nextAddress g none = some i :=
    State.nextAddress_some ((hsensor i).trans hr) hreg (by simp)
      fun j hj _ q hq => hlow j hj q ((hsensor j).symm.trans hq)
  rw [State.beginSweep_eq, State.endIfSwept_swept.string, hv, State.kick_reads (by rw [hstring]; exact hx)
    (by rw [hstring]) hnext (State.mayBegin_iff.mpr ⟨hfrz.trans hf, by rw [hstring]; exact hl⟩)]

/-- A string with nothing to read: no pass, no transaction, and its line check runs or no address is registered. -/
def State.NothingToRead (s : State) (g : Strg) : Prop :=
  (s.string g).pass = .ended ∧ (s.string g).transaction = none ∧ ((s.string g).check.state = .running ∨
    ∀ (i : Fin 16) (r : Sensor), s.sensor g i = some r → r.state = .retired)

theorem State.launch_idle (h : s.NothingToRead g) : ((s.launch timer).string g).pass = .ended := by
  obtain ⟨hpass, hx, hnothing⟩ := h
  obtain ⟨v, hv, hstring, -, hsensor⟩ := State.launch_string (s := s) (timer := timer) g
  rw [hv]
  by_cases hcheck : (s.string g).check.state = .running
  · rw [StringControl.passStarted, if_pos hcheck] at hstring
    exact (State.kick_serves (by rw [hstring]; exact hx) (by rw [hstring]; exact hpass)).1
  · rw [StringControl.passStarted, if_neg hcheck] at hstring
    have hnext : v.nextAddress g none = none := State.nextAddress_none fun j _ q hq =>
      hnothing.resolve_left hcheck j q ((hsensor j).symm.trans hq)
    exact (State.kick_ends_pass (by rw [hstring]; exact hx) (by rw [hstring]) hnext).1

/-- Where there is nothing to read, the sweep ends at once (R54, R57). -/
theorem State.beginSweep_ends (h : ∀ g, s.NothingToRead g) :
    ((s.beginSweep timer).scanner.state, (s.beginSweep timer).scanner.timer) =
      if s.scanner.mode = .continuous then (.waiting, timer) else (.stopped, none) := by
  have hends : (s.launch timer).endIfSwept = (s.launch timer).sweepEnd := by
    refine if_pos ⟨?_, State.launch_idle (h .zero), State.launch_idle (h .one)⟩
    obtain ⟨x, e⟩ := State.launch_frame (s := s) (timer := timer)
    rw [e]
    rfl
  rw [State.beginSweep_eq, hends, State.sweepEnd_scan]
  obtain ⟨x, e⟩ := State.launch_frame (s := s) (timer := timer)
  rw [e]
  simp

theorem State.beginSweep_swept : Swept (s.launch timer) (s.beginSweep timer) := State.endIfSwept_swept

/-- What a sweep that begins keeps of the scanner. -/
theorem State.beginSweep_keeps : (s.beginSweep timer).scanner.sensors = s.scanner.sensors ∧
    (s.beginSweep timer).scanner.mode = s.scanner.mode ∧ (s.beginSweep timer).scanner.period = s.scanner.period ∧
    (s.beginSweep timer).scanner.overruns = s.scanner.overruns := by
  obtain ⟨x, e⟩ := State.launch_frame (s := s) (timer := timer)
  have w := State.beginSweep_swept (s := s) (timer := timer)
  rw [e] at w
  exact ⟨w.sensors, w.mode, w.period, w.overruns⟩

/-- In CONTINUOUS the timer runs on when a sweep ends at once. -/
theorem State.beginSweep_timer (hm : s.scanner.mode = .continuous) : (s.beginSweep timer).scanner.timer = timer := by
  obtain ⟨x, e⟩ := State.launch_frame (s := s) (timer := timer)
  rw [State.beginSweep_eq, State.endIfSwept]
  split
  · have hscan := (s.launch timer).sweepEnd_scan
    rw [e, if_pos ⟨rfl, hm⟩] at hscan
    rw [e]
    exact congrArg Prod.snd hscan
  · rw [e]

/-! ### SCAN_CONTROL (R56) -/

/-- The table's rows in which no sweep begins. -/
theorem State.scanCommand_stopped (h : s.scanner.state = .stopped) : s.scanCommand .stop = s := by
  simp [State.scanCommand, h]

theorem State.scanCommand_waiting_continuous (h : s.scanner.state = .waiting) : s.scanCommand .continuous = s := by
  simp [State.scanCommand, h]

theorem State.scanCommand_waiting_stop (h : s.scanner.state = .waiting) :
    s.scanCommand .stop = s.setScan .stopped none := by
  simp [State.scanCommand, h]

theorem State.scanCommand_sweeping (h : s.scanner.state = .sweeping) (hm : m ≠ .stop) : s.scanCommand m = s := by
  cases m <;> simp_all [State.scanCommand]

theorem State.scanCommand_sweeping_stop (h : s.scanner.state = .sweeping) :
    s.scanCommand .stop = s.setScan .stopping none := by
  simp [State.scanCommand, h]

theorem State.scanCommand_stopping (h : s.scanner.state = .stopping) (hm : m ≠ .stop) :
    s.scanCommand m = s.setScan .sweeping (some s.scanner.period) := by
  cases m <;> simp_all [State.scanCommand]

theorem State.scanCommand_stopping_stop (h : s.scanner.state = .stopping) : s.scanCommand .stop = s := by
  simp [State.scanCommand, h]

/-- A sweep begins at once (R56). -/
def ScanState.begins (st : ScanState) (m : ScanMode) : Prop := (st = .stopped ∧ m ≠ .stop) ∨ (st = .waiting ∧ m = .single)

theorem State.scanCommand_begins (h : s.scanner.state.begins m) : s.scanCommand m =
    s.beginSweep (if s.scanner.state = .stopped then some s.scanner.period else s.scanner.timer) := by
  rcases h with ⟨h, hm⟩ | ⟨h, rfl⟩
  · cases m <;> simp_all [State.scanCommand]
  · simp [State.scanCommand, h]

theorem State.scanCommand_setScan (h : ¬ s.scanner.state.begins m) :
    ∃ st timer, s.scanCommand m = s.setScan st timer := by
  have hself : ∃ st timer, s = s.setScan st timer := ⟨s.scanner.state, s.scanner.timer, rfl⟩
  cases hs : s.scanner.state <;> cases m <;> simp only [State.scanCommand, hs]
  case sweeping.continuous | sweeping.single | waiting.continuous | stopped.stop | stopping.stop => exact hself
  case sweeping.stop | waiting.stop | stopping.continuous | stopping.single => exact ⟨_, _, rfl⟩
  all_goals exact absurd (by simp [ScanState.begins, hs]) h

/-- The table of R56 where no sweep begins. -/
theorem State.scanCommand_table (h : ¬ s.scanner.state.begins m) :
    (s.scanner.state = .stopped →
      (s.scanCommand m).scanner.state = .stopped ∧ (s.scanCommand m).scanner.timer = s.scanner.timer) ∧
    (s.scanner.state = .waiting → m = .continuous →
      (s.scanCommand m).scanner.state = .waiting ∧ (s.scanCommand m).scanner.timer = s.scanner.timer) ∧
    (s.scanner.state = .waiting → m = .stop →
      (s.scanCommand m).scanner.state = .stopped ∧ (s.scanCommand m).scanner.timer = none) ∧
    (s.scanner.state = .sweeping → m ≠ .stop →
      (s.scanCommand m).scanner.state = .sweeping ∧ (s.scanCommand m).scanner.timer = s.scanner.timer) ∧
    (s.scanner.state = .sweeping → m = .stop →
      (s.scanCommand m).scanner.state = .stopping ∧ (s.scanCommand m).scanner.timer = none) ∧
    (s.scanner.state = .stopping → m ≠ .stop →
      (s.scanCommand m).scanner.state = .sweeping ∧ (s.scanCommand m).scanner.timer = some s.scanner.period) ∧
    (s.scanner.state = .stopping → m = .stop →
      (s.scanCommand m).scanner.state = .stopping ∧ (s.scanCommand m).scanner.timer = s.scanner.timer) := by
  refine ⟨fun hs => ?_, fun hs hm => ?_, fun hs hm => ?_, fun hs hm => ?_, fun hs hm => ?_, fun hs hm => ?_,
    fun hs hm => ?_⟩
  · have hm : m = .stop := not_not.mp fun hm => h (.inl ⟨hs, hm⟩)
    rw [hm, State.scanCommand_stopped hs]
    exact ⟨hs, rfl⟩
  · rw [hm, State.scanCommand_waiting_continuous hs]
    exact ⟨hs, rfl⟩
  · rw [hm, State.scanCommand_waiting_stop hs]
    exact ⟨rfl, rfl⟩
  · rw [State.scanCommand_sweeping hs hm]
    exact ⟨hs, rfl⟩
  · rw [hm, State.scanCommand_sweeping_stop hs]
    exact ⟨rfl, rfl⟩
  · rw [State.scanCommand_stopping hs hm]
    exact ⟨rfl, rfl⟩
  · rw [hm, State.scanCommand_stopping_stop hs]
    exact ⟨hs, rfl⟩

/-- A sweep that begins with a sensor to read is in flight, with its timer (R56). -/
theorem State.scanCommand_sweeps (h : s.scanner.state.begins m) (hread : s.ToRead g) :
    (s.scanCommand m).scanner.state = .sweeping ∧ (s.scanCommand m).scanner.timer =
      if s.scanner.state = .stopped then some s.scanner.period else s.scanner.timer := by
  rw [State.scanCommand_begins h, State.beginSweep_launch hread]
  obtain ⟨x, e⟩ := State.launch_frame (s := s)
    (timer := if s.scanner.state = .stopped then some s.scanner.period else s.scanner.timer)
  rw [e]
  exact ⟨rfl, rfl⟩

/-- A sweep that begins with nothing to read ends at once (R54, R57). -/
theorem State.scanCommand_ends (h : s.scanner.state.begins m) (hm : s.scanner.mode = m)
    (hnothing : ∀ g, s.NothingToRead g) :
    (s.scanCommand m).scanner.state = (if m = .continuous then .waiting else .stopped) ∧
    (s.scanCommand m).scanner.timer = (if m = .continuous then some s.scanner.period else none) := by
  have hends := State.beginSweep_ends hnothing
    (timer := if s.scanner.state = .stopped then some s.scanner.period else s.scanner.timer)
  rw [← State.scanCommand_begins h, hm] at hends
  by_cases hc : m = .continuous
  · have hs : s.scanner.state = .stopped := by
      rcases h with ⟨hs, -⟩ | ⟨-, hsingle⟩
      · exact hs
      · simp [hc] at hsingle
    simpa [hc, hs] using hends
  · simpa [hc] using hends

/-- What every SCAN_CONTROL keeps of the scanner. -/
theorem State.scanCommand_keeps : (s.scanCommand m).scanner.sensors = s.scanner.sensors ∧
    (s.scanCommand m).scanner.mode = s.scanner.mode ∧ (s.scanCommand m).scanner.period = s.scanner.period := by
  by_cases h : s.scanner.state.begins m
  · rw [State.scanCommand_begins h]
    obtain ⟨hsensors, hmode, hperiod, -⟩ := State.beginSweep_keeps (s := s)
      (timer := if s.scanner.state = .stopped then some s.scanner.period else s.scanner.timer)
    exact ⟨hsensors, hmode, hperiod⟩
  · obtain ⟨st, timer, e⟩ := State.scanCommand_setScan h
    rw [e]
    exact ⟨rfl, rfl, rfl⟩

/-- The mode and the period are stored before the scan moves. -/
def State.storeScan (s : State) (m : ScanMode) (period : Nat) : State :=
  { s with scanner := { s.scanner with mode := m, period } }

/-- The period SCAN_CONTROL stores: the one given, clamped, or the one that stands. -/
def storedPeriod (given : Byte) (period : Word) (stored : Nat) : Nat :=
  if given.toNat = 1 then max 100 (min 60000 period.toNat) else stored

theorem scanControlReq_eq {mode given : Byte} {period : Word} (hm : scanModeArg mode = some m) (hg : given.toNat ≤ 1) :
    scanControlReq mode given period s =
      let u := (s.storeScan m (storedPeriod given period s.scanner.period)).scanCommand m
      { status := if given.toNat = 1 ∧ storedPeriod given period s.scanner.period ≠ period.toNat then .clamped else .ok,
        payload := [u.scanner.state.code, u.scanner.mode.code] ++ natBytes u.scanner.period, state := u } := by
  have hgiven : given.toNat = 0 ∨ given.toNat = 1 := by omega
  rcases hgiven with h | h
  · simp [scanControlReq, hm, yesNoArg_some hg, h, scanControlBody, storedPeriod, State.storeScan, okOr]
  · simp [scanControlReq, hm, yesNoArg_some hg, h, scanControlBody, storedPeriod, State.storeScan, okOr, clampNat]

/-! ### The scan timer (R58, R60) -/

theorem exec_scanTimerExpiry (hp : s.powered = true) : exec .scanTimerExpiry s = .next s.scanExpiry :=
  congrArg Host.Outcome.next (State.event_on _ _ hp)

/-- A timer that does not run, or stands under FRZ, does not expire (R60; log 7). -/
theorem State.scanExpiry_none (h : s.scanner.timer = none ∨ s.frz = true) : s.scanExpiry = s := by
  refine if_neg ?_
  rcases h with h | h <;> simp [h]

theorem State.scanExpiry_waiting (ht : s.scanner.timer ≠ none) (hf : s.frz = false) (hs : s.scanner.state = .waiting)
    (hm : s.scanner.mode = .continuous) : s.scanExpiry = s.beginSweep (some s.scanner.period) := by
  simp [State.scanExpiry, Option.isSome_iff_ne_none, ht, hf, hs, hm]

theorem State.scanExpiry_sweeping (ht : s.scanner.timer ≠ none) (hf : s.frz = false)
    (hs : s.scanner.state = .sweeping) : s.scanExpiry = { s with scanner := { s.scanner with
      timer := some s.scanner.period
      overruns := if s.scanner.mode = .continuous then bump s.scanner.overruns else s.scanner.overruns } } := by
  by_cases hm : s.scanner.mode = .continuous
  · simp [State.scanExpiry, Option.isSome_iff_ne_none, ht, hf, hs, hm, State.setScan]
  · simp [State.scanExpiry, Option.isSome_iff_ne_none, ht, hf, hs, hm, State.setScan]

end

/-- Settles O28: the scan moves by the table of SCAN_CONTROL and by its timer. -/
theorem scanFollowsItsTable : Obligations.ScanFollowsItsTable := by
  refine ⟨fun s mode given period m ht hm hg => ?_, fun s hp => ⟨fun hstill => ?_, fun htimer hf => ⟨fun hs hmode => ?_,
    fun hs => ?_⟩⟩⟩
  · intro c stored begins toRead
    obtain ⟨hsensors, hmode, hperiod⟩ := State.scanCommand_keeps (s := s.storeScan m stored) (m := m)
    refine ⟨(s.storeScan m stored).scanCommand m, request_answered ht (scanControlReq_eq hm hg), hmode, hperiod,
      hsensors, fun hb => ?_, fun hb g hread => ?_, State.scanCommand_ends (s := s.storeScan m stored) (hm := rfl)⟩
    · obtain ⟨st, timer, e⟩ := State.scanCommand_setScan (s := s.storeScan m stored) hb
      exact ⟨by rw [e]; rfl, by rw [e]; rfl, State.scanCommand_table (s := s.storeScan m stored) hb⟩
    · obtain ⟨hstate, htimer⟩ := State.scanCommand_sweeps (s := s.storeScan m stored) hb hread
      obtain ⟨hcheck, hx, -⟩ := hread
      refine ⟨hstate, htimer, fun hf hl i r hr hreg hlow => ?_⟩
      rw [State.scanCommand_begins (s := s.storeScan m stored) hb]
      exact State.beginSweep_reads hcheck hx hf hl hr hreg hlow
  · rw [exec_scanTimerExpiry hp, State.scanExpiry_none hstill]
  · rw [exec_scanTimerExpiry hp, State.scanExpiry_waiting htimer hf hs hmode]
    obtain ⟨hsensors, -, -, hoverruns⟩ := State.beginSweep_keeps (s := s) (timer := some s.scanner.period)
    refine ⟨_, rfl, State.beginSweep_timer hmode, hoverruns, hsensors, fun g hcheck hx hl i r hr hreg hlow => ⟨?_,
      State.beginSweep_reads hcheck hx hf hl hr hreg hlow⟩⟩
    rw [State.beginSweep_launch (g := g) ⟨hcheck, hx, i, r, hr, hreg⟩]
    obtain ⟨x, e⟩ := State.launch_frame (s := s) (timer := some s.scanner.period)
    rw [e]
  · rw [exec_scanTimerExpiry hp, State.scanExpiry_sweeping htimer hf hs]

end Sys2Proof.Machine
end

section
/-! SUPPORT. The ground of the state: what the library, the touch unit, the rack controller, the zone monitor, the change
sequencer and the attention unit leave alone, and that each of their operations does so. -/

namespace Sys2Proof.Machine

/-! ### The ground -/

/-- The fields no block writes but the axis unit, the scanner, the compensation engine and the supply. -/
structure Ground where
  oneArm : Bool
  powered : Bool
  frz : Bool
  arms : Two ArmAxes
  scanner : Scanner
  coefficients : Coefficients
  factors : Factors
  pending : List Instr

def State.ground (s : State) : Ground :=
  { oneArm := s.oneArm, powered := s.powered, frz := s.frz, arms := s.arms, scanner := s.scanner,
    coefficients := s.comp.coefficients, factors := s.comp.factors, pending := s.pending }

section
variable {s t : State} {a : Arm} {p : Fin 20} {i : Fin 64} {n : Nat} {r : ChangeResult}

@[simp] theorem State.ground_ite {c : Prop} [Decidable c] :
    (if c then s else t).ground = if c then s.ground else t.ground := apply_ite ..

@[simp] theorem State.ground_mk (oneArm powered frz : Bool) (library : Library) (arms : Two ArmAxes) (scanner : Scanner)
    (comp : Compensation) (touch : Two TouchRecord) (rack : Rack) (sequencer : Sequencer) (zones : ZoneMonitor)
    (attention : Attention) (link : Link) (mail : List Message) (answer : Option Answer) (pending : List Instr) :
    (State.mk oneArm powered frz library arms scanner comp touch rack sequencer zones attention link mail answer
      pending).ground =
      { oneArm, powered, frz, arms, scanner, coefficients := comp.coefficients, factors := comp.factors, pending } := rfl

@[simp] theorem State.ground_eta : Ground.mk s.oneArm s.powered s.frz s.arms s.scanner s.comp.coefficients
    s.comp.factors s.pending = s.ground := rfl

/-! ### The named updates -/

@[simp] theorem State.setTip_ground (i : Fin 64) (v : TipSlot) : (s.setTip i v).ground = s.ground := rfl

@[simp] theorem State.setTouch_ground (v : TouchRecord) : (s.setTouch a v).ground = s.ground := rfl

@[simp] theorem State.disarm_ground : (s.disarm a).ground = s.ground := rfl

@[simp] theorem State.setPocket_ground (v : Pocket) : (s.setPocket p v).ground = s.ground := rfl

@[simp] theorem State.setArbiter_ground (v : Arbiter) : (s.setArbiter v).ground = s.ground := rfl

@[simp] theorem State.setQueue_ground (v : List Arm) : (s.setQueue v).ground = s.ground := rfl

@[simp] theorem State.setGrantTimer_ground (v : Timer) : (s.setGrantTimer v).ground = s.ground := rfl

@[simp] theorem State.setChange_ground (v : Change) : (s.setChange a v).ground = s.ground := rfl

@[simp] theorem State.setHead_ground (v : Head) : (s.setHead a v).ground = s.ground := rfl

@[simp] theorem State.setHold_ground (v : HoldRecord) : (s.setHold a v).ground = s.ground := rfl

@[simp] theorem State.setCauses_ground (v : Causes) : (s.setCauses a v).ground = s.ground := rfl

@[simp] theorem State.setZone_ground (z : Fin 16) (v : Option Zone) : (s.setZone z v).ground = s.ground := rfl

@[simp] theorem State.setFormations_ground (v : List FormationCause) : (s.setFormations a v).ground = s.ground := rfl

@[simp] theorem State.askFormation_ground : (s.askFormation a).ground = s.ground := rfl

@[simp] theorem State.askReformation_ground : (s.askReformation a).ground = s.ground := rfl

@[simp] theorem State.setSource_ground (k : Fin 14) (v : SourceRecord) : (s.setSource k v).ground = s.ground := rfl

@[simp] theorem State.setLink_ground (v : Link) : (s.setLink v).ground = s.ground := rfl

@[simp] theorem State.send_ground (v : Message) : (s.send v).ground = s.ground := rfl

@[simp] theorem State.setAnswer_ground (v : Answer) : (s.setAnswer v).ground = s.ground := rfl

@[simp] theorem State.enterStage_ground (st : ChangeState) (t : Timer) :
    (s.enterStage a st t).ground = s.ground := rfl

@[simp] theorem State.stopTimer_ground : (s.stopTimer a).ground = s.ground := rfl

@[simp] theorem State.abandonRead_ground : (s.abandonRead a).ground = s.ground := rfl

@[simp] theorem State.dropOpened_ground : (s.dropOpened a p).ground = s.ground := rfl

@[simp] theorem State.headBecomes_ground (v : HeadState) : (s.headBecomes a v).ground = s.ground := rfl

@[simp] theorem State.setLid_ground (lid : LidState) (drive : Bool) (timer : Timer) :
    (s.setLid p lid drive timer).ground = s.ground := rfl

@[simp] theorem State.startLid_ground (lid : LidState) (drive : Bool) :
    (s.startLid p lid drive).ground = s.ground := rfl

@[simp] theorem State.clearForeign_ground : (s.clearForeign p).ground = s.ground := rfl

@[simp] theorem State.headBecomesTip_ground (allow : Bool) : (s.headBecomesTip a allow).ground = s.ground := rfl

@[simp] theorem State.refusesReport_ground : (s.refusesReport.state).ground = s.ground := rfl

@[simp] theorem State.goBlind_ground : (s.goBlind a).ground = s.ground := rfl

@[simp] theorem State.mapHolds_ground (f : HoldRecord → HoldRecord) : (s.mapHolds f).ground = s.ground := rfl

@[simp] theorem State.moduleEdge_ground (level : Bool) : (s.moduleEdge a level).ground = s.ground := rfl

@[simp] theorem State.badFrame_ground (n : Nat) : (s.badFrame n).ground = s.ground := rfl

@[simp] theorem State.unknownCode_ground (n : Nat) : (s.unknownCode n).ground = s.ground := rfl

@[simp] theorem State.configure_ground (l : List ConfigEntry) : (s.configure l).ground = s.ground := rfl

/-! ### Flags and hold causes (spec 10, R170) -/

@[simp] theorem State.raise_ground (src : AttnSource) : (s.raise src).ground = s.ground := by simp [State.raise]

@[simp] theorem State.addCause_ground (c : HoldCause) : (s.addCause a c).ground = s.ground := by simp [State.addCause]

/-! ### The touch unit (spec 06) -/

@[simp] theorem State.touchEffect_ground (q : Point) (o : TouchOutcome) :
    (s.touchEffect a q o).ground = s.ground := by
  unfold State.touchEffect
  split <;> simp

@[simp] theorem State.acceptTouch_ground : (s.acceptTouch a).ground = s.ground := by
  unfold State.acceptTouch
  split <;> simp

@[simp] theorem State.triggerEdge_ground : (s.triggerEdge a).ground = s.ground := by simp [State.triggerEdge]

@[simp] theorem State.triggerRelease_ground : (s.triggerRelease a).ground = s.ground := by simp [State.triggerRelease]

@[simp] theorem State.computeTouch_ground : (s.computeTouch a).ground = s.ground := by
  unfold State.computeTouch
  split <;> simp

@[simp] theorem State.placePoint_ground : (s.placePoint a).ground = s.ground := by
  simp only [State.placePoint]
  split
  · rfl
  · split <;> simp

/-! ### Lids and the arbiter (spec 07) -/

@[simp] theorem State.jam_ground : (s.jam p).ground = s.ground := by simp [State.jam]

@[simp] theorem State.closeLid_ground : (s.closeLid p).2.ground = s.ground := by
  simp only [State.closeLid]
  repeat' split
  all_goals simp

@[simp] theorem State.openLid_ground : (s.openLid a p).2.ground = s.ground := by
  simp only [State.openLid]
  repeat' split
  all_goals simp

@[simp] theorem State.reexamine_ground : s.reexamine.ground = s.ground := by
  have hat (l : List (Fin 20)) : ∀ s : State, (l.foldl State.reexamineAt s).ground = s.ground := by
    induction l with
    | nil => exact fun _ => rfl
    | cons p l ih => exact fun s => (ih _).trans (by simp [State.reexamineAt])
  exact hat _ s

@[simp] theorem State.lidSense_ground : (s.lidSense p).ground = s.ground := by
  simp only [State.lidSense]
  split <;> simp

@[simp] theorem State.lidExpiry_ground : (s.lidExpiry p).ground = s.ground := by simp [State.lidExpiry]

@[simp] theorem State.senseChange_ground : (s.senseChange p).ground = s.ground := by simp [State.senseChange]

@[simp] theorem State.grantTest_ground : s.grantTest.ground = s.ground := by
  unfold State.grantTest
  split <;> simp

@[simp] theorem State.rackRequest_ground : (s.rackRequest a).2.ground = s.ground := by
  unfold State.rackRequest
  repeat' split
  all_goals simp

@[simp] theorem State.freeRack_ground : s.freeRack.ground = s.ground := by simp [State.freeRack]

@[simp] theorem State.releaseIfDone_ground : s.releaseIfDone.ground = s.ground := by
  unfold State.releaseIfDone
  split <;> simp

@[simp] theorem State.rackEntry_ground : (s.rackEntry a).ground = s.ground := by
  unfold State.rackEntry
  split <;> simp

@[simp] theorem State.rackExit_ground : (s.rackExit a).ground = s.ground := by
  unfold State.rackExit
  split <;> simp

@[simp] theorem State.rackChangeEnded_ground : (s.rackChangeEnded a).ground = s.ground := by
  unfold State.rackChangeEnded
  repeat' split
  all_goals simp

@[simp] theorem State.grantExpiry_ground : s.grantExpiry.ground = s.ground := by
  unfold State.grantExpiry
  split <;> simp

@[simp] theorem State.tellLockedOut_ground (arms : List Arm) : (s.tellLockedOut arms).ground = s.ground := by
  unfold State.tellLockedOut
  induction arms generalizing s with
  | nil => rfl
  | cons b l ih => exact (ih ..).trans rfl

@[simp] theorem State.doubleFault_ground : (s.doubleFault a).ground = s.ground := by simp [State.doubleFault]

/-! ### The zone monitor (spec 09) -/

@[simp] theorem State.reportRack_ground (entered left : Bool) : (s.reportRack a entered left).ground = s.ground := by
  simp [State.reportRack]

@[simp] theorem State.judgeOne_ground (j : Judgement) : (s.judgeOne j).ground = s.ground := by simp [State.judgeOne]

@[simp] theorem State.judgeIf_ground (j : Option Judgement) : (s.judgeIf j).ground = s.ground := by
  unfold State.judgeIf
  split <;> simp

@[simp] theorem State.judge_ground (named : ZoneSet) (claims : Bool) :
    (s.judge a named claims).ground = s.ground := by simp [State.judge]

@[simp] theorem State.judgeAtRack_ground : (s.judgeAtRack a).ground = s.ground := by
  unfold State.judgeAtRack
  split <;> simp

@[simp] theorem State.takeGrantee_ground (q : Option Arm) : (s.takeGrantee q).ground = s.ground := by
  unfold State.takeGrantee
  split <;> simp

@[simp] theorem State.noticeGrantee_ground (q : Option Arm) : (s.noticeGrantee q).ground = s.ground := by
  simp [State.noticeGrantee]

@[simp] theorem State.judgeZone_ground (z : Fin 16) : (s.judgeZone z).ground = s.ground := by simp [State.judgeZone]

@[simp] theorem State.writeZone_ground (z : Fin 16) (kind : ZoneKind) (box : Box) (margin : Int) :
    (s.writeZone z kind box margin).ground = s.ground := by simp [State.writeZone]

@[simp] theorem State.releaseHold_ground : (s.releaseHold a).ground = s.ground := by simp [State.releaseHold]

@[simp] theorem State.form_ground : (s.form a).ground = s.ground := by
  unfold State.form
  split <;> simp

/-! ### The guard state and axis faults (R27, R35) -/

@[simp] theorem State.guardChange_ground (was : Bool) : (s.guardChange a was).ground = s.ground := by
  unfold State.guardChange
  split <;> simp

@[simp] theorem State.axisFault_ground (was : Bool) : (s.axisFault a was).ground = s.ground := by
  simp [State.axisFault]

/-! ### The moves of a tip record and the reports about it (R8, R18 to R20) -/

@[simp] theorem State.moveTip_ground (v : Tip) (loc : Location) : (s.moveTip i v loc).ground = s.ground := by
  unfold State.moveTip
  split <;> simp

@[simp] theorem State.loseMounted_ground (keep : Option (Fin 64)) : (s.loseMounted a keep).ground = s.ground := by
  simp [State.loseMounted]

@[simp] theorem State.stowReleaseBegins_ground : (s.stowReleaseBegins a i).state.ground = s.ground := by
  unfold State.stowReleaseBegins
  split
  · split <;> simp
  · rfl

@[simp] theorem State.stowTransferComplete_ground : (s.stowTransferComplete a i).state.ground = s.ground := by
  unfold State.stowTransferComplete
  split
  · split <;> simp
  · rfl

@[simp] theorem State.pickBegins_ground : (s.pickBegins a i).state.ground = s.ground := by
  unfold State.pickBegins
  split
  · split <;> simp
  · rfl

@[simp] theorem State.identityMatched_ground : (s.identityMatched a i).state.ground = s.ground := by
  unfold State.identityMatched
  split
  · split <;> simp
  · rfl

@[simp] theorem State.transitResolved_ground (occupied : Bool) :
    (s.transitResolved a i occupied).state.ground = s.ground := by
  unfold State.transitResolved
  split
  · split <;> simp
  · rfl

@[simp] theorem State.identityUnmatched_ground (id : Option Word) :
    (s.identityUnmatched a id).state.ground = s.ground := by simp [State.identityUnmatched]

@[simp] theorem State.identityReport_ground (id : Option Word) : (s.identityReport a id).state.ground = s.ground := by
  unfold State.identityReport
  repeat' split
  all_goals simp

@[simp] theorem State.moduleLost_ground : (s.moduleLost a).state.ground = s.ground := by
  unfold State.moduleLost
  split <;> simp

@[simp] theorem State.libraryHomeEmpty_ground : (s.libraryHomeEmpty p).state.ground = s.ground := by
  unfold State.libraryHomeEmpty
  repeat' split
  all_goals simp

@[simp] theorem State.libraryHomeOccupied_ground : (s.libraryHomeOccupied p).state.ground = s.ground := by
  unfold State.libraryHomeOccupied
  repeat' split
  all_goals simp

@[simp] theorem State.registrationClaim_ground (id : Word) : (s.registrationClaim id).2.ground = s.ground := by
  unfold State.registrationClaim
  split <;> simp

@[simp] theorem State.placeTip_ground (v : Tip) (claimed : Option Arm) :
    (s.placeTip i v claimed).ground = s.ground := by
  unfold State.placeTip
  split <;> simp

@[simp] theorem State.createTip_ground (id : Word) (cls : TipClass) : (s.createTip i id cls p).ground = s.ground := by
  simp [State.createTip]

@[simp] theorem State.rewriteTip_ground (v : Tip) (id : Word) (cls : TipClass) :
    (s.rewriteTip i v id cls p).ground = s.ground := by simp [State.rewriteTip]

/-! ### Comparison and report (R116 to R118) -/

@[simp] theorem State.seenEmpty_ground : (s.seenEmpty p).state.ground = s.ground := by
  simp only [State.seenEmpty]
  split <;> simp

@[simp] theorem State.seenOccupied_ground : (s.seenOccupied p).state.ground = s.ground := by
  simp only [State.seenOccupied]
  split <;> simp

@[simp] theorem State.compare_ground : (s.compare p).ground = s.ground := by
  unfold State.compare
  split <;> simp

@[simp] theorem State.compareIfWatched_ground : (s.compareIfWatched p).ground = s.ground := by
  simp [State.compareIfWatched]

@[simp] theorem State.takeReport_ground (q : PocketReport) : (s.takeReport a q).ground = s.ground := by
  simp only [State.takeReport]
  split <;> simp

@[simp] theorem State.occupancyChange_ground : (s.occupancyChange p).ground = s.ground := by
  simp [State.occupancyChange]

@[simp] theorem State.restartCompareAt_ground : (s.restartCompareAt p).ground = s.ground := by
  simp [State.restartCompareAt]

@[simp] theorem State.writePocket_ground (st : PocketState) (dock : Two (Option Box)) :
    (s.writePocket p st dock).ground = s.ground := by simp [State.writePocket]

/-! ### The change sequencer (spec 08) -/

@[simp] theorem State.discardStaged_ground : (s.discardStaged a).ground = s.ground := by simp [State.discardStaged]

@[simp] theorem State.completeAtOnce_ground : (s.completeAtOnce a).ground = s.ground := by simp [State.completeAtOnce]

theorem State.closeAt_ground (h : s.closeAt a p = some t) : t.ground = s.ground := by
  have hl := s.closeLid_ground (p := p)
  unfold State.closeAt at h
  split at h <;> rename_i he <;> rw [he] at hl <;> cases h <;> exact hl

@[simp] theorem State.closeAll_ground (lids : List (Fin 20)) : (s.closeAll a lids).1.ground = s.ground := by
  unfold State.closeAll
  generalize false = jammed
  induction lids generalizing s jammed with
  | nil => rfl
  | cons p l ih =>
    rw [List.foldl_cons]
    dsimp only
    split
    · exact (ih ..).trans rfl
    · rename_i ht
      exact (ih ..).trans (State.closeAt_ground ht)

@[simp] theorem State.sendReport_ground (pocket : Option (Fin 20)) (suppressed stow : Bool) :
    (s.sendReport a pocket suppressed stow).ground = s.ground := by simp [State.sendReport]

@[simp] theorem State.finishChange_ground : (s.finishChange a r).ground = s.ground := by simp [State.finishChange]

@[simp] theorem State.endChange_ground : (s.endChange a r).ground = s.ground := by simp [State.endChange]

@[simp] theorem State.faultChange_ground : (s.faultChange a r).ground = s.ground := by simp [State.faultChange]

@[simp] theorem State.resolveTransit_ground (tip : Option (Fin 64)) : (s.resolveTransit a tip).ground = s.ground := by
  unfold State.resolveTransit
  split <;> simp

@[simp] theorem State.resolveAndEnd_ground : (s.resolveAndEnd a).ground = s.ground := by simp [State.resolveAndEnd]

@[simp] theorem State.identifyHead_ground : (s.identifyHead a).ground = s.ground := by simp [State.identifyHead]

@[simp] theorem State.changeDoubleFault_ground : (s.changeDoubleFault a).ground = s.ground := by
  simp [State.changeDoubleFault]

@[simp] theorem State.enterFetchApproach_ground : (s.enterFetchApproach a).ground = s.ground := by
  simp [State.enterFetchApproach]

@[simp] theorem State.takeGrant_ground : (s.takeGrant a).ground = s.ground := by simp [State.takeGrant]

@[simp] theorem State.acceptChange_ground (q : ChangeRequest) : (s.acceptChange a q).ground = s.ground := by
  have h := State.rackRequest_ground (s := (s.setChange a ((s.change a).accepted q (s.mountedTip a))).disarm a) (a := a)
  simp only [State.acceptChange]
  split <;> rename_i e <;> rw [e] at h <;> simpa using h

@[simp] theorem State.startStaged_ground : (s.startStaged a).ground = s.ground := by
  simp only [State.startStaged]
  split
  · rfl
  · split <;> simp

@[simp] theorem State.completeChange_ground : (s.completeChange a).ground = s.ground := by simp [State.completeChange]

@[simp] theorem State.openAt_ground (next : ChangeState) : (s.openAt a p next).ground = s.ground := by
  have h := State.openLid_ground (s := s.stopTimer a) (a := a) (p := p)
  unfold State.openAt
  split <;> rename_i e <;> rw [e] at h <;> simpa using h

@[simp] theorem State.beginStow_ground : (s.beginStow a p).ground = s.ground := by
  unfold State.beginStow
  split <;> simp

@[simp] theorem State.completeStow_ground : (s.completeStow a p).ground = s.ground := by
  unfold State.completeStow
  split <;> simp

@[simp] theorem State.beginPick_ground : (s.beginPick a p).ground = s.ground := by
  unfold State.beginPick
  split <;> simp

@[simp] theorem State.beginIdentify_ground : (s.beginIdentify a).ground = s.ground := by simp [State.beginIdentify]

@[simp] theorem State.closeStowLid_ground : (s.closeStowLid a p).ground = s.ground := by
  unfold State.closeStowLid
  split
  · simp
  · rename_i e
    simpa using State.closeAt_ground e

@[simp] theorem State.clearStage_ground : (s.clearStage a p).ground = s.ground := by
  unfold State.clearStage
  split
  · dsimp only
    split
    · split
      · simp
      · rename_i e
        simpa using State.closeAt_ground e
    · rfl
  · simp

@[simp] theorem State.makeRackSafe_ground : (s.makeRackSafe a).ground = s.ground := by
  simp only [State.makeRackSafe]
  split <;> simp

@[simp] theorem State.advance_ground : (s.advance a).ground = s.ground := by
  simp only [State.advance]
  split <;> simp

@[simp] theorem State.lidNews_ground : (s.lidNews a p).ground = s.ground := by
  unfold State.lidNews
  split <;> simp

@[simp] theorem State.pocketFault_ground : (s.pocketFault a).ground = s.ground := by simp [State.pocketFault]

@[simp] theorem State.occupancyNews_ground : (s.occupancyNews a p).ground = s.ground := by
  unfold State.occupancyNews
  split <;> simp

@[simp] theorem State.takeLapse_ground : (s.takeLapse a).ground = s.ground := by simp [State.takeLapse]

@[simp] theorem State.takeLockout_ground : (s.takeLockout a).ground = s.ground := by simp [State.takeLockout]

@[simp] theorem State.stepExpiry_ground : (s.stepExpiry a).ground = s.ground := by simp [State.stepExpiry]

/-! ### Messages (log 5) -/

@[simp] theorem State.takeMessage_ground (w : Message) : (s.takeMessage w).ground = s.ground := by
  cases w <;> simp [State.takeMessage, State.tellBoth]

/-! ### The head and the identity reader (R136, R137, R149, R158) -/

@[simp] theorem State.headEvent_ground : (s.headEvent a).ground = s.ground := by
  unfold State.headEvent
  cases (s.head a).modulePresent <;> cases (s.head a).state
  case false.tip => simp
  all_goals rfl

@[simp] theorem State.moduleChanged_ground : (s.moduleChanged a).ground = s.ground := by
  simp only [State.moduleChanged]
  split <;> simp

@[simp] theorem State.moduleDebounced_ground : (s.moduleDebounced a).ground = s.ground := by
  simp [State.moduleDebounced]

@[simp] theorem State.identityRead_ground (id : Word) : (s.identityRead a id).ground = s.ground := by
  unfold State.identityRead
  split <;> simp

@[simp] theorem State.readEnds_ground (id : Option Word) : (s.readEnds a id).ground = s.ground := by
  simp only [State.readEnds]
  repeat' split
  all_goals simp

@[simp] theorem State.attemptFails_ground : (s.attemptFails a n).ground = s.ground := by simp [State.attemptFails]

@[simp] theorem State.identityAnswer_ground (id : Word) (correct : Bool) :
    (s.identityAnswer a id correct).ground = s.ground := by
  unfold State.identityAnswer
  split <;> simp

@[simp] theorem State.attemptTimeout_ground : (s.attemptTimeout a).ground = s.ground := by
  unfold State.attemptTimeout
  split <;> simp

/-- No message between blocks touches the ground. -/
@[simp] theorem State.settle_ground : s.settle.ground = s.ground := by
  have h := State.settle_keeps (P := fun u => u.ground = s.ground) (fun _ _ h => h)
    (fun _ _ h => (State.takeMessage_ground ..).trans h) s rfl
  exact h

/-! ### Answers and frames (spec 11, R197) -/

@[simp] theorem State.answered_ground (v : Applied) (yes no : Answer) :
    (State.answered v yes no).ground = v.state.ground := rfl

@[simp] theorem State.homeReport_ground (v : Applied) (hv : v.state.ground = s.ground) :
    (s.homeReport p v).ground = s.ground := by simp [State.homeReport, hv]

theorem State.judged_ground {f : State → State} (bytes : List Byte) (v : FrameVerdict)
    (h : (f s).ground = s.ground) : (s.judged bytes v f).ground = s.ground := by
  have hd (n : Nat) : (s.discardFrame n).ground = s.ground := rfl
  simp [State.judged, hd, h]

@[simp] theorem State.longList_ground (c : Instr) : (s.longList c).ground = s.ground := by
  unfold State.longList State.event
  split
  · exact State.judged_ground (f := fun s => s.badFrame (listFrame c).length) _ _ rfl
  · rfl

/-! ### The requests of these blocks -/

@[simp] theorem tipWriteReq_ground (tip : Byte) (id : Word) (cls home : Byte) :
    (tipWriteReq tip id cls home s).state.ground = s.ground := by
  simp only [tipWriteReq, tipWriteBody]
  repeat' split
  all_goals simp

@[simp] theorem tipQualifyReq_ground (tip arm : Byte) (dx dy dz r : Word) (source : Byte) (temp : Word) :
    (tipQualifyReq tip arm dx dy dz r source temp s).state.ground = s.ground := by
  simp only [tipQualifyReq, tipQualifyBody]
  repeat' split
  all_goals simp [qualifyStore]

@[simp] theorem tipUnqualifyReq_ground (tip arm : Byte) : (tipUnqualifyReq tip arm s).state.ground = s.ground := by
  simp only [tipUnqualifyReq, tipUnqualifyBody]
  repeat' split
  all_goals simp

@[simp] theorem tipRetireReq_ground (tip : Byte) : (tipRetireReq tip s).state.ground = s.ground := by
  simp only [tipRetireReq, tipRetireBody]
  repeat' split
  all_goals simp

@[simp] theorem tipPurgeReq_ground (tip : Byte) : (tipPurgeReq tip s).state.ground = s.ground := by
  simp only [tipPurgeReq, tipPurgeBody]
  repeat' split
  all_goals simp

@[simp] theorem probeArmReq_ground (arm value : Byte) : (probeArmReq arm value s).state.ground = s.ground := by
  simp only [probeArmReq, probeArmBody]
  repeat' split
  all_goals simp

@[simp] theorem touchTakeReq_ground (arm : Byte) : (touchTakeReq arm s).state.ground = s.ground := by
  simp only [touchTakeReq, touchTakeBody]
  repeat' split
  all_goals simp

@[simp] theorem pocketWriteReq_ground (pocket state g0 : Byte) (box0 : Axes Bounds) (g1 : Byte) (box1 : Axes Bounds) :
    (pocketWriteReq pocket state g0 box0 g1 box1 s).state.ground = s.ground := by
  simp only [pocketWriteReq, pocketWriteBody]
  repeat' split
  all_goals simp

@[simp] theorem pocketClearForeignReq_ground (pocket : Byte) :
    (pocketClearForeignReq pocket s).state.ground = s.ground := by
  simp only [pocketClearForeignReq]
  repeat' split
  all_goals simp

@[simp] theorem rackUnlockReq_ground : (rackUnlockReq s).state.ground = s.ground := by
  unfold rackUnlockReq
  split <;> simp

@[simp] theorem changeReq_ground (arm target allow : Byte) :
    (changeReq arm target allow s).state.ground = s.ground := by
  simp only [changeReq, stageChange, startChange]
  repeat' split
  all_goals simp

@[simp] theorem changeAbortReq_ground (arm : Byte) : (changeAbortReq arm s).state.ground = s.ground := by
  simp only [changeAbortReq, changeAbortBody]
  repeat' split
  all_goals simp

@[simp] theorem zoneWriteReq_ground (zone kind arm : Byte) (box : Axes Bounds) (margin : Word) :
    (zoneWriteReq zone kind arm box margin s).state.ground = s.ground := by
  simp only [zoneWriteReq]
  repeat' split
  all_goals simp

@[simp] theorem zoneSuspendReq_ground (zone : Byte) : (zoneSuspendReq zone s).state.ground = s.ground := by
  simp only [zoneSuspendReq, zoneSuspendBody]
  repeat' split
  all_goals simp

@[simp] theorem zoneResumeReq_ground (zone : Byte) : (zoneResumeReq zone s).state.ground = s.ground := by
  simp only [zoneResumeReq, zoneResumeBody]
  repeat' split
  all_goals simp

@[simp] theorem zoneDeleteReq_ground (zone : Byte) : (zoneDeleteReq zone s).state.ground = s.ground := by
  simp only [zoneDeleteReq, zoneDeleteBody]
  repeat' split
  all_goals simp

@[simp] theorem holdReleaseReq_ground (arm : Byte) : (holdReleaseReq arm s).state.ground = s.ground := by
  simp only [holdReleaseReq, holdReleaseBody]
  repeat' split
  all_goals simp

@[simp] theorem attnFlagsReq_ground (named : List Byte) : (attnFlagsReq named s).state.ground = s.ground := by
  unfold attnFlagsReq
  split <;> rfl

@[simp] theorem attnConfigReq_ground (entries : List AttnEntry) :
    (attnConfigReq entries s).state.ground = s.ground := by
  simp only [attnConfigReq]
  repeat' split
  all_goals simp

@[simp] theorem attnTakeReq_ground : (attnTakeReq s).state.ground = s.ground := by
  unfold attnTakeReq
  split <;> rfl

@[simp] theorem attnReleaseReq_ground : (attnReleaseReq s).state.ground = s.ground := by
  unfold attnReleaseReq
  split <;> rfl

end

end Sys2Proof.Machine
end

section
/-! PROOF. FRZ and the limit after RESTART hold transactions back (O29). -/

namespace Sys2Proof.Machine

section
variable {s t u : State} {g : Strg} {i : Fin 16} {a : Arm}

/-! ### No transaction begins -/

/-- Whatever transaction is in flight on the string `d` was in flight on `c`, stale or not. -/
def FromLine (c d : StringControl) : Prop :=
  ∀ x, d.transaction = some x → ∃ y, c.transaction = some y ∧ y.address = x.address ∧ y.owner = x.owner

theorem FromLine.of_eq {c d : StringControl} (h : d.transaction = c.transaction) : FromLine c d :=
  fun x hx => ⟨x, h ▸ hx, rfl, rfl⟩

theorem FromLine.of_none {c d : StringControl} (h : d.transaction = none) : FromLine c d :=
  fun x hx => by simp [h] at hx

theorem FromLine.trans {c d e : StringControl} (h : FromLine c d) (h' : FromLine d e) : FromLine c e := by
  intro x hx
  obtain ⟨y, hy, ha, ho⟩ := h' x hx
  obtain ⟨z, hz, ha', ho'⟩ := h y hy
  exact ⟨z, hz, ha'.trans ha, ho'.trans ho⟩

/-- No transaction begins on a string held back by FRZ or by the limit (R60, R65). -/
def NoneBegun (s t : State) : Prop :=
  ∀ g, t.frz = true ∨ (t.string g).limit = true → FromLine (s.string g) (t.string g)

theorem NoneBegun.of_lines (h : ∀ g, FromLine (s.string g) (t.string g)) : NoneBegun s t := fun g _ => h g

theorem NoneBegun.after_lines (h : ∀ g, FromLine (s.string g) (t.string g)) (hu : NoneBegun t u) : NoneBegun s u :=
  fun g hg => (h g).trans (hu g hg)

/-- What leaves the strings and FRZ alone may follow. -/
theorem NoneBegun.same (h : NoneBegun s t) (hs : u.scanner.strings = t.scanner.strings) (hf : u.frz = t.frz) :
    NoneBegun s u := by
  intro g hg
  have hstring : u.string g = t.string g := by rw [State.string, hs, State.string]
  rw [hstring, hf] at hg
  rw [hstring]
  exact h g hg

theorem NoneBegun.refl (s : State) : NoneBegun s s := .of_lines fun _ => .of_eq rfl

theorem NoneBegun.of_same (hs : t.scanner.strings = s.scanner.strings) (hf : t.frz = s.frz) : NoneBegun s t :=
  (NoneBegun.refl s).same hs hf

theorem NoneBegun.ground (h : NoneBegun s t) (hu : u.ground = t.ground) : NoneBegun s u :=
  h.same (congrArg (fun m => m.scanner.strings) hu) (congrArg Ground.frz hu)

theorem NoneBegun.of_ground (h : t.ground = s.ground) : NoneBegun s t := (NoneBegun.refl s).ground h

theorem NoneBegun.swept (h : NoneBegun s t) (w : Swept t u) : NoneBegun s u := h.same w.strings w.frz

theorem NoneBegun.ite {c : Prop} [Decidable c] (ht : NoneBegun s t) (hu : NoneBegun s u) :
    NoneBegun s (if c then t else u) := by
  split
  · exact ht
  · exact hu

/-! ### The strings (R54, R60 to R62, R65) -/

theorem State.kick_keeps_line (hg : s.frz = true ∨ (s.string g).limit = true) :
    FromLine (s.string g) ((s.kick g).string g) := by
  cases hx : (s.string g).transaction with
  | none => exact .of_none (State.kick_waits hx hg)
  | some x => exact .of_eq (by rw [State.kick_of_transaction hx])

theorem NoneBegun.kick : NoneBegun s (s.kick g) := by
  intro h hh
  rw [State.kick_frz, State.kick_limit] at hh
  by_cases e : g = h
  · subst e
    exact State.kick_keeps_line hh
  · rw [State.kick_string_ne e]
    exact .of_eq rfl

theorem NoneBegun.goOn : NoneBegun s (s.goOn g) := NoneBegun.kick.swept State.goOn_swept

theorem NoneBegun.kickBoth : NoneBegun s ((s.kick .zero).kick .one) := by
  intro g hg
  obtain ⟨v, hv, hstring, hfrz, -⟩ := State.kickBoth_string s g
  rw [State.kick_frz, State.kick_frz, State.kick_limit, State.kick_limit, ← hfrz, ← hstring] at hg
  rw [hv, ← hstring]
  exact State.kick_keeps_line hg

/-- A change of one string that begins no transaction. -/
theorem State.setString_lines {v : StringControl} (hv : FromLine (s.string g) v) (h : Strg) :
    FromLine (s.string h) ((s.setString g v).string h) := by
  rw [State.string_setString]
  split
  · rename_i e
    exact e ▸ hv
  · exact .of_eq rfl

theorem NoneBegun.transactionEnds {e : LineEnd} : NoneBegun s (s.transactionEnds g e) := by
  cases hx : (s.string g).transaction with
  | none =>
    rw [State.transactionEnds_none hx]
    exact .refl s
  | some x =>
    have hfree : ∀ h, FromLine (s.string h) ((s.freeLine g).string h) := State.setString_lines (.of_none rfl)
    cases ho : x.owner with
    | sweep =>
      rw [State.transactionEnds_sweep hx ho]
      exact .after_lines (fun h => by rw [State.sweepReading_string]; exact hfree h) .goOn
    | lineCheck =>
      rw [State.transactionEnds_lineCheck hx ho]
      refine .after_lines (fun h => (hfree h).trans ?_) .goOn
      obtain ⟨r, hr⟩ := State.checkReading_frame (s := s.freeLine g) (g := g) x e
      rw [hr]
      exact State.setString_lines (s := s.freeLine g)
        (v := { (s.freeLine g).string g with check := (s.freeLine g).checkAfter g x e }) (.of_eq rfl) h

theorem StringControl.passStarted_transaction (c : StringControl) : c.passStarted.transaction = c.transaction := by
  unfold StringControl.passStarted
  split <;> rfl

theorem NoneBegun.beginSweep {timer : Timer} : NoneBegun s (s.beginSweep timer) := by
  refine (NoneBegun.after_lines (t := ((s.setScan .sweeping timer).startPass .zero).startPass .one) (fun g => ?_)
    .kickBoth).swept State.beginSweep_swept
  rw [State.startPass_eq, State.startPass_eq]
  cases g <;> exact .of_eq (StringControl.passStarted_transaction _)

theorem NoneBegun.scanExpiry : NoneBegun s s.scanExpiry := by
  simp only [State.scanExpiry]
  split
  · split
    · exact .beginSweep
    · split <;> exact .of_same rfl rfl
  · exact .refl s

theorem NoneBegun.thaw : NoneBegun s s.thaw := by
  have hkicked : NoneBegun s ((({ s with frz := false } : State).kick .zero).kick .one) :=
    .after_lines (fun _ => .of_eq rfl) .kickBoth
  exact hkicked.swept State.endIfSwept_swept

theorem NoneBegun.limitEnds : NoneBegun s (s.limitEnds g) :=
  .after_lines (State.setString_lines (v := { s.string g with limit := false }) (.of_eq rfl)) .goOn

/-! ### The requests -/

theorem NoneBegun.scanCommand {m : ScanMode} : NoneBegun s (s.scanCommand m) := by
  by_cases h : s.scanner.state.begins m
  · rw [State.scanCommand_begins h]
    exact .beginSweep
  · obtain ⟨st, timer, e⟩ := State.scanCommand_setScan h
    rw [e]
    exact .of_same rfl rfl

theorem NoneBegun.scanControlReq {mode given : Byte} {period : Word} :
    NoneBegun s (scanControlReq mode given period s).state := by
  unfold Machine.scanControlReq
  split
  · exact .after_lines (fun _ => .of_eq rfl) .scanCommand
  · exact .refl s

theorem NoneBegun.startCheck {n : Nat} : NoneBegun s (s.startCheck g n) := by
  refine .after_lines (t := s.setString g _) (State.setString_lines ?_) .goOn
  exact .of_eq rfl

theorem NoneBegun.lineCheckReq {string passes : Byte} : NoneBegun s (lineCheckReq string passes s).state := by
  unfold Machine.lineCheckReq
  split
  · exact .refl s
  · split
    · exact .refl s
    · exact .startCheck

/-- A transaction made stale is the one that was in flight. -/
theorem NoneBegun.makeTransactionStale : NoneBegun s (s.makeTransactionStale g i) := by
  rw [State.makeTransactionStale_eq]
  refine .of_lines (State.setString_lines fun x hx => ?_)
  obtain ⟨y, hy, rfl⟩ := Option.map_eq_some_iff.mp hx
  exact ⟨y, hy, rfl, rfl⟩

theorem NoneBegun.sensorWriteReq {string address binding : Byte} {trim : Word} {shift : Byte} :
    NoneBegun s (sensorWriteReq string address binding trim shift s).state := by
  unfold Machine.sensorWriteReq
  split
  · unfold sensorWriteBody
    split
    · exact .refl s
    · split
      · exact .refl s
      · simp only [State.writeSensor]
        split
        · exact .of_same rfl rfl
        · exact .after_lines (fun _ => .of_eq rfl) .makeTransactionStale
  · exact .refl s

theorem NoneBegun.sensorRetireReq {string address : Byte} : NoneBegun s (sensorRetireReq string address s).state := by
  unfold Machine.sensorRetireReq
  split
  · split
    · exact .refl s
    · exact .after_lines (fun _ => .of_eq rfl) .makeTransactionStale
  · exact .refl s

theorem NoneBegun.sensorReadReq {string address clear : Byte} :
    NoneBegun s (sensorReadReq string address clear s).state := by
  unfold Machine.sensorReadReq
  split
  · exact .ite (.of_same rfl rfl) (.refl s)
  · exact .refl s

theorem NoneBegun.setWindow {w k : Nat} : NoneBegun s (s.setWindow g w k) := by
  refine .of_lines fun h => .of_eq ?_
  rw [State.setWindow_string]
  split
  · rename_i e
    rw [e]
  · rfl

theorem NoneBegun.settingWriteReq {number : Byte} {value : Word} :
    NoneBegun s (settingWriteReq number value s).state := by
  unfold Machine.settingWriteReq
  split
  · exact .refl s
  · rename_i k _
    split
    · exact .refl s
    · cases k with
      | holdLimit =>
        obtain ⟨f, -, e⟩ := State.storeHoldLimit_eq (s := s) (n := s.settingClamp .holdLimit value)
        obtain ⟨r, c, l, e'⟩ := State.makeStale_frame
          (s := { s with scanner := { s.scanner with holdLimit := s.settingClamp .holdLimit value } }) f
        change NoneBegun s (s.storeSetting .holdLimit (s.settingClamp .holdLimit value))
        rw [e, e']
        exact .of_same rfl rfl
      | windowLength g => exact .setWindow
      | faultCount g => exact .setWindow
      | _ => exact .of_same rfl rfl

theorem NoneBegun.countersReadReq {clear : Byte} : NoneBegun s (countersReadReq clear s).state := by
  unfold Machine.countersReadReq
  split
  · exact .refl s
  · exact .ite (.of_same rfl rfl) (.refl s)

theorem NoneBegun.compSetupReq {al : Two (Axes Word)} {aw : Word} {w0 : Axes Word} :
    NoneBegun s (compSetupReq al aw w0 s).state := by
  simp only [Machine.compSetupReq, State.recompute]
  generalize formFactors _ _ = f
  obtain ⟨d, e⟩ := State.takeFactors_frame f
  rw [e]
  exact .of_same rfl rfl

/-! ### The axis unit (spec 02) -/

/-- A change of an arm's axes, and then of nothing of the ground. -/
theorem NoneBegun.arms {v : Two ArmAxes} (hu : u.ground = ({ s with arms := v } : State).ground) : NoneBegun s u :=
  (NoneBegun.of_same (t := { s with arms := v }) rfl rfl).ground hu

theorem NoneBegun.takePhase {k : Axis} {p : Phase} : NoneBegun s (s.takePhase a k p) := by
  simp only [State.takePhase]
  split
  · exact .of_same rfl rfl
  · exact .ite (.of_same rfl rfl) (.of_same rfl rfl)
  · exact .arms (by simp; rfl)

theorem NoneBegun.takeMark {k : Axis} : NoneBegun s (s.takeMark a k) := by
  simp only [State.takeMark]
  split
  · exact .arms (by simp; rfl)
  · exact .refl s

theorem NoneBegun.axisHomeReq {arm axis : Byte} {w : Word} : NoneBegun s (axisHomeReq arm axis w s).state := by
  unfold Machine.axisHomeReq
  split
  · split
    · exact .refl s
    · exact .arms (by simp [State.home]; rfl)
  · exact .refl s

theorem NoneBegun.armSetupReq {arm : Byte} {o : Axes Word} {d : Axes Byte} {z : Axes Word} :
    NoneBegun s (armSetupReq arm o d z s).state := by
  unfold Machine.armSetupReq
  split
  · split
    · exact .refl s
    · rename_i b e _ _ _
      rcases State.setupArm_cases (s := s) (a := b) (pointArg o) (pointArg z) e with h | h <;>
        simp only [h] <;> exact .of_same rfl rfl
  · exact .refl s

/-! ### Every request (R198) -/

theorem NoneBegun.restartBlocks : NoneBegun s s.restartBlocks := by
  refine .of_lines fun g => .of_none ?_
  cases g <;> rfl

theorem noneBegun_requestBody {c : Instr} {body : State → Reply} (hb : requestBody c = some body) :
    NoneBegun s (body s).state := by
  cases c <;> cases hb
  case restart => exact .restartBlocks
  case settingWrite => exact .settingWriteReq
  case countersRead => exact .countersReadReq
  case axisHome => exact .axisHomeReq
  case armSetup => exact .armSetupReq
  case compSetup => exact .compSetupReq
  case sensorWrite => exact .sensorWriteReq
  case sensorRetire => exact .sensorRetireReq
  case sensorRead => exact .sensorReadReq
  case scanControl => exact .scanControlReq
  case lineCheck => exact .lineCheckReq
  case identify | scanRead | groupRead | compRead | rackRead => exact .refl s
  all_goals exact .of_ground (by simp)

theorem NoneBegun.request {c : Instr} {body : State → Reply} (hb : requestBody c = some body) :
    NoneBegun s (s.request c body) := by
  rcases s.request_cases c body with ⟨-, e⟩ | ⟨-, -, e⟩ | ⟨-, -, -, e⟩ | ⟨-, e⟩ <;> rw [e]
  · exact .refl s
  · exact .of_same rfl rfl
  · exact .of_same rfl rfl
  · exact (noneBegun_requestBody hb).same rfl rfl

theorem NoneBegun.lateFrame {bytes : List Byte} : NoneBegun s (s.lateFrame bytes) := by
  unfold State.lateFrame
  split
  · rename_i code _ _ _
    obtain ⟨l, hl⟩ := s.judgeLate_frame code bytes
    obtain ⟨t, ht, hp⟩ := (s.judgeLate code bytes).progress_cases
    rw [hl] at ht hp
    have hst : NoneBegun s t := by
      rcases ht with rfl | ⟨code, payload, -, rfl⟩
      · exact .of_same rfl rfl
      · rcases (s.setLink l).takeExecuting_cases code payload with e | ⟨c, body, -, hb, m, e⟩ <;> rw [e]
        · exact .of_same rfl rfl
        · exact .after_lines (fun _ => .of_eq rfl)
            ((noneBegun_requestBody (s := s.setLink l) hb).ground (by simp))
    rw [hl]
    rcases hp with e | e <;> rw [e]
    · exact hst
    · obtain ⟨m, e⟩ := t.placeAnswer_frame
      rw [e]
      exact hst.same rfl rfl
  · exact .refl s

/-! ### Every command -/

theorem NoneBegun.event {f : State → State} (h : NoneBegun s (f s)) : NoneBegun s (s.event f) := .ite h (.refl s)

theorem NoneBegun.armEvent {f : State → State} (h : NoneBegun s (f s)) : NoneBegun s (s.armEvent a f) :=
  .ite h (.refl s)

/-- An event that leaves the ground alone. -/
theorem NoneBegun.eventGround {f : State → State} (h : (f s).ground = s.ground) : NoneBegun s (s.event f) :=
  .event (.of_ground h)

theorem NoneBegun.armEventGround {f : State → State} (h : (f s).ground = s.ground) : NoneBegun s (s.armEvent a f) :=
  .armEvent (.of_ground h)

theorem NoneBegun.settle (h : NoneBegun s t) : NoneBegun s t.settle := h.ground State.settle_ground

theorem NoneBegun.ageGroups : NoneBegun s s.ageGroups := by
  unfold State.ageGroups
  split
  · exact .refl s
  · exact .of_same rfl rfl

theorem NoneBegun.staleGroup {x : TempGroup} : NoneBegun s (s.staleGroup x) := by
  unfold State.staleGroup
  split
  · obtain ⟨r, c, l, e⟩ := State.makeStale_frame (s := s) fun y => y == x
    rw [e]
    exact .of_same rfl rfl
  · exact .refl s

theorem exec_noneBegun (c : Instr) (e : exec c s = .next t) : NoneBegun s t := by
  cases c <;> cases e
  case startUp => exact .of_lines fun g => .of_none (by cases g <;> rfl)
  case powerOn => exact .of_lines fun g => .of_none (by cases g <;> rfl)
  case badFrame bytes => exact .eventGround (State.judged_ground _ _ (State.badFrame_ground _))
  case unknownRequestCode => exact .eventGround (State.judged_ground _ _ (State.unknownCode_ground _))
  case discardedRequest => exact .event .lateFrame
  case collect n =>
    obtain ⟨l, hl⟩ := s.collect_frame n
    exact .event (by rw [hl]; exact .of_same rfl rfl)
  case restart => exact .event (.ite (.of_same rfl rfl) (.ite (.of_same rfl rfl) (NoneBegun.restartBlocks.same rfl rfl)))
  case attnFlags | attnConfig => exact .ite (.request rfl) (.of_ground (State.longList_ground _))
  case pocketWrite | change | changeAbort | zoneWrite | zoneResume | holdRelease =>
    exact .event (.settle (.request rfl))
  case quadraturePhase => exact .armEvent .takePhase
  case referenceMark => exact .armEvent .takeMark
  case transactionEnd => exact .event .transactionEnds
  case replyTimeout => exact .event .transactionEnds
  case scanTimerExpiry => exact .event .scanExpiry
  case frzActive => exact .event (.of_lines fun g => .of_eq rfl)
  case frzInactive => exact .event .thaw
  case holdAgeTick => exact .event .ageGroups
  case groupStale => exact .event .staleGroup
  case restartTransactionLimitEnd => exact .event .limitEnds
  case pocketInputEdge p input level => exact .eventGround (by cases input <;> rfl)
  case checkPointFormation | triggerLeadingEdge | triggerRelease | qualificationTimeEnd | touchComputation |
      pointRecordReturn | holdCauseAddition | openCommand | closeCommand | changePocketReport | rackRequest |
      entryReport | exitReport | changeEndedReport | doubleFaultReport | grantedMessage | lapsedMessage |
      lockedOutMessage | stepTimerExpiry | modulePresentEdge | modulePresentChange | identityReply |
      identityAttemptTimeout | stowReleaseBegins | stowTransferComplete | pickBegins | identityMatched |
      transitResolved | identityReport | moduleLost => exact .armEventGround (by simp)
  case raiseReport | observedOccupancyChange | lidSenseChange | lidTimerExpiry | grantTimerExpiry | granteeNotice |
      registrationClaim | homePocketSeenEmpty | homePocketSeenOccupied | restartComparison =>
    exact .eventGround (by simp)
  all_goals exact .request rfl

/-! ### The end of a transaction while the string is held back (R60, R65) -/

/-- What `goOn` finds at the end of a transaction: a free line, held back by the same FRZ and the same limit. -/
theorem State.transactionEnds_string {x : Transaction} {e : LineEnd} (hx : (s.string g).transaction = some x) :
    ∃ v : State, (s.transactionEnds g e).string g = (v.kick g).string g ∧ (v.string g).transaction = none ∧
      v.frz = s.frz ∧ (v.string g).limit = (s.string g).limit := by
  cases ho : x.owner with
  | sweep =>
    obtain ⟨v, hv, hstring, hfrz, -⟩ := State.sweep_string (e := e) hx ho
    exact ⟨v, hv, by rw [hstring], hfrz, by rw [hstring]⟩
  | lineCheck =>
    have hstring : ((s.freeLine g).checkReading g x e).string g =
        { s.string g with transaction := none, check := (s.freeLine g).checkAfter g x e } := by
      rw [State.checkReading_string, State.freeLine_string]
    refine ⟨(s.freeLine g).checkReading g x e, ?_, by rw [hstring], ?_, by rw [hstring]⟩
    · rw [State.transactionEnds_lineCheck hx ho, State.goOn_string]
    · obtain ⟨r, hr⟩ := State.checkReading_frame (s := s.freeLine g) (g := g) x e
      rw [hr]
      rfl

theorem State.transactionEnds_waits {e : LineEnd} (hg : s.frz = true ∨ (s.string g).limit = true) :
    ((s.transactionEnds g e).string g).transaction = none := by
  cases hx : (s.string g).transaction with
  | none => rw [State.transactionEnds_none hx, hx]
  | some x =>
    obtain ⟨v, hv, hnone, hfrz, hlimit⟩ := State.transactionEnds_string (e := e) hx
    rw [hv]
    exact State.kick_waits hnone (by rwa [hfrz, hlimit])

/-! ### What waited goes on (R54, R61, R62) -/

/-- `d` is the string `c` over the records `sensors` with what waited begun: the next reading of its pass, or that of its
line check. -/
def GoesOn (c : StringControl) (sensors : Fin 16 → Option Sensor) (d : StringControl) : Prop :=
  (∀ (last : Option (Fin 16)) (i : Fin 16) (r : Sensor), c.pass = .reading last →
    sensors i = some r → r.state ≠ .retired → (∀ l, last = some l → l < i) →
    (∀ j < i, (∀ l, last = some l → l < j) → ∀ q, sensors j = some q → q.state = .retired) →
    d.transaction = some { address := i, owner := .sweep, stale := false } ∧ d.pass = .reading (some i)) ∧
  (c.pass = .ended → c.check.state = .running →
    d.transaction = some { address := c.check.next, owner := .lineCheck, stale := false })

theorem State.kick_goes_on (hx : (s.string g).transaction = none) (hf : s.frz = false)
    (hl : (s.string g).limit = false) : GoesOn (s.string g) (s.sensor g) ((s.kick g).string g) := by
  refine ⟨fun last i r hp hr hreg habove hlow => ?_, fun hp hr => ?_⟩
  · rw [State.kick_reads hx hp (State.nextAddress_some hr hreg habove hlow) (State.mayBegin_iff.mpr ⟨hf, hl⟩)]
    exact ⟨rfl, rfl⟩
  · obtain ⟨-, hbegins, -⟩ := State.kick_serves hx hp
    exact hbegins hr hf hl

theorem State.thaw_string (g : Strg) : ∃ v : State, s.thaw.string g = (v.kick g).string g ∧ v.string g = s.string g ∧
    v.frz = false ∧ v.sensor g = s.sensor g := by
  obtain ⟨v, hv, hstring, hfrz, hsensor⟩ := State.kickBoth_string { s with frz := false } g
  exact ⟨v, (State.endIfSwept_swept.string g).trans hv, hstring, hfrz, funext hsensor⟩

theorem State.thaw_frame : s.thaw.frz = false ∧ s.thaw.scanner.sensors = s.scanner.sensors ∧
    { s.thaw with frz := s.frz, scanner := s.scanner, comp := s.comp, library := s.library,
                  attention := s.attention } = s := by
  obtain ⟨x, e⟩ := State.kickBoth_frame { s with frz := false }
  have w : Swept ((({ s with frz := false } : State).kick .zero).kick .one) s.thaw := State.endIfSwept_swept
  rw [e] at w
  exact ⟨w.frz, w.sensors, congrArg (fun v : State => { v with frz := s.frz, scanner := s.scanner }) w.frame⟩

/-- The string that goes on when its limit ends. -/
def State.endLimit (s : State) (g : Strg) : State := s.setString g { s.string g with limit := false }

theorem State.limitEnds_eq : s.limitEnds g = (s.endLimit g).goOn g := rfl

@[simp] theorem State.endLimit_string : (s.endLimit g).string g = { s.string g with limit := false } := by
  simp [State.endLimit]

theorem State.limitEnds_string : (s.limitEnds g).string g = ((s.endLimit g).kick g).string g := State.goOn_string

theorem State.limitEnds_other : (s.limitEnds g).string g.other = s.string g.other := by
  have hne : g ≠ g.other := by cases g <;> decide
  rw [State.limitEnds_eq, State.goOn_string, State.kick_string_ne hne, State.endLimit, State.string_setString,
    if_neg hne]

theorem State.limitEnds_frame :
    { s.limitEnds g with scanner := s.scanner, comp := s.comp, library := s.library,
                         attention := s.attention } = s := by
  have hgone := State.goOn_swept (s := s.endLimit g) (g := g)
  obtain ⟨x, p, e⟩ := (s.endLimit g).kick_frame g
  rw [e] at hgone
  exact congrArg (fun v : State => { v with scanner := s.scanner }) hgone.frame

end

/-- Settles O29: by what `kick`, the only place where a transaction begins, does on a string that is held back and on
one that is not. Every command but those of the scanner leaves the strings and FRZ alone. -/
theorem frzAndTheRestartLimitHoldTransactions : Obligations.FrzAndTheRestartLimitHoldTransactions := by
  refine ⟨fun c s t g x e hheld hx => exec_noneBegun c e g hheld x hx, fun c s g hp hheld hc => ?_,
    fun s hp => ⟨congrArg Host.Outcome.next (State.event_on _ _ hp), s.thaw,
      congrArg Host.Outcome.next (State.event_on _ _ hp), ?_⟩,
    fun s g hp => ⟨s.limitEnds g, congrArg Host.Outcome.next (State.event_on _ _ hp), ?_⟩⟩
  · obtain ⟨e, hexec⟩ := exec_ends_transaction hp hc
    exact ⟨_, hexec, State.transactionEnds_waits hheld⟩
  · obtain ⟨hfrz, hsensors, hframe⟩ := State.thaw_frame (s := s)
    refine ⟨hfrz, hsensors, hframe, fun g => ?_⟩
    obtain ⟨v, hv, hstring, hf, hsensor⟩ := State.thaw_string (s := s) g
    refine ⟨fun t ht => ?_, fun hx hl => ?_⟩
    · rw [hv, State.kick_of_transaction (by rwa [hstring]), hstring, ht]
    · have hgoes := State.kick_goes_on (s := v) (g := g) (by rwa [hstring]) hf (by rwa [hstring])
      rw [← hv, hstring, hsensor] at hgoes
      obtain ⟨hpass, hcheck⟩ := hgoes
      exact ⟨fun last i r hp hr hreg habove hlow => (hpass last i r hp hr hreg habove hlow).1, hcheck⟩
  · refine ⟨?_, State.goOn_sensors, State.limitEnds_other, State.limitEnds_frame, fun t ht => ?_, fun hx hf => ?_,
      fun hx hf => ?_⟩
    · rw [State.limitEnds_string, State.kick_limit, State.endLimit_string]
    · rw [State.limitEnds_string, State.kick_of_transaction (x := t) (by rwa [State.endLimit_string]),
        State.endLimit_string, ht]
    · rw [State.limitEnds_string]
      exact State.kick_waits (by rwa [State.endLimit_string]) (.inl hf)
    · have hgoes := State.kick_goes_on (s := s.endLimit g) (g := g) (by rwa [State.endLimit_string]) hf
        (by rw [State.endLimit_string])
      rw [← State.limitEnds_string, State.endLimit_string] at hgoes
      exact hgoes

end Sys2Proof.Machine
end

section
/-! PROOF. Rounding, and a factor formed from its coefficient and its group (O31). -/

namespace Sys2Proof.Machine

/-! ### Rounding (spec 00, section 5.1) -/

/-- The quotient of a number that is not negative: `d` times it lies within half a `d` of the number, and above the
number at a half. -/
theorem roundDiv_of_nonneg {n d : Int} (hn : 0 ≤ n) (hd : 0 < d) :
    0 ≤ roundDiv n d ∧ 2 * (d * roundDiv n d) ≤ 2 * n + d ∧ 2 * n + d < 2 * (d * roundDiv n d) + 2 * d := by
  have hlow : 2 * d * ((2 * n + d) / (2 * d)) ≤ 2 * n + d := Int.mul_ediv_self_le (by omega)
  have hhigh : 2 * n + d < 2 * d * ((2 * n + d) / (2 * d)) + 2 * d := Int.lt_mul_ediv_self_add (by omega)
  rw [mul_assoc] at hlow hhigh
  rw [roundDiv, if_pos hn]
  exact ⟨Int.ediv_nonneg (by omega) (by omega), hlow, hhigh⟩

/-- Rounding is the same on both sides of 0. -/
theorem roundDiv_of_neg {n d : Int} (hn : n < 0) : roundDiv n d = -roundDiv (-n) d := by
  rw [roundDiv, if_neg (not_le.mpr hn), roundDiv, if_pos (by omega)]

/-- `r` is `n / d` rounded to the nearest integer, a half away from zero (spec 00, section 5.1). -/
def IsNearest (n d r : Int) : Prop := 2 * |n - d * r| ≤ d ∧ (2 * |n - d * r| = d → |n| < d * |r|)

theorem IsNearest.neg {n d r : Int} (h : IsNearest n d r) : IsNearest (-n) d (-r) := by
  have hdiff : -n - d * -r = -(n - d * r) := by ring
  unfold IsNearest
  rw [hdiff, abs_neg, abs_neg, abs_neg]
  exact h

theorem roundDiv_isNearest_of_nonneg {n d : Int} (hn : 0 ≤ n) (hd : 0 < d) : IsNearest n d (roundDiv n d) := by
  obtain ⟨hr, hlow, hhigh⟩ := roundDiv_of_nonneg hn hd
  unfold IsNearest
  rw [abs_of_nonneg hn, abs_of_nonneg hr]
  rcases abs_cases (n - d * roundDiv n d) with ⟨habs, -⟩ | ⟨habs, -⟩ <;> rw [habs]
  · exact ⟨by omega, fun hhalf => by omega⟩
  · exact ⟨by omega, fun hhalf => by omega⟩

theorem roundDiv_isNearest (n : Int) {d : Int} (hd : 0 < d) : IsNearest n d (roundDiv n d) := by
  rcases le_or_gt 0 n with hn | hn
  · exact roundDiv_isNearest_of_nonneg hn hd
  · have hneg := (roundDiv_isNearest_of_nonneg (n := -n) (by omega) hd).neg
    rwa [neg_neg, ← roundDiv_of_neg hn] at hneg

/-! ### A factor (R75 to R77) -/

/-- The temperature difference of a group's value from 20 °C, limited to ±20,000 mK (R75). -/
def limitedDelta (v : Int) : Int := max (-20000) (min 20000 (v - 20000))

theorem factorValue_eq (alpha v : Int) : factorValue alpha v = roundDiv (alpha * limitedDelta v) 100 := by
  rw [factorValue, clamp_eq_max_min (by decide)]
  rfl

/-- TEMP_CLAMPED stands exactly when the limit acted (R77). -/
theorem tempClamped_iff (v : Int) : tempClamped v = true ↔ v - 20000 < -20000 ∨ 20000 < v - 20000 := by
  rw [tempClamped, outside, Bool.or_eq_true, decide_eq_true_iff, decide_eq_true_iff]
  rfl

/-- A factor within ±1,000,000 ppb: the difference and the coefficient are at most 20,000 and 5,000 (R76). -/
theorem factorValue_bounds {alpha : Int} (h0 : 0 ≤ alpha) (h1 : alpha ≤ 5000) (v : Int) :
    -1000000 ≤ factorValue alpha v ∧ factorValue alpha v ≤ 1000000 := by
  obtain ⟨hnear, -⟩ := roundDiv_isNearest (alpha * limitedDelta v) (d := 100) (by decide)
  have hdelta : |limitedDelta v| ≤ 20000 := by
    rw [abs_le, limitedDelta]
    omega
  have hprod : |alpha * limitedDelta v| ≤ 5000 * 20000 := by
    rw [abs_mul, abs_of_nonneg h0]
    exact mul_le_mul h1 hdelta (abs_nonneg _) (by decide)
  obtain ⟨hlow, hhigh⟩ := abs_le.mp hprod
  obtain ⟨hbelow, habove⟩ := abs_le.mp
    (show |alpha * limitedDelta v - 100 * roundDiv (alpha * limitedDelta v) 100| ≤ 50 by omega)
  rw [factorValue_eq]
  exact ⟨by omega, by omega⟩

/-- The marks of a group's state (R77). -/
def GroupState.marks (st : GroupState) (v : Int) : FactorMarks :=
  { tempClamped := tempClamped v
    held := match st with
      | .held _ _ => true
      | _ => false
    stale := match st with
      | .stale _ _ => true
      | _ => false
    uncompensated := false }

theorem formFactor_of_value (alpha : Int) {st : GroupState} {v : Int} (h : st.value = some v) :
    formFactor alpha st = { value := factorValue alpha v, marks := st.marks v } := by
  cases st with
  | empty => cases h
  | live w => cases h; rfl
  | held w n => cases h; rfl
  | stale w n => cases h; rfl

theorem GroupState.marks_held_iff (st : GroupState) {v : Int} (h : st.value = some v) :
    (st.marks v).held = true ↔ ∃ n, st = .held v n := by
  cases st <;> simp_all [GroupState.marks, GroupState.value]

theorem GroupState.marks_stale_iff (st : GroupState) {v : Int} (h : st.value = some v) :
    (st.marks v).stale = true ↔ ∃ n, st = .stale v n := by
  cases st <;> simp_all [GroupState.marks, GroupState.value]

theorem formFactor_bounds {alpha : Int} (h0 : 0 ≤ alpha) (h1 : alpha ≤ 5000) (st : GroupState) :
    -1000000 ≤ (formFactor alpha st).value ∧ (formFactor alpha st).value ≤ 1000000 := by
  cases hv : st.value with
  | none =>
    rw [(GroupState.value_eq_none_iff st).mp hv]
    exact ⟨show -1000000 ≤ (0 : Int) by decide, show (0 : Int) ≤ 1000000 by decide⟩
  | some v =>
    rw [formFactor_of_value alpha hv]
    exact factorValue_bounds h0 h1 v

/-- Settles O31: the quotient rounded, and a factor by the value of its group. -/
theorem factorsAreFormedFromGroups : Obligations.FactorsAreFormedFromGroups := by
  refine ⟨fun n d hd => roundDiv_isNearest n hd, fun alpha st => ⟨fun hempty => ?_, fun v hv => ?_,
    fun h0 h1 => formFactor_bounds h0 h1 st⟩⟩
  · rw [hempty]
    rfl
  · obtain ⟨hnear, hhalf⟩ := roundDiv_isNearest (alpha * limitedDelta v) (d := 100) (by decide)
    rw [formFactor_of_value alpha hv, factorValue_eq]
    refine ⟨hnear, fun he => ?_, tempClamped_iff v, rfl, st.marks_held_iff hv, st.marks_stale_iff hv⟩
    exact (hhalf he).trans_eq (abs_mul (100 : Int) _).symm

end Sys2Proof.Machine
end

section
/-! SUPPORT. What new factors in force ask for, and the factors formed for an arm (spec 04, R78, R79). -/

namespace Sys2Proof.Machine

variable {s : State}

/-- A REFERENCED arm whose scale factors change gets a check-point formation of its own, and no other arm does (R79). -/
theorem State.takeFactors_due (f : Factors) (a : Arm) : (s.takeFactors f).comp.formationDue.get a =
    s.comp.formationDue.get a ++
      if s.referenced a = true ∧ f.scale.get a ≠ s.comp.factors.scale.get a then [.recomputation] else [] := by
  simp only [State.takeFactors]
  cases a with
  | zero =>
    simp only [Two.get_zero]
    split <;> split <;> simp_all [State.askReformation, State.setFormations, State.referenced, State.present]
  | one =>
    simp only [Two.get_one]
    split <;> split <;> simp_all [State.askReformation, State.setFormations, State.referenced, State.present]

/-- Factors in force change nothing else but what is asked for. -/
theorem State.takeFactors_eq (f : Factors) : ∃ d, s.takeFactors f =
    { s with comp := { s.comp with factors := f, formationDue := d } } ∧ ∀ a, d.get a = s.comp.formationDue.get a ++
      if s.referenced a = true ∧ f.scale.get a ≠ s.comp.factors.scale.get a then [.recomputation] else [] := by
  obtain ⟨d, e⟩ := State.takeFactors_frame (s := s) f
  refine ⟨d, e, fun a => ?_⟩
  rw [← State.takeFactors_due, e]

theorem formFactors_scale (c : Coefficients) (r : Groups) (a : Arm) (i : Axis) :
    ((formFactors c r).scale.get a).get i = formFactor ((c.scale.get a).get i) (r.get (.scale a i)).state :=
  Option.some.inj (formFactors_at c r (.scale a i) nofun)

theorem formFactors_workpiece (c : Coefficients) (r : Groups) :
    (formFactors c r).workpiece = formFactor c.workpiece (r.get .workpiece).state := rfl

end Sys2Proof.Machine
end

section
/-! PROOF. COMP_SETUP (O33). -/

namespace Sys2Proof.Machine

/-! ### The arguments (spec 00, section 5.2; R73) -/

theorem coefficientArg_eq (w : Word) : coefficientArg w = max 0 (min 5000 w.toInt) := clamp_eq_max_min (by decide) _

theorem coefficientClamped_iff (w : Word) : coefficientClamped w = true ↔ coefficientArg w ≠ w.toInt :=
  outside_iff (by decide) _

theorem coefficientsClamped_iff (t : Axes Word) :
    (t.map coefficientClamped).any = true ↔ ∃ i, coefficientArg (t.get i) ≠ (t.get i).toInt := by
  simp only [Axes.any_iff, Axes.get_map, coefficientClamped_iff]

theorem pointClamped_iff_arg (w : Axes Word) :
    pointClamped w = true ↔ ∃ i, (pointArg w).get i ≠ (w.get i).toInt := by
  have hlength (v : Word) : lengthClamped v = true ↔ lengthArg v ≠ v.toInt := outside_iff (by decide) _
  simp only [pointClamped, pointArg, Axes.any_iff, Axes.get_map, hlength]

/-! ### The request (R73, R78, R79) -/

/-- The coefficients stored for the arguments of COMP_SETUP. -/
def storedCoefficients (alphaS : Two (Axes Word)) (alphaW : Word) (w0 : Axes Word) : Coefficients :=
  { scale := alphaS.map fun t => t.map coefficientArg, workpiece := coefficientArg alphaW, w0 := pointArg w0 }

/-- Whether an argument of COMP_SETUP is clamped. -/
def setupClamps (alphaS : Two (Axes Word)) (alphaW : Word) (w0 : Axes Word) : Bool :=
  (alphaS.zero.map coefficientClamped).any || (alphaS.one.map coefficientClamped).any || coefficientClamped alphaW ||
    pointClamped w0

section
variable {alphaS : Two (Axes Word)} {alphaW : Word} {w0 : Axes Word}

theorem storedCoefficients_scale (a : Arm) (i : Axis) :
    ((storedCoefficients alphaS alphaW w0).scale.get a).get i = coefficientArg ((alphaS.get a).get i) := by
  simp [storedCoefficients]

theorem storedCoefficients_w0 (i : Axis) :
    (storedCoefficients alphaS alphaW w0).w0.get i = max (-2147483647) (w0.get i).toInt := by
  simp [storedCoefficients, pointArg, lengthArg_eq]

theorem setupClamps_iff : setupClamps alphaS alphaW w0 = true ↔
    (∃ (a : Arm) (i : Axis), ((storedCoefficients alphaS alphaW w0).scale.get a).get i ≠ ((alphaS.get a).get i).toInt) ∨
      (storedCoefficients alphaS alphaW w0).workpiece ≠ alphaW.toInt ∨
      ∃ i : Axis, (storedCoefficients alphaS alphaW w0).w0.get i ≠ (w0.get i).toInt := by
  have harms (P : Arm → Prop) : (P .zero ∨ P .one) ↔ ∃ a, P a :=
    ⟨fun h => h.elim (fun h => ⟨_, h⟩) fun h => ⟨_, h⟩, fun ⟨a, h⟩ => by cases a <;> simp [h]⟩
  simp only [setupClamps, Bool.or_eq_true, coefficientsClamped_iff, coefficientClamped_iff, pointClamped_iff_arg,
    storedCoefficients_scale, or_assoc]
  rw [← harms, or_assoc]
  rfl

end

/-- The coefficients stored and the seven factors formed anew (R73, R78). -/
def State.storeCoefficients (s : State) (c : Coefficients) : State :=
  ({ s with comp := { s.comp with coefficients := c } } : State).recompute

/-- What COMP_SETUP stores, forms and asks for: it changes the compensation engine alone. -/
theorem State.storeCoefficients_eq (s : State) (c : Coefficients) : ∃ d, s.storeCoefficients c =
    { s with comp := { coefficients := c, factors := formFactors c s.scanner.groups, formationDue := d } } ∧
    ∀ a, d.get a = s.comp.formationDue.get a ++
      if s.referenced a = true ∧ (formFactors c s.scanner.groups).scale.get a ≠ s.comp.factors.scale.get a
      then [.recomputation] else [] :=
  State.takeFactors_eq (s := { s with comp := { s.comp with coefficients := c } }) (formFactors c s.scanner.groups)

/-- COMP_SETUP answers the set as it is stored, and the factors formed from it (R73). -/
theorem compSetupReq_eq (alphaS : Two (Axes Word)) (alphaW : Word) (w0 : Axes Word) (s : State) :
    let u := s.storeCoefficients (storedCoefficients alphaS alphaW w0)
    compSetupReq alphaS alphaW w0 s =
      { status := if setupClamps alphaS alphaW w0 then .clamped else .ok,
        payload := u.comp.coefficients.bytes ++ u.comp.factors.bytes, state := u } := by
  obtain ⟨d, e, -⟩ := s.storeCoefficients_eq (storedCoefficients alphaS alphaW w0)
  have hstored : (s.storeCoefficients (storedCoefficients alphaS alphaW w0)).comp.coefficients =
      storedCoefficients alphaS alphaW w0 := by rw [e]
  dsimp only
  rw [hstored]
  rfl

theorem exec_compSetup {s : State} (ht : s.takesRequests) (alphaS : Two (Axes Word)) (alphaW : Word) (w0 : Axes Word) :
    let u := s.storeCoefficients (storedCoefficients alphaS alphaW w0)
    exec (.compSetup alphaS alphaW w0) s = .next (s.respond (.compSetup alphaS alphaW w0)
      { status := if setupClamps alphaS alphaW w0 then .clamped else .ok,
        payload := u.comp.coefficients.bytes ++ u.comp.factors.bytes, state := u }) :=
  request_answered ht (compSetupReq_eq alphaS alphaW w0 s)

/-- Settles O33: the arguments clamped, and the factors in force formed from them. -/
theorem compSetupStoresAndRecomputes : Obligations.CompSetupStoresAndRecomputes := by
  intro s alphaS alphaW w0 ht
  refine ⟨s.storeCoefficients (storedCoefficients alphaS alphaW w0), setupClamps alphaS alphaW w0,
    exec_compSetup ht alphaS alphaW w0, ?_⟩
  obtain ⟨d, e, hdue⟩ := s.storeCoefficients_eq (storedCoefficients alphaS alphaW w0)
  rw [e]
  refine ⟨setupClamps_iff, fun a i => ⟨?_, formFactors_scale ..⟩, coefficientArg_eq alphaW, formFactors_workpiece ..,
    storedCoefficients_w0, hdue, rfl⟩
  exact (storedCoefficients_scale a i).trans (coefficientArg_eq _)

end Sys2Proof.Machine
end

section
/-! PROOF. Hold ages and the groups that become STALE (O30). -/

namespace Sys2Proof.Machine

section
variable {s : State} {g : TempGroup}

/-! ### The full second of the groups next in turn (R69) -/

theorem exec_holdAgeTick (hp : s.powered = true) : exec .holdAgeTick s = .next s.ageGroups :=
  congrArg Host.Outcome.next (State.event_on _ _ hp)

theorem State.ageGroups_none (h : s.scanner.ageing = []) : s.ageGroups = s := by
  simp [State.ageGroups, h]

theorem State.ageGroups_some {batch : List TempGroup} {later : List (List TempGroup)}
    (h : s.scanner.ageing = batch :: later) : s.ageGroups =
    { s with scanner := { s.scanner with
        groups := s.scanner.groups.older batch
        ageing := later ++ [batch] } } := by
  simp only [State.ageGroups, h]
  rfl

theorem Groups.older_get (r : Groups) (batch : List TempGroup) (g : TempGroup) : (r.older batch).get g =
    if g ∈ batch then { r.get g with state := (r.get g).state.older } else r.get g := by
  rw [Groups.older, Groups.get_mapAll]
  simp only [List.contains_iff_mem]

/-! ### A group at the hold limit (R69, R70, R78, R79) -/

theorem exec_groupStale (hp : s.powered = true) : exec (.groupStale g) s = .next (s.staleGroup g) :=
  congrArg Host.Outcome.next (State.event_on _ _ hp)

theorem State.staleGroup_not_due (h : ∀ v n, (s.scanner.groups.get g).state = .held v n → n < s.scanner.holdLimit) :
    s.staleGroup g = s := by
  refine if_neg fun hd => ?_
  obtain ⟨v, n, hv, hn⟩ := (State.groupDue_iff g).mp hd
  exact Nat.not_lt.mpr hn (h v n hv)

theorem State.staleGroup_due {v : Int} {n : Nat} (hv : (s.scanner.groups.get g).state = .held v n)
    (hn : s.scanner.holdLimit ≤ n) : s.staleGroup g = s.makeStale fun x => x == g :=
  if_pos ((State.groupDue_iff g).mpr ⟨v, n, hv, hn⟩)

/-- The groups that become STALE ask for check points as any new factors do (R79). -/
theorem State.makeStale_due (f : TempGroup → Bool) (a : Arm) : (s.makeStale f).comp.formationDue.get a =
    s.comp.formationDue.get a ++
      if s.referenced a = true ∧ (s.makeStale f).comp.factors.scale.get a ≠ s.comp.factors.scale.get a
      then [.recomputation] else [] := by
  by_cases hf : (allGroups.filter f).isEmpty = true
  · have e : s.makeStale f = s := if_pos hf
    simp [e]
  · let w := (s.setGroups (s.scanner.groups.stale f)).raise .group
    obtain ⟨r, hr⟩ := (s.setGroups (s.scanner.groups.stale f)).raise_frame .group
    have e : s.makeStale f = w.takeFactors ((allGroups.filter f).foldl Factors.stale s.comp.factors) := if_neg hf
    obtain ⟨d, hd, hdue⟩ := State.takeFactors_eq (s := w) ((allGroups.filter f).foldl Factors.stale s.comp.factors)
    have hcomp : w.comp = s.comp := (congrArg State.comp hr :)
    have hreferenced : w.referenced a = s.referenced a :=
      State.referenced_congr (congrArg State.oneArm hr :) (congrArg State.arms hr :)
    have hdue := hdue a
    rw [hcomp, hreferenced] at hdue
    rw [e, hd]
    exact hdue

theorem State.makeStale_factor_one (x : TempGroup) : (s.makeStale fun y => y == g).comp.factors.at x =
    if g = x then (s.comp.factors.at x).map Factor.toStale else s.comp.factors.at x := by
  rw [State.makeStale_factor]
  simp only [beq_iff_eq, eq_comm (a := x)]

/-- The factor of an axis after one group has become STALE. -/
theorem State.makeStale_scale (a : Arm) (i : Axis) :
    ((s.makeStale fun y => y == g).comp.factors.scale.get a).get i =
      if g = .scale a i then ((s.comp.factors.scale.get a).get i).toStale else (s.comp.factors.scale.get a).get i :=
  Option.some.inj ((State.makeStale_factor_one (.scale a i)).trans (apply_ite some ..).symm)

theorem State.makeStale_workpiece : (s.makeStale fun y => y == g).comp.factors.workpiece =
    if g = .workpiece then s.comp.factors.workpiece.toStale else s.comp.factors.workpiece :=
  Option.some.inj ((State.makeStale_factor_one .workpiece).trans (apply_ite some ..).symm)

theorem State.makeStale_one {v : Int} {n : Nat} (hv : (s.scanner.groups.get g).state = .held v n) :
    ((s.makeStale fun y => y == g).scanner.groups.get g).state = .stale v n ∧
      ∀ h, h ≠ g → (s.makeStale fun y => y == g).scanner.groups.get h = s.scanner.groups.get h := by
  refine ⟨?_, fun h hne => ?_⟩
  · simp [State.makeStale_group, hv, GroupState.toStale]
  · simp [State.makeStale_group, hne]

end

/-- Settles O30: the full second of a batch, and a group by whether it is due. -/
theorem heldGroupsAgeAndBecomeStale : Obligations.HeldGroupsAgeAndBecomeStale := by
  refine ⟨fun s hp hnone => ?_, fun s batch later hp hbatch => ?_,
    fun s g hp => ⟨fun hyoung => ?_, fun v n hv hn => ?_⟩⟩
  · rw [exec_holdAgeTick hp, State.ageGroups_none hnone]
  · refine ⟨_, exec_holdAgeTick hp, ?_⟩
    rw [State.ageGroups_some hbatch]
    refine ⟨fun g => ?_, rfl, rfl, rfl⟩
    dsimp only
    rw [Groups.older_get]
    by_cases hg : g ∈ batch
    · rw [if_pos hg]
      exact ⟨rfl, fun hnot => absurd hg hnot, fun _ => rfl⟩
    · rw [if_neg hg]
      exact ⟨rfl, fun _ => rfl, fun hin => absurd hin hg⟩
  · rw [exec_groupStale hp, State.staleGroup_not_due hyoung]
  · refine ⟨_, exec_groupStale hp, ?_⟩
    rw [State.staleGroup_due hv hn]
    obtain ⟨hstale, hothers⟩ := State.makeStale_one hv
    obtain ⟨d, r, e, hflag⟩ := State.makeStale_some (s := s) (f := fun y => y == g) (beq_self_eq_true g)
    refine ⟨hstale, hothers, ?_, ?_, State.makeStale_scale, State.makeStale_workpiece, State.makeStale_due _, ?_⟩
    · rw [e]
      exact hflag
    · rw [e]
    · rw [e]
      exact ⟨rfl, rfl⟩

end Sys2Proof.Machine
end

section
/-! SUPPORT. Drift ageing (spec 01, R22): what becomes of each entry of the tip table. -/

namespace Sys2Proof.Machine

/-- The entry is off the value that `u` holds for its head's group by more than the drift window, where the arm is
present and the window is not 0 (R22). -/
def DriftsBy (s u : State) (a : Arm) (e : Entry) : Prop :=
  s.present a = true ∧ s.library.driftWindow ≠ 0 ∧ e.state = .qualified ∧
    ∃ v, (u.scanner.groups.get (.head a)).state.value = some v ∧ s.library.driftWindow < |e.temperature - v|

/-- Drift ageing makes the entry SUSPECT. -/
def State.drifts (s : State) (a : Arm) (e : Entry) : Bool :=
  s.present a && decide (s.library.driftWindow ≠ 0) &&
    (s.scanner.groups.head.get a).state.value.any fun v => e.drifts s.library.driftWindow v

/-- An entry after drift ageing. -/
def State.agedEntry (s : State) (a : Arm) (e : Entry) : Entry := if s.drifts a e then e.toSuspect else e

/-- A tip after the drift ageing of one arm. -/
def State.agedTip (s : State) (a : Arm) (t : Tip) : Tip :=
  { t with entries := t.entries.set a ((t.entries.get a).map (s.agedEntry a)) }

/-- The slot holds an entry of the arm that drifts. -/
def State.slotAges (s : State) (a : Arm) (i : Fin 64) : Bool :=
  (s.activeTip i).any fun t => (t.entries.get a).any (s.drifts a)

/-- The tip table after the drift ageing of one arm. Irreducible, so that comparing two parts does not compare their 64
slots. -/
@[irreducible] def State.agedTips (s : State) (a : Arm) : Vector TipSlot 64 :=
  .ofFn fun i => if s.slotAges a i then s.library.tips[i].suspectEntry a else s.library.tips[i]

section
variable {s : State} {a : Arm} {i : Fin 64} {x : Tip} {e : Entry}

theorem State.drifts_iff : s.drifts a e = true ↔ DriftsBy s s a e := by
  simp only [State.drifts, DriftsBy, Entry.drifts, Bool.and_eq_true, decide_eq_true_eq, Option.any_eq_true, beq_iff_eq,
    and_assoc]
  refine and_congr_right fun _ => and_congr_right fun _ => ⟨?_, ?_⟩
  · rintro ⟨v, hv, hq, hlt⟩
    exact ⟨hq, v, hv, hlt⟩
  · rintro ⟨hq, v, hv, hlt⟩
    exact ⟨v, hv, hq, hlt⟩

/-! ### One arm -/

/-- With a value for the head the slots that age are those of the model's test. -/
theorem State.slotAges_of_value {v : Int} (hv : (s.scanner.groups.head.get a).state.value = some v)
    (hc : s.present a = true ∧ s.library.driftWindow ≠ 0) : s.slotAges a = s.slotDrifts a v := by
  have hdrifts : s.drifts a = Entry.drifts s.library.driftWindow v := by
    funext e
    simp [State.drifts, hv, hc.1, hc.2]
  funext i
  rw [State.slotAges, hdrifts]
  rfl

/-- Without a value for the head, on an absent arm or with the window 0 no slot ages. -/
theorem State.slotAges_of_no_test
    (h : (s.scanner.groups.head.get a).state.value = none ∨ ¬ (s.present a = true ∧ s.library.driftWindow ≠ 0)) :
    s.slotAges a i = false := by
  have hdrifts : s.drifts a = fun _ => false := by
    funext e
    rcases h with hv | hc
    · simp [State.drifts, hv]
    · rw [State.drifts, ← Bool.decide_coe (s.present a), ← Bool.decide_and, decide_eq_false hc, Bool.false_and]
  simp [State.slotAges, hdrifts]

theorem State.agedTips_eq_self (h : ∀ i, s.slotAges a i = false) : s.agedTips a = s.library.tips := by
  refine Vector.ext fun i hi => ?_
  simp [State.agedTips, h]

/-- The drift ageing of one arm: whether an entry drifts, and the table with those that do SUSPECT. -/
theorem State.ageArm_eq : s.ageArm a =
    ((List.finRange 64).any (s.slotAges a), { s with library := { s.library with tips := s.agedTips a } }) := by
  have hnone (h : ∀ i, s.slotAges a i = false) :
      ((List.finRange 64).any (s.slotAges a), { s with library := { s.library with tips := s.agedTips a } }) =
        (false, s) := by
    rw [State.agedTips_eq_self h]
    simp [h]
  cases hv : (s.scanner.groups.head.get a).state.value with
  | none =>
    rw [hnone fun i => State.slotAges_of_no_test (.inl hv)]
    simp [State.ageArm, hv]
  | some v =>
    by_cases hc : s.present a = true ∧ s.library.driftWindow ≠ 0
    · have hslot := State.slotAges_of_value hv hc
      by_cases hany : (List.finRange 64).any (s.slotDrifts a v) = true
      · simp only [State.ageArm, hv, State.agedTips, hslot, hany, hc, and_self, if_true, not_false_eq_true, ne_eq]
      · have hno (i : Fin 64) : s.slotAges a i = false := by
          rw [hslot, ← Bool.not_eq_true]
          exact fun hi => hany (List.any_eq_true.mpr ⟨i, List.mem_finRange i, hi⟩)
        rw [hnone hno]
        simp [State.ageArm, hv, hany]
    · rw [hnone fun i => State.slotAges_of_no_test (.inr hc)]
      simp only [State.ageArm, hv]
      exact if_neg fun h => hc ⟨h.1, h.2.1⟩

theorem State.slotAges_of_active (hx : s.library.tips[i] = .active x) :
    s.slotAges a i = (x.entries.get a).any (s.drifts a) := by
  rw [State.slotAges, (s.activeTip_eq_some_iff i x).mpr hx]
  rfl

theorem State.agedTips_active (hx : s.library.tips[i] = .active x) :
    (s.agedTips a)[i] = .active (s.agedTip a x) := by
  have hslot := State.slotAges_of_active (a := a) hx
  have hget : (s.agedTips a)[i] = if s.slotAges a i then s.library.tips[i].suspectEntry a else s.library.tips[i] := by
    simp [State.agedTips]
  rw [hget, hslot, hx, State.agedTip, TipSlot.suspectEntry]
  cases he : x.entries.get a with
  | none =>
    have hset : x.entries.set a none = x.entries := by rw [← he, Two.set_get_same]
    simp [hset]
  | some e =>
    have hset : x.entries.set a (some e) = x.entries := by rw [← he, Two.set_get_same]
    by_cases hd : s.drifts a e = true <;> simp [State.agedEntry, hd, hset]

theorem State.agedTips_inactive (hx : ∀ x, s.library.tips[i] ≠ .active x) : (s.agedTips a)[i] = s.library.tips[i] := by
  have hslot : s.slotAges a i = false := by
    rw [State.slotAges, (s.activeTip_eq_none_iff i).mpr hx]
    rfl
  simp [State.agedTips, hslot]

/-! ### Both arms -/

/-- The part after the drift ageing of arm 0. -/
def State.agedZero (s : State) : State := { s with library := { s.library with tips := s.agedTips .zero } }

/-- The part after the drift ageing of both arms. -/
def State.agedBoth (s : State) : State := { s with library := { s.library with tips := s.agedZero.agedTips .one } }

/-- An entry of some record for the arm drifts. -/
def State.anyAges (s : State) (a : Arm) : Bool := (List.finRange 64).any (s.slotAges a)

theorem State.ageArm_zero : s.ageArm .zero = (s.anyAges .zero, s.agedZero) := State.ageArm_eq

theorem State.ageArm_one : s.agedZero.ageArm .one = (s.agedZero.anyAges .one, s.agedBoth) := State.ageArm_eq

/-- Drift ageing tests arm 0, then arm 1, and raises TIP once if an entry drifts. -/
theorem State.driftAge_eq : s.driftAge =
    if s.anyAges .zero || s.agedZero.anyAges .one then s.agedBoth.raise .tip else s.agedBoth := by
  simp only [State.driftAge, State.ageArm_zero, State.ageArm_one]

theorem State.driftAge_tips : s.driftAge.library.tips = s.agedZero.agedTips .one := by
  rw [State.driftAge_eq]
  split
  · rw [State.raise_library]
    rfl
  · rfl

/-- A record after drift ageing: its two entries, each tested against the value of its head. -/
theorem State.driftAge_active (hx : s.library.tips[i] = .active x) :
    s.driftAge.library.tips[i] = .active
      { x with entries := ⟨x.entries.zero.map (s.agedEntry .zero), x.entries.one.map (s.agedEntry .one)⟩ } := by
  have hzero : s.agedZero.library.tips[i] = .active (s.agedTip .zero x) := State.agedTips_active hx
  have hone := State.agedTips_active (a := .one) hzero
  rw [State.driftAge_tips, hone]
  rfl

theorem State.driftAge_inactive (hx : ∀ x, s.library.tips[i] ≠ .active x) :
    s.driftAge.library.tips[i] = s.library.tips[i] := by
  have hzero : s.agedZero.library.tips[i] = s.library.tips[i] := State.agedTips_inactive (a := .zero) hx
  have hone : (s.agedZero.agedTips .one)[i] = s.agedZero.library.tips[i] :=
    State.agedTips_inactive fun x => by rw [hzero]; exact hx x
  rw [State.driftAge_tips, hone, hzero]

theorem State.anyAges_of_entry (hx : s.library.tips[i] = .active x) (he : x.entries.get a = some e)
    (hd : s.drifts a e = true) : s.anyAges a = true := by
  refine List.any_eq_true.mpr ⟨i, List.mem_finRange i, ?_⟩
  rw [State.slotAges_of_active hx, he]
  exact hd

/-- TIP is raised when an entry drifts. -/
theorem State.driftAge_flag (hx : s.library.tips[i] = .active x) (he : x.entries.get a = some e)
    (hd : s.drifts a e = true) : s.driftAge.attention.sources[10].flag = true := by
  have hages : s.anyAges .zero = true ∨ s.agedZero.anyAges .one = true := by
    cases a with
    | zero => exact .inl (State.anyAges_of_entry hx he hd)
    | one =>
      have hzero : s.agedZero.library.tips[i] = .active (s.agedTip .zero x) := State.agedTips_active hx
      exact .inr (State.anyAges_of_entry hzero he hd)
  rw [State.driftAge_eq, if_pos (Bool.or_eq_true_iff.mpr hages)]
  exact State.raise_flag _ .tip rfl

/-- What drift ageing makes of an entry: it becomes SUSPECT with TIP raised if it drifts, and stays if it does not. -/
theorem State.driftAge_entries (hx : s.library.tips[i] = .active x) :
    ∃ y : Tip, s.driftAge.library.tips[i] = .active y ∧ { y with entries := x.entries } = x ∧
      ∀ a : Arm, (x.entries.get a = none → y.entries.get a = none) ∧
        ∀ e, x.entries.get a = some e →
          (DriftsBy s s a e →
            y.entries.get a = some { e with state := .suspect } ∧ s.driftAge.attention.sources[10].flag = true) ∧
          (¬ DriftsBy s s a e → y.entries.get a = some e) := by
  refine ⟨_, State.driftAge_active hx, rfl, fun a => ?_⟩
  have hentry : (Two.mk (x.entries.zero.map (s.agedEntry .zero)) (x.entries.one.map (s.agedEntry .one))).get a =
      (x.entries.get a).map (s.agedEntry a) := by
    cases a <;> rfl
  rw [hentry]
  refine ⟨fun hnone => by rw [hnone]; rfl, fun e he => ⟨fun hd => ⟨?_, ?_⟩, fun hd => ?_⟩⟩
  · rw [he, Option.map_some, State.agedEntry, if_pos (State.drifts_iff.mpr hd)]
    rfl
  · exact State.driftAge_flag hx he (State.drifts_iff.mpr hd)
  · rw [he, Option.map_some, State.agedEntry, if_neg (mt State.drifts_iff.mp hd)]

end

end Sys2Proof.Machine
end

section
/-! PROOF. The end of a sweep (O32). -/

namespace Sys2Proof.Machine

section
variable {s : State} {g : Strg} {x : Transaction} {e : LineEnd} {k : TempGroup} {i : Fin 64}

/-! ### The contributing sets (R67) -/

/-- The value that the sensor at an address contributes to a group: that of an ACTIVE record bound to it. -/
def State.contribution (s : State) (k : TempGroup) (h : Strg) (j : Fin 16) : Option Int :=
  (s.sensor h j).bind fun r => if r.state = .active ∧ r.binding = some k then r.filtered else none

theorem State.contributions_eq : s.contributions k =
    (List.finRange 16).filterMap (s.contribution k .zero) ++ (List.finRange 16).filterMap (s.contribution k .one) := by
  simp only [State.contributions, contributionsOn, Vector.toList_eq_map_finRange, List.filterMap_map]
  rfl

/-- A sweep end touches no sensor. -/
theorem State.sweepEnd_contributions : s.sweepEnd.contributions = s.contributions := by
  funext k
  simp only [State.contributions, State.sweepEnd_swept.sensors]

/-! ### Groups, ages and factors at a sweep end (R67 to R69, R78) -/

theorem candidate_eq {l : List Int} (h : l ≠ []) : candidate l = some (roundDiv l.sum l.length) := by
  simp [candidate, h]

theorem State.sweepEnd_group : s.sweepEnd.scanner.groups.get k =
    { state := (s.scanner.groups.get k).state.sweepEnd (candidate (s.contributions k)),
      contributors := (s.contributions k).length } := by
  have h : s.sweepEnd.scanner.groups = s.scanner.groups.sweepEnd s.contributions :=
    (congrArg Measures.groups State.sweepEnd_measures :)
  rw [h, Groups.sweepEnd, Groups.get_mapAll]

theorem State.sweepEnd_live (h : s.contributions k ≠ []) : (s.sweepEnd.scanner.groups.get k).state =
    .live (roundDiv (s.contributions k).sum (s.contributions k).length) := by
  rw [State.sweepEnd_group, candidate_eq h]
  rfl

theorem State.sweepEnd_kept (h : s.contributions k = []) : (s.sweepEnd.scanner.groups.get k).state =
    match (s.scanner.groups.get k).state with
    | .live v => .held v 0
    | st => st := by
  rw [State.sweepEnd_group, h]
  cases (s.scanner.groups.get k).state <;> rfl

/-- The groups that age: those that aged and have no contributing set, batch by batch, and after them those that become
HELD. -/
theorem State.sweepEnd_ageing : s.sweepEnd.scanner.ageing =
    ((s.scanner.ageing.map fun batch => batch.filter fun k => decide (s.contributions k = [])) ++
      [allGroups.filter fun k =>
        decide (s.contributions k = [] ∧ (s.scanner.groups.get k).state.isLive = true)]).filter
      fun batch => decide (batch ≠ []) := by
  have h : s.sweepEnd.scanner.ageing = s.ageingNext := (congrArg Measures.ageing State.sweepEnd_measures :)
  have hkept : (fun k => (s.contributions k).isEmpty) = fun k => decide (s.contributions k = []) :=
    funext fun k => Bool.eq_iff_iff.mpr (by simp)
  have hheld : (fun k => (s.scanner.groups.get k).state.isLive && (s.contributions k).isEmpty) =
      fun k => decide (s.contributions k = [] ∧ (s.scanner.groups.get k).state.isLive = true) :=
    funext fun k => Bool.eq_iff_iff.mpr (by simp [and_comm])
  have hsome : (fun batch : List TempGroup => !batch.isEmpty) = fun batch => decide (batch ≠ []) :=
    funext fun batch => Bool.eq_iff_iff.mpr (by simp)
  rw [h, State.ageingNext, State.newlyHeld, hkept, hheld, hsome]

theorem State.sweepEnd_factors : s.sweepEnd.comp.factors =
    formFactors s.comp.coefficients s.sweepEnd.scanner.groups := by
  have hf := congrArg Measures.factors (State.sweepEnd_measures (s := s))
  have hg := congrArg Measures.groups (State.sweepEnd_measures (s := s))
  exact hf.trans (congrArg (formFactors s.comp.coefficients) hg.symm)

theorem State.sweepEnd_coefficients : s.sweepEnd.comp.coefficients = s.comp.coefficients :=
  (congrArg Measures.coefficients State.sweepEnd_measures :)

theorem State.driftAge_comp : s.driftAge.comp = s.comp := by
  obtain ⟨l, h | h⟩ := s.driftAge_cases <;> rw [h]
  obtain ⟨r, hr⟩ := ({ s with library := l } : State).raise_frame .tip
  rw [hr]

theorem State.scanTransition_frame : ∃ st timer, s.scanTransition = s.setScan st timer := by
  unfold State.scanTransition
  split <;> exact ⟨_, _, rfl⟩

theorem State.sweepEnd_comp : s.sweepEnd.comp = s.formGroups.recompute.comp := by
  obtain ⟨st, timer, h⟩ := s.formGroups.recompute.driftAge.scanTransition_frame
  rw [State.sweepEnd, h]
  exact State.driftAge_comp

/-- A REFERENCED arm with a changed scale factor gets its check points formed (R79). -/
theorem State.sweepEnd_due (a : Arm) : s.sweepEnd.comp.formationDue.get a = s.comp.formationDue.get a ++
    if s.referenced a = true ∧ s.sweepEnd.comp.factors.scale.get a ≠ s.comp.factors.scale.get a
    then [.recomputation] else [] := by
  rw [State.sweepEnd_comp, State.recompute, State.takeFactors_due]
  obtain ⟨d, h⟩ := State.takeFactors_frame (s := s.formGroups)
    (formFactors s.formGroups.comp.coefficients s.formGroups.scanner.groups)
  rw [h]
  rfl

/-! ### Drift ageing at a sweep end (R22) -/

/-- The tip table and the attention flags are those of drift ageing once the groups are formed. -/
theorem State.sweepEnd_aged : s.sweepEnd.library = s.formGroups.recompute.driftAge.library ∧
    s.sweepEnd.attention = s.formGroups.recompute.driftAge.attention := by
  obtain ⟨st, timer, h⟩ := s.formGroups.recompute.driftAge.scanTransition_frame
  rw [State.sweepEnd, h]
  exact ⟨rfl, rfl⟩

/-- The entries tested are those that drift by the values the sweep end leaves. -/
theorem driftsBy_formed (a : Arm) (y : Entry) :
    DriftsBy s.formGroups.recompute s.formGroups.recompute a y ↔ DriftsBy s s.sweepEnd a y := by
  obtain ⟨d, h⟩ := State.takeFactors_frame (s := s.formGroups)
    (formFactors s.formGroups.comp.coefficients s.formGroups.scanner.groups)
  have hgroups : s.sweepEnd.scanner.groups = s.formGroups.scanner.groups :=
    (congrArg Measures.groups State.sweepEnd_measures :)
  unfold DriftsBy
  rw [hgroups, State.recompute, h]
  cases a <;> rfl

theorem State.sweepEnd_entries {x : Tip} (hx : s.library.tips[i] = .active x) :
    ∃ y : Tip, s.sweepEnd.library.tips[i] = .active y ∧ { y with entries := x.entries } = x ∧
      ∀ a : Arm, (x.entries.get a = none → y.entries.get a = none) ∧
        ∀ e, x.entries.get a = some e →
          (DriftsBy s s.sweepEnd a e →
            y.entries.get a = some { e with state := .suspect } ∧ s.sweepEnd.attention.sources[10].flag = true) ∧
          (¬ DriftsBy s s.sweepEnd a e → y.entries.get a = some e) := by
  have hlib : s.formGroups.recompute.library = s.library := by simp
  obtain ⟨hlibrary, hattention⟩ := State.sweepEnd_aged (s := s)
  have haged := State.driftAge_entries (s := s.formGroups.recompute) (i := i) (x := x) (by rw [hlib, hx])
  simp only [driftsBy_formed] at haged
  rw [hlibrary, hattention]
  exact haged

theorem State.sweepEnd_inactive (hx : ∀ x, s.library.tips[i] ≠ .active x) :
    s.sweepEnd.library.tips[i] = s.library.tips[i] := by
  have hlib : s.formGroups.recompute.library = s.library := by simp
  rw [State.sweepEnd_aged.1, State.driftAge_inactive (by rw [hlib]; exact hx), hlib]

/-! ### The scan after a sweep end (R57) -/

theorem State.sweepEnd_waits (h : s.scanner.state = .sweeping) (hm : s.scanner.mode = .continuous) :
    s.sweepEnd.scanner.state = .waiting ∧ s.sweepEnd.scanner.timer = s.scanner.timer := by
  have hscan := State.sweepEnd_scan (s := s)
  rw [if_pos ⟨h, hm⟩] at hscan
  exact Prod.ext_iff.mp hscan

theorem State.sweepEnd_stops (h : s.scanner.state = .stopping ∨ s.scanner.mode ≠ .continuous) :
    s.sweepEnd.scanner.state = .stopped ∧ s.sweepEnd.scanner.timer = none := by
  have hnot : ¬ (s.scanner.state = .sweeping ∧ s.scanner.mode = .continuous) := by
    rintro ⟨hstate, hm⟩
    rcases h with h | h
    · rw [hstate] at h
      cases h
    · exact h hm
  have hscan := State.sweepEnd_scan (s := s)
  rw [if_neg hnot] at hscan
  exact Prod.ext_iff.mp hscan

/-! ### The last reading of a sweep (R54, R55) -/

/-- What the last reading of a sweep leaves to the sweep end: the sensors, the strings and the flags may differ. -/
def ReadBefore (s v : State) : Prop := ∃ sensors strings r,
  v = { s with scanner := { s.scanner with sensors := sensors, strings := strings }, attention := r }

theorem State.lastReading_frame : ReadBefore s (((s.freeLine g).sweepReading g x e).kick g) := by
  obtain ⟨t, p, hk⟩ := ((s.freeLine g).sweepReading g x e).kick_frame g
  obtain ⟨v, r, hr⟩ := State.sweepReading_frame (s := s.freeLine g) (g := g) x e
  rw [hk, hr]
  exact ⟨_, _, _, rfl⟩

/-- After the last reading both passes have ended. -/
theorem State.lastReading_passes (hpass : (s.string g).pass = .reading (some x.address))
    (hlast : ∀ (j : Fin 16) (r : Sensor), x.address < j → s.sensor g j = some r → r.state = .retired)
    (hother : (s.string g.other).pass = .ended) (h : Strg) :
    ((((s.freeLine g).sweepReading g x e).kick g).string h).pass = .ended := by
  have hstring : ((s.freeLine g).sweepReading g x e).string g = { s.string g with transaction := none } := by
    rw [State.sweepReading_string, State.freeLine_string]
  rcases Strg.eq_or_other g h with rfl | rfl
  · refine (State.kick_ends_pass (last := some x.address) (by rw [hstring]) (by rw [hstring]; exact hpass) ?_).1
    refine State.nextAddress_none fun j hj q hq => hlast j q (hj _ rfl) ?_
    rwa [State.sweepReading_sensor_ne _ _ (by simp [ne_of_gt (hj _ rfl)]), State.freeLine_sensor] at hq
  · have hne : g ≠ g.other := (Side.other_ne g).symm
    rw [State.kick_string_ne hne, State.sweepReading_string, State.freeLine, State.string_setString, if_neg hne]
    exact hother

/-- The transaction that ends the last pass of a sweep ends the sweep. -/
theorem State.transactionEnds_sweepEnd (hscan : s.scanner.state = .sweeping ∨ s.scanner.state = .stopping)
    (hx : (s.string g).transaction = some x) (ho : x.owner = .sweep)
    (hpass : (s.string g).pass = .reading (some x.address))
    (hlast : ∀ (j : Fin 16) (r : Sensor), x.address < j → s.sensor g j = some r → r.state = .retired)
    (hother : (s.string g.other).pass = .ended) :
    ∃ v, s.transactionEnds g e = v.sweepEnd ∧ ReadBefore s v := by
  have hread := State.lastReading_frame (s := s) (g := g) (x := x) (e := e)
  have hpasses := State.lastReading_passes (e := e) hpass hlast hother
  rw [State.transactionEnds_sweep hx ho]
  refine ⟨_, if_pos ⟨?_, hpasses .zero, hpasses .one⟩, hread⟩
  obtain ⟨sensors, strings, r, hv⟩ := hread
  rw [hv]
  rcases hscan with h | h <;> simp [State.sweepInFlight, h]

end

/-- Settles O32: the last reading leaves all but sensors, strings and flags to the sweep end, which is taken step by
step. -/
theorem sweepEndFormsTheGroups : Obligations.SweepEndFormsTheGroups := by
  intro s g t c hp hc hscan hx ho hpass hlast hother
  obtain ⟨e, hexec⟩ := exec_ends_transaction hp hc
  obtain ⟨v, hend, hread⟩ := State.transactionEnds_sweepEnd (e := e) hscan hx ho hpass hlast hother
  refine ⟨_, hexec, ?_⟩
  rw [hend]
  intro contribution set
  have hset : set = v.contributions := by
    rw [← State.sweepEnd_contributions]
    exact (funext fun k => State.contributions_eq).symm
  clear_value set
  subst hset
  have hgroup (k : TempGroup) := State.sweepEnd_group (s := v) (k := k)
  have hkept (k : TempGroup) := State.sweepEnd_kept (s := v) (k := k)
  have hageing := State.sweepEnd_ageing (s := v)
  have hfactors := State.sweepEnd_factors (s := v)
  have hcoefficients := State.sweepEnd_coefficients (s := v)
  have hdue := State.sweepEnd_due (s := v)
  have hentries (i : Fin 64) (x : Tip) := State.sweepEnd_entries (s := v) (i := i) (x := x)
  have hinactive (i : Fin 64) := State.sweepEnd_inactive (s := v) (i := i)
  have hwaits := State.sweepEnd_waits (s := v)
  have hstops := State.sweepEnd_stops (s := v)
  have hframe := (State.sweepEnd_swept (s := v)).frame
  obtain ⟨sensors, strings, r, rfl⟩ := hread
  refine ⟨fun k => ⟨by rw [hgroup], State.sweepEnd_live, hkept k⟩, hageing, hcoefficients, fun a i => ?_, ?_, hdue,
    ⟨hentries, hinactive⟩, hwaits, hstops, ?_⟩
  · rw [hfactors]
    exact formFactors_scale ..
  · rw [hfactors]
    rfl
  · exact congrArg (fun w : State => { w with scanner := s.scanner, attention := s.attention }) hframe

end Sys2Proof.Machine
end

section
/-! PROOF. The point of the five stages, CONVERT and the touch computation (O35). -/

namespace Sys2Proof.Machine

section
variable {s : State} {a : Arm} {tip : Option (Fin 64)} {e : Option Entry}

/-! ### The point of the five stages (R83 to R91) -/

/-- The workpiece stage after the three others (R88). -/
theorem Staged.Holds.workpieceStage {m : Staged} {v : Int} {c : Prop} (h : m.Holds v c) (w0 fw : Int) :
    (workpieceStage m w0 fw).Holds (limited v - roundDiv ((limited v - w0) * fw) 1000000000)
      (c ∨ limited v ≠ v) where
  value_eq := by rw [← h.value_eq]; exact saturate_eq_limited _
  clamped_iff := by
    rw [← h.clamped_iff, ← h.value_eq, ← saturates_iff]
    exact (Bool.or_eq_true ..).to_iff

/-- The coordinates of a point: the scale, tip, room and workpiece stages (R85 to R88). -/
theorem Gathered.corrected_holds (he : s.mountedEntry a = e) (p : Point) (i : Axis) :
    (((s.gather a).corrected p).get i).Holds (workpieceExact s a p e i)
      (((False ∨ limited (scaleExact s a p i) ≠ scaleExact s a p i) ∨
        limited (tipExact s a p e i) ≠ tipExact s a p e i) ∨ limited (roomExact s a p e i) ≠ roomExact s a p e i) := by
  have h := (Gathered.tipRoom_holds he p i).workpieceStage (s.comp.coefficients.w0.get i) s.comp.factors.workpiece.value
  cases i <;> exact h

/-- A mark of a point is that of one of the four factors used (R91). -/
theorem Gathered.mark_iff (f : FactorMarks → Bool) : (s.gather a).mark f = true ↔ FactorMarked s a f := by
  rw [Gathered.mark, Bool.or_eq_true, Gathered.scaleMark_iff]
  rfl

/-- What is gathered for an arm gives its point record (R90, R91). -/
theorem State.pointOf_isPoint (ht : Mounted s a tip) (he : EntryUsed s a tip e) (p : Point) :
    IsPoint s a p tip e (s.pointOf a p) := by
  have hentry := ht.mountedEntry he
  have hgathered : (s.gather a).entry = e := hentry
  refine ⟨rfl, ht.mountedTip, rfl, rfl, fun i => ?_, ?_, ?_, ?_, Gathered.mark_iff _, Gathered.mark_iff _,
    Gathered.mark_iff _, Gathered.mark_iff _, ?_⟩
  · exact (Axes.get_map ..).trans (Gathered.corrected_holds hentry p i).value_eq
  · simp only [State.pointOf, Gathered.point, Gathered.radius, hgathered]
    cases e <;> rfl
  · simp [State.pointOf, Gathered.point, Gathered.suspect, hgathered, Option.any_eq_true]
  · simp [State.pointOf, Gathered.point, hgathered]
  · refine (anyClamped_iff _).trans (exists_congr fun i => ?_)
    rw [(Gathered.corrected_holds hentry p i).clamped_iff, false_or, or_assoc, or_assoc]

/-! ### CONVERT and the touch computation (R95, R96) -/

theorem convertReq_eq {arm : Byte} (ha : arm.toNat = a.toNat) : convertReq arm s =
    if s.absentArm a then refuse .notPresent s
    else if !s.referenced a then refuse .notReferenced s
    else accept (s.pointOf a (s.arms.get a).counts).bytes s := by
  rw [convertReq, sideArg_of_toNat ha]

theorem exec_touchComputation (hs : s.serves a) : exec (.touchComputation a) s = .next (s.computeTouch a) :=
  congrArg Host.Outcome.next (s.armEvent_on a _ hs)

end

/-- Settles O35: `pointOf` is the point of the five stages, stage by stage (`Gathered.corrected_holds`), and both commands
answer with it. -/
theorem pointsAreComputed : Obligations.PointsAreComputed := by
  refine ⟨fun s arm a ht ha => ⟨fun hp => ?_, fun hp hblind => ?_, fun hp hall tip e hm he => ?_⟩,
    fun s a hs => ⟨fun hnone => ?_, fun p rest hdue tip e hm he => ?_⟩⟩
  · exact request_answered ht ((convertReq_eq ha).trans (by simp [State.absentArm, hp]))
  · obtain ⟨i, hi⟩ := hblind
    exact request_answered ht ((convertReq_eq ha).trans (by simp [State.absentArm, hp, State.not_referenced hi]))
  · have hr : s.referenced a = true := State.referenced_iff.mpr ⟨hp, hall⟩
    exact ⟨_, State.pointOf_isPoint hm he _,
      request_answered ht ((convertReq_eq ha).trans (by simp only [State.absentArm, hp, hr]; rfl))⟩
  · rw [exec_touchComputation hs, State.computeTouch, hnone]
  · refine ⟨_, State.pointOf_isPoint hm he p, ?_⟩
    rw [exec_touchComputation hs, State.computeTouch, hdue]

end Sys2Proof.Machine
end

section
/-! SUPPORT. What every message between blocks keeps: a property that the writes of the receiving blocks keep is kept by
every message, and so by the settling of the part (log 5). The induction is made once, for every such property. -/

namespace Sys2Proof.Machine

/-! ### The rack controller's own writes -/

/-- The two states agree in everything but the rack and the messages that wait. -/
def RackOnly (s t : State) : Prop := ({ t with rack := s.rack, mail := s.mail } : State) = s

section
variable {s t : State} {a : Arm} {p : Fin 20}

theorem RackOnly.refl (s : State) : RackOnly s s := rfl

theorem RackOnly.eq (h : RackOnly s t) : t = { s with rack := t.rack, mail := t.mail } := by
  have hback := congrArg (fun u : State => ({ u with rack := t.rack, mail := t.mail } : State)) h
  exact hback

theorem RackOnly.setRack {k : Rack} (h : RackOnly s t) : RackOnly s { t with rack := k } := h

theorem RackOnly.send {m : Message} (h : RackOnly s t) : RackOnly s (t.send m) := h

theorem RackOnly.ite {u : State} {c : Prop} [Decidable c] (ht : RackOnly s t) (hu : RackOnly s u) :
    RackOnly s (if c then t else u) := by
  split
  · exact ht
  · exact hu

theorem RackOnly.closeLid (h : RackOnly s t) : RackOnly s (t.closeLid p).2 := by
  rcases t.closeLid_cases p with ⟨e, -⟩ | ⟨-, e⟩ <;> rw [e]
  · exact h
  · split
    · exact h.setRack.send
    · exact h.setRack.send

theorem RackOnly.openLid (h : RackOnly s t) : RackOnly s (t.openLid a p).2 := by
  rcases t.openLid_cases a p with e | ⟨-, -, -, -, e⟩ <;> rw [e]
  · exact h
  · exact .ite h.setRack.send h.setRack.send

theorem RackOnly.reexamine (h : RackOnly s t) : RackOnly s t.reexamine := by
  unfold State.reexamine
  generalize List.finRange 20 = l
  induction l generalizing t with
  | nil => exact h
  | cons p l ih => exact ih (.ite (.closeLid h) h)

theorem RackOnly.grantTest (h : RackOnly s t) : RackOnly s t.grantTest := by
  rcases t.grantTest_cases with ⟨e, -⟩ | ⟨a, rest, -, -, e⟩ <;> rw [e]
  · exact h
  · exact h.setRack.setRack.setRack.send.send

theorem RackOnly.rackRequest (h : RackOnly s t) : RackOnly s (t.rackRequest a).2 := by
  rcases t.rackRequest_cases a with e | ⟨_, _, -, -, e⟩ | ⟨-, -, e⟩ <;> rw [e]
  · exact h
  · exact h.setRack
  · exact .grantTest h.setRack

theorem RackOnly.freeRack (h : RackOnly s t) : RackOnly s t.freeRack :=
  .grantTest (.send (.reexamine h.setRack.setRack))

theorem RackOnly.releaseIfDone (h : RackOnly s t) : RackOnly s t.releaseIfDone := by
  unfold State.releaseIfDone
  split
  · exact .freeRack h
  · exact h

theorem RackOnly.rackEntry (h : RackOnly s t) : RackOnly s (t.rackEntry a) := by
  unfold State.rackEntry
  split
  · exact .ite (.ite h.setRack h.setRack.setRack) h
  · exact h

theorem RackOnly.rackExit (h : RackOnly s t) : RackOnly s (t.rackExit a) := by
  unfold State.rackExit
  split
  · exact .ite (.releaseIfDone h.setRack) h
  · exact h

theorem RackOnly.rackChangeEnded (h : RackOnly s t) : RackOnly s (t.rackChangeEnded a) := by
  refine .ite (.grantTest h.setRack) ?_
  split
  · exact .ite (.releaseIfDone h.setRack) h
  · exact h

theorem RackOnly.reportRack {entered left : Bool} (h : RackOnly s t) : RackOnly s (t.reportRack a entered left) :=
  .ite (.ite (.rackEntry h) (.ite (.rackExit h) h)) h

theorem RackOnly.tellLockedOut {arms : List Arm} (h : RackOnly s t) : RackOnly s (t.tellLockedOut arms) := by
  unfold State.tellLockedOut
  induction arms generalizing t with
  | nil => exact h
  | cons b l ih => exact ih h.send

end

/-! ### The properties that messages keep -/

/-- A property kept by whatever a block writes when it takes a message: the library, the rack and the heads are free, a
change record keeps its last reference point, flags are set, probing is disarmed, and the zone monitor takes a
grantee. -/
structure MessageInvariant (P : State → Prop) : Prop where
  frame : ∀ {s : State} {library : Library} {rack : Rack} {head : Two Head} {mail : List Message}, P s →
    P { s with library, rack, sequencer := { s.sequencer with head }, mail }
  setChange : ∀ {s : State} {a : Arm} {c : Change}, c.lastReference = (s.change a).lastReference → P s →
    P (s.setChange a c)
  raise : ∀ {s : State} {src : AttnSource}, P s → P (s.raise src)
  disarm : ∀ {s : State} {a : Arm}, P s → P (s.disarm a)
  takeGrantee : ∀ {s : State} {g : Option Arm}, P s → P (s.takeGrantee g)

namespace MessageInvariant

section
variable {P : State → Prop} {s t : State} {a : Arm} {p : Fin 20} {i : Fin 64} {r : ChangeResult}
variable (hP : MessageInvariant P)

theorem ite {c : Prop} [Decidable c] (hs : P s) (ht : P t) : P (if c then s else t) := by
  split
  · exact hs
  · exact ht

include hP

theorem rackOnly (h : P s) (ht : RackOnly s t) : P t := by
  rw [ht.eq]
  exact hP.frame h

theorem setTip {slot : TipSlot} (h : P s) : P (s.setTip i slot) := hP.frame h

theorem setPocket {v : Pocket} (h : P s) : P (s.setPocket p v) := hP.frame h

theorem setHead {v : Head} (h : P s) : P (s.setHead a v) := hP.frame h

theorem send {m : Message} (h : P s) : P (s.send m) := hP.frame h

theorem doubleFault (h : P s) : P (s.doubleFault a) := by
  have hlocked : RackOnly s (((s.setArbiter .lockedOut).setQueue []).setGrantTimer none) :=
    (RackOnly.refl s).setRack.setRack.setRack
  exact ite h (hP.raise (hP.rackOnly h (.send (.tellLockedOut (.reexamine hlocked)))))

/-! ### The moves of a tip record and the reports about it (R8, R18 to R20) -/

theorem moveTip {v : Tip} {loc : Location} (h : P s) : P (s.moveTip i v loc) := by
  cases loc with
  | missing => exact hP.raise (hP.setTip h)
  | inPocket => exact hP.setPocket (hP.setTip h)
  | onArm | inTransit => exact hP.setTip h

theorem loseMounted {keep : Option (Fin 64)} (h : P s) : P (s.loseMounted a keep) := ite (hP.raise (hP.frame h)) h

theorem stowReleaseBegins (h : P s) : P (s.stowReleaseBegins a i).state := by
  unfold State.stowReleaseBegins
  split
  · split
    · exact hP.setHead (hP.moveTip h)
    · exact h
  · exact h

theorem stowTransferComplete (h : P s) : P (s.stowTransferComplete a i).state := by
  unfold State.stowTransferComplete
  split
  · split
    · dsimp only
      exact hP.moveTip h
    · exact h
  · exact h

theorem pickBegins (h : P s) : P (s.pickBegins a i).state := by
  unfold State.pickBegins
  split
  · split
    · dsimp only
      exact hP.moveTip h
    · exact h
  · exact h

theorem transitResolved {occupied : Bool} (h : P s) : P (s.transitResolved a i occupied).state := by
  unfold State.transitResolved
  split
  · split
    · exact hP.moveTip h
    · exact h
  · exact h

theorem moduleLost (h : P s) : P (s.moduleLost a).state := by
  unfold State.moduleLost
  split
  · exact hP.setHead (hP.loseMounted h)
  · exact h

theorem libraryHomeEmpty (h : P s) : P (s.libraryHomeEmpty p).state := by
  unfold State.libraryHomeEmpty
  split
  · exact h
  · split
    · split
      · dsimp only
        exact hP.moveTip h
      · exact h
    · exact h

theorem libraryHomeOccupied (h : P s) : P (s.libraryHomeOccupied p).state := by
  unfold State.libraryHomeOccupied
  split
  · exact h
  · split
    · split
      · dsimp only
        exact hP.raise (hP.moveTip h)
      · exact h
    · exact h

/-! ### Comparison and report (R116 to R118) -/

theorem compareIfWatched (h : P s) : P (s.compareIfWatched p) := by
  have hempty := hP.libraryHomeEmpty (p := p) h
  have hoccupied := hP.libraryHomeOccupied (p := p) h
  refine ite h ?_
  simp only [State.compare, State.seenEmpty, State.seenOccupied]
  split
  · split
    · dsimp only
      exact hP.raise hempty
    · exact hempty
  · split
    · exact hoccupied
    · dsimp only
      exact hP.raise (hP.setPocket hoccupied)
  · exact h

theorem takeReport {q : PocketReport} (h : P s) : P (s.takeReport a q) := by
  have hstored : P { s with rack := { s.rack with reports := s.rack.reports.set a q } } := hP.frame h
  simp only [State.takeReport]
  split
  · exact ite (hP.rackOnly (hP.compareIfWatched hstored) (.reexamine (.refl _))) (hP.compareIfWatched hstored)
  · exact ite (hP.rackOnly hstored (.reexamine (.refl _))) hstored

/-! ### The change sequencer (spec 08) -/

theorem enterStage {st : ChangeState} {timer : Timer} (h : P s) : P (s.enterStage a st timer) :=
  hP.send (hP.setChange rfl h)

theorem sendReport {pocket : Option (Fin 20)} {suppressed stow : Bool} (h : P s) :
    P (s.sendReport a pocket suppressed stow) := hP.takeReport (hP.setChange rfl h)

theorem stopTimer (h : P s) : P (s.stopTimer a) := hP.setChange rfl h

theorem dropOpened (h : P s) : P (s.dropOpened a p) := hP.setChange rfl h

theorem closeAt (e : s.closeAt a p = some t) (h : P s) : P t := by
  have hl : P (s.closeLid p).2 := hP.rackOnly h (.closeLid (.refl _))
  unfold State.closeAt at e
  split at e <;> rename_i he <;> rw [he] at hl <;> cases e
  · exact hP.dropOpened hl
  · exact hl

theorem closeAll {lids : List (Fin 20)} (h : P s) : P (s.closeAll a lids).1 := by
  unfold State.closeAll
  generalize false = jammed
  induction lids generalizing s jammed with
  | nil => exact h
  | cons p l ih =>
    rw [List.foldl_cons]
    dsimp only
    split
    · exact ih (hP.dropOpened h) true
    · rename_i ht
      exact ih (hP.closeAt ht h) jammed

theorem finishChange (h : P s) : P (s.finishChange a r) := by
  have hidle := hP.sendReport (a := a) (pocket := none) (suppressed := false) (stow := false)
    (hP.setChange (a := a) (c := { s.change a with
      state := .idle, timer := none, target := none, stowing := none, opened := [], faultResult := none }) rfl h)
  exact hP.raise (hP.setChange rfl (hP.rackOnly hidle (.rackChangeEnded (.refl _))))

theorem endChange (h : P s) : P (s.endChange a r) :=
  ite (hP.setChange rfl (hP.finishChange h)) (hP.finishChange h)

theorem faultChange (h : P s) : P (s.faultChange a r) :=
  hP.enterStage (hP.sendReport (hP.setHead (hP.setChange rfl h)))

theorem resolveTransit {tip : Option (Fin 64)} (h : P s) : P (s.resolveTransit a tip) := by
  unfold State.resolveTransit
  split
  · exact hP.transitResolved h
  · exact h

theorem resolveAndEnd (h : P s) : P (s.resolveAndEnd a) :=
  hP.endChange (hP.sendReport (hP.resolveTransit (hP.resolveTransit h)))

theorem identifyHead (h : P s) : P (s.identifyHead a) := by
  have hwaits := hP.setChange (a := a) (c := { s.change a with wait := .identity }) rfl h
  exact ite (hP.setHead (hP.setHead hwaits)) (hP.resolveAndEnd (hP.setHead (hP.moduleLost hwaits)))

theorem changeDoubleFault (h : P s) : P (s.changeDoubleFault a) :=
  hP.identifyHead (hP.doubleFault (hP.setChange rfl h))

theorem enterFetchApproach (h : P s) : P (s.enterFetchApproach a) := hP.enterStage (ite h (hP.sendReport h))

theorem takeGrant (h : P s) : P (s.takeGrant a) :=
  ite (ite (hP.enterStage (hP.sendReport h)) (hP.enterFetchApproach h)) h

theorem acceptChange {q : ChangeRequest} (h : P s) : P (s.acceptChange a q) := by
  have hasked : P (((s.setChange a ((s.change a).accepted q (s.mountedTip a))).disarm a).rackRequest a).2 :=
    hP.rackOnly (hP.disarm (hP.setChange (c := (s.change a).accepted q (s.mountedTip a)) rfl h))
      (.rackRequest (.refl _))
  simp only [State.acceptChange]
  split <;> rename_i e <;> rw [e] at hasked
  · exact hP.takeGrant hasked
  · exact hasked
  · exact hP.endChange hasked

theorem completeChange (h : P s) : P (s.completeChange a) := by
  have hdone : P (s.finishChange a .completed) := hP.finishChange h
  simp only [State.completeChange, State.startStaged]
  split
  · exact hdone
  · split
    · exact hP.setChange rfl hdone
    · exact hP.raise (hP.setChange rfl (hP.setChange rfl hdone))
    · exact hP.acceptChange (hP.setChange rfl hdone)

theorem openAt {next : ChangeState} (h : P s) : P (s.openAt a p next) := by
  have hopened : P ((s.stopTimer a).openLid a p).2 := hP.rackOnly (hP.stopTimer h) (.openLid (.refl _))
  unfold State.openAt
  split <;> rename_i e <;> rw [e] at hopened
  · exact hP.faultChange hopened
  · exact hP.faultChange hopened
  · exact hP.enterStage (hP.setChange rfl hopened)

theorem beginStow (h : P s) : P (s.beginStow a p) := by
  unfold State.beginStow
  split
  · exact hP.faultChange h
  · exact ite (hP.enterStage (hP.sendReport (hP.stowReleaseBegins h))) (hP.faultChange (hP.stowReleaseBegins h))

theorem completeStow (h : P s) : P (s.completeStow a p) := by
  unfold State.completeStow
  split
  · exact hP.faultChange h
  · rename_i i _
    have hmoved : P ((s.stopTimer a).stowTransferComplete a i).state := hP.stowTransferComplete (hP.stopTimer h)
    have hpending := hP.setChange (a := a) (c := { (((s.stopTimer a).stowTransferComplete a i).state.sendReport a
      (some p) false false).change a with stowClose := true }) rfl (hP.sendReport hmoved)
    exact ite (ite (hP.enterFetchApproach hpending) (hP.enterStage hpending)) (hP.faultChange hmoved)

theorem beginPick (h : P s) : P (s.beginPick a p) := by
  unfold State.beginPick
  split
  · exact hP.faultChange h
  · exact ite (hP.enterStage (hP.sendReport (hP.pickBegins h))) (hP.faultChange (hP.pickBegins h))

theorem beginIdentify (h : P s) : P (s.beginIdentify a) := hP.enterStage (hP.setHead (hP.setHead (hP.stopTimer h)))

theorem closeStowLid (h : P s) : P (s.closeStowLid a p) := by
  unfold State.closeStowLid
  split
  · exact hP.faultChange (hP.dropOpened h)
  · rename_i e
    exact hP.send (hP.sendReport (hP.closeAt e (hP.setChange rfl h)))

theorem clearStage (h : P s) : P (s.clearStage a p) := by
  unfold State.clearStage
  split
  · refine ite ?_ h
    have hwaits := hP.setChange (a := a)
      (c := { s.change a with timer := none, stowClose := false, wait := .lids }) rfl h
    dsimp only
    split
    · exact hP.faultChange (hP.dropOpened hwaits)
    · rename_i e
      exact hP.send (hP.closeAt e hwaits)
  · exact ite (hP.completeChange h) h

theorem makeRackSafe (h : P s) : P (s.makeRackSafe a) := by
  have hclosed : P ((s.setChange a { s.change a with timer := none, wait := .lids }).closeAll a
      (s.change a).opened).1 := hP.closeAll (hP.setChange rfl h)
  simp only [State.makeRackSafe]
  split
  · exact ite (ite (hP.changeDoubleFault hclosed) (hP.send hclosed)) h
  · exact ite (hP.identifyHead h) h
  · exact h

theorem advance (h : P s) : P (s.advance a) := by
  unfold State.advance
  dsimp only
  split
  case h_1 => exact hP.makeRackSafe h
  case h_2 => exact ite (hP.openAt h) h
  case h_3 => exact ite (hP.faultChange h) (ite (hP.beginStow h) h)
  case h_4 => exact ite (hP.faultChange h) (ite (hP.completeStow h) h)
  case h_5 => exact hP.clearStage h
  case h_6 => exact ite (ite (hP.closeStowLid h) h) (ite (hP.openAt h) h)
  case h_7 => exact ite (hP.faultChange h) (ite (hP.beginPick h) h)
  case h_8 => exact ite (hP.faultChange h) (ite (hP.beginIdentify h) h)
  case h_9 => exact hP.clearStage h
  case h_10 => exact h

theorem lidNews (h : P s) : P (s.lidNews a p) := by
  refine ite ?_ h
  split
  · exact hP.send (hP.dropOpened h)
  · exact hP.send h
  · exact ite (hP.faultChange (hP.dropOpened h)) (ite (hP.changeDoubleFault (hP.dropOpened h)) (hP.dropOpened h))
  · exact h

theorem pocketFault (h : P s) : P (s.pocketFault a) := ite (hP.endChange h) (hP.faultChange h)

theorem occupancyNews (h : P s) : P (s.occupancyNews a p) := by
  simp only [State.occupancyNews]
  split
  case h_1 | h_2 | h_3 | h_4 | h_5 => exact ite (hP.pocketFault h) h
  case h_6 | h_7 => exact hP.send h
  case h_8 => exact h

theorem takeLapse (h : P s) : P (s.takeLapse a) := ite (hP.faultChange h) h

theorem takeLockout (h : P s) : P (s.takeLockout a) := ite (hP.endChange h) (ite (hP.faultChange h) h)

/-- A message taken by its receiver keeps the property. -/
theorem takeMessage (h : P s) (m : Message) : P (s.takeMessage m) := by
  cases m with
  | granted a => exact hP.takeGrant h
  | lapsed a => exact hP.takeLapse h
  | lockedOut a => exact hP.takeLockout h
  | grantee g => exact hP.takeGrantee h
  | lidChanged p => exact hP.lidNews (hP.lidNews h)
  | occupancyChanged p => exact hP.occupancyNews (hP.occupancyNews h)
  | testStage a => exact hP.advance h

/-- The settling of the part keeps the property. -/
theorem settle (h : P s) : P s.settle :=
  State.settle_keeps (fun _ _ h => hP.frame h) (fun _ m h => hP.takeMessage h m) s h

end

end MessageInvariant

end Sys2Proof.Machine
end

section
/-! SUPPORT. What a judgement of the zone monitor does: its sets, its claims and its hold cause (spec 09, R163 to R167),
and its reports to the arbiter (spec 07, R129, R130). -/

namespace Sys2Proof.Machine

/-! ### The monitor's own writes -/

/-- The two states agree in everything but the zone monitor, the touch unit and the attention unit. -/
def MonitorOnly (s t : State) : Prop :=
  ({ t with zones := s.zones, touch := s.touch, attention := s.attention } : State) = s

/-- The claims and the sets after a judgement (R166, R167). -/
def State.judgedZones (s : State) (j : Judgement) : State :=
  { s with zones := { s.zones with table := s.judgedTable j, hold := s.zones.hold.set j.arm (s.judgedHold j) } }

/-- The monitor's own part of a judgement: the claims, the sets and the hold cause, before the reports to the arbiter
(R166). -/
def State.judgedSets (s : State) (j : Judgement) : State :=
  if anyZone (s.violates j) then (s.judgedZones j).addCause j.arm .zone else s.judgedZones j

/-- The judgement finds an entry to the RACK zone. -/
def State.entersRack (s : State) (j : Judgement) : Bool :=
  anyZone fun i => s.zoneIsRack i && s.findsInside j i && !(s.zones.hold.get j.arm).inside[i]

/-- The judgement finds an exit from the RACK zone. -/
def State.leavesRack (s : State) (j : Judgement) : Bool :=
  anyZone fun i => s.zoneIsRack i && s.concerns j i && !s.findsInside j i && (s.zones.hold.get j.arm).inside[i]

section
variable {s t u : State} {a b : Arm} {j : Judgement} {z : Fin 16} {r : Zone} {q : CheckPoints}

theorem MonitorOnly.refl (s : State) : MonitorOnly s s := rfl

theorem MonitorOnly.trans (h : MonitorOnly s t) (h' : MonitorOnly t u) : MonitorOnly s u := by
  have hback := congrArg
    (fun x : State => ({ x with zones := s.zones, touch := s.touch, attention := s.attention } : State)) h'
  exact Eq.trans hback h

theorem MonitorOnly.rack_eq (h : MonitorOnly s t) : t.rack = s.rack := (congrArg State.rack h :)

theorem MonitorOnly.mail_eq (h : MonitorOnly s t) : t.mail = s.mail := (congrArg State.mail h :)

theorem MonitorOnly.sequencer_eq (h : MonitorOnly s t) : t.sequencer = s.sequencer := (congrArg State.sequencer h :)

theorem RackOnly.zones_eq (h : RackOnly s t) : t.zones = s.zones := (congrArg State.zones h :)

theorem RackOnly.sequencer_eq (h : RackOnly s t) : t.sequencer = s.sequencer := (congrArg State.sequencer h :)

theorem anyZone_iff (f : Fin 16 → Bool) : anyZone f = true ↔ ∃ z, f z = true := by simp [anyZone]

theorem State.judgeOne_eq : s.judgeOne j = (s.judgedSets j).reportRack j.arm (s.entersRack j) (s.leavesRack j) := rfl

theorem State.judgeOne_rackOnly : RackOnly (s.judgedSets j) (s.judgeOne j) := .reportRack (.refl _)

theorem State.judgedZones_monitorOnly : MonitorOnly s (s.judgedZones j) := by simp only [MonitorOnly, State.judgedZones]

theorem State.judgedSets_monitorOnly : MonitorOnly s (s.judgedSets j) := by
  unfold State.judgedSets
  split
  · exact State.judgedZones_monitorOnly.trans (State.addCause_frame _)
  · exact State.judgedZones_monitorOnly

@[simp] theorem State.judgedZones_zones : (s.judgedZones j).zones =
    { s.zones with table := s.judgedTable j, hold := s.zones.hold.set j.arm (s.judgedHold j) } := by
  rw [State.judgedZones]

@[simp] theorem State.judgedZones_touch : (s.judgedZones j).touch = s.touch := by rw [State.judgedZones]

@[simp] theorem State.judgedZones_attention : (s.judgedZones j).attention = s.attention := by rw [State.judgedZones]

theorem State.judgedZones_present : (s.judgedZones j).present b = s.present b := by
  cases b <;> simp only [State.present, State.judgedZones]

theorem State.judgedZones_hold : (s.judgedZones j).zones.hold.get j.arm = s.judgedHold j := by simp

@[simp] theorem State.judgedHold_causes : (s.judgedHold j).causes = (s.zones.hold.get j.arm).causes := by
  rw [State.judgedHold]

@[simp] theorem State.judgedHold_points : (s.judgedHold j).points = (s.zones.hold.get j.arm).points := by
  rw [State.judgedHold]

theorem State.judgedZones_causes : ((s.judgedZones j).zones.hold.get b).causes = (s.zones.hold.get b).causes := by
  rw [State.judgedZones_zones, Two.get_set]
  split
  · subst b
    exact State.judgedHold_causes
  · rfl

/-! ### The addition of a cause (R170) -/

theorem State.addCause_hold_ne (c : HoldCause) (h : a ≠ b) :
    (s.addCause a c).zones.hold.get b = s.zones.hold.get b := by
  rcases s.addCause_cases a c with ⟨-, e⟩ | ⟨-, -, e⟩ | ⟨-, -, e⟩ <;> simp [e, Two.get_set_ne _ _ h]

theorem State.addCause_hold_same (c : HoldCause) :
    ∃ k, (s.addCause a c).zones.hold.get a = { s.zones.hold.get a with causes := k } := by
  rcases s.addCause_cases a c with ⟨-, e⟩ | ⟨-, -, e⟩ | ⟨-, -, e⟩ <;> rw [e]
  · exact ⟨_, rfl⟩
  · exact ⟨Causes.none.add c, by simp⟩
  · exact ⟨(s.zones.hold.get a).causes.add c, by simp⟩

theorem State.addCause_table (c : HoldCause) : (s.addCause a c).zones.table = s.zones.table ∧
    (s.addCause a c).zones.grantee = s.zones.grantee := by
  rcases s.addCause_cases a c with ⟨-, e⟩ | ⟨-, -, e⟩ | ⟨-, -, e⟩ <;> simp [e]

/-- An addition arms no probing. -/
theorem State.addCause_unarmed (c : HoldCause) (h : (s.touch.get b).armed = false) :
    ((s.addCause a c).touch.get b).armed = false := by
  rcases s.addCause_cases a c with ⟨-, e⟩ | ⟨-, -, e⟩ | ⟨-, -, e⟩ <;> rw [e]
  · exact h
  · rw [State.raise_touch, State.disarm_touch, Two.get_set]
    split
    · rfl
    · exact h
  · exact h

/-- An addition clears no flag. -/
theorem State.addCause_flag (c : HoldCause) {k : Fin 14} (h : s.attention.sources[k].flag = true) :
    (s.addCause a c).attention.sources[k].flag = true := by
  rcases s.addCause_cases a c with ⟨-, e⟩ | ⟨-, -, e⟩ | ⟨-, -, e⟩ <;> rw [e]
  · exact h
  · exact State.raise_keeps_flag _ h
  · exact h

/-! ### The sets, claims and causes after a judgement (R166) -/

theorem State.judgedSets_table : (s.judgedSets j).zones.table = s.judgedTable j := by
  unfold State.judgedSets
  split
  · rw [(State.addCause_table _).1, State.judgedZones_zones]
  · rw [State.judgedZones_zones]

theorem State.judgedSets_grantee : (s.judgedSets j).zones.grantee = s.zones.grantee := by
  unfold State.judgedSets
  split
  · rw [(State.addCause_table _).2, State.judgedZones_zones]
  · rw [State.judgedZones_zones]

/-- Reports go to the arbiter about the grantee alone (R168). -/
theorem State.judgeOne_of_not_grantee (h : s.zones.grantee ≠ some j.arm) : s.judgeOne j = s.judgedSets j := by
  rw [State.judgeOne_eq, State.reportRack, State.judgedSets_grantee, if_neg h]

theorem State.judgedSets_hold_ne (h : j.arm ≠ b) : (s.judgedSets j).zones.hold.get b = s.zones.hold.get b := by
  have hset : (s.judgedZones j).zones.hold.get b = s.zones.hold.get b := by
    rw [State.judgedZones_zones, Two.get_set_ne _ _ h]
  unfold State.judgedSets
  split
  · rw [State.addCause_hold_ne _ h, hset]
  · exact hset

/-- The sets of the judged arm; only its causes may have grown beside them. -/
theorem State.judgedSets_hold : ∃ k, (s.judgedSets j).zones.hold.get j.arm = { s.judgedHold j with causes := k } := by
  have hhold : (s.judgedZones j).zones.hold.get j.arm = s.judgedHold j := State.judgedZones_hold
  unfold State.judgedSets
  generalize s.judgedHold j = h at hhold ⊢
  split
  · obtain ⟨k, e⟩ := State.addCause_hold_same (a := j.arm) (s := s.judgedZones j) .zone
    exact ⟨k, e.trans (by rw [hhold])⟩
  · exact ⟨h.causes, hhold⟩

theorem State.judgedSets_causes {k : HoldCause} (h : (s.zones.hold.get b).causes.has k = true) :
    ((s.judgedSets j).zones.hold.get b).causes.has k = true := by
  rw [← State.judgedZones_causes (j := j)] at h
  unfold State.judgedSets
  split
  · exact State.addCause_keeps _ _ _ _ _ h
  · exact h

theorem State.judgedSets_unarmed (h : (s.touch.get b).armed = false) :
    ((s.judgedSets j).touch.get b).armed = false := by
  rw [← State.judgedZones_touch (j := j)] at h
  unfold State.judgedSets
  split
  · exact State.addCause_unarmed _ h
  · exact h

theorem State.judgedSets_flag {k : Fin 14} (h : s.attention.sources[k].flag = true) :
    (s.judgedSets j).attention.sources[k].flag = true := by
  rw [← State.judgedZones_attention (j := j)] at h
  unfold State.judgedSets
  split
  · exact State.addCause_flag _ h
  · exact h

/-- A new violation adds the cause ZONE, and latches the hold when it is the first cause (R166, R170). -/
theorem State.judgedSets_violation (hp : s.present j.arm = true) (hv : s.violates j z = true) :
    ((s.judgedSets j).zones.hold.get j.arm).causes.zone = true ∧
    ((s.zones.hold.get j.arm).causes = Causes.none → ((s.judgedSets j).touch.get j.arm).armed = false ∧
      (s.judgedSets j).attention.sources[sourceIndex (.hold j.arm)].flag = true) := by
  unfold State.judgedSets
  simp only [(anyZone_iff _).mpr ⟨z, hv⟩, if_true]
  refine ⟨State.addCause_has _ _ .zone ?_, fun hc => State.addCause_latches _ ?_ ?_⟩
  · rwa [State.judgedZones_present]
  · rwa [State.judgedZones_present]
  · rw [State.judgedZones_causes, hc]

/-! ### A zone by what the judgement finds (R164, R166, R167) -/

theorem State.zone_judgedSets : (s.judgedSets j).zone z = if s.concerns j z = true then
    (s.zone z).map fun r => { r with kind := r.kind.judged j.arm j.claims (s.findsInside j z) } else s.zone z := by
  simp [State.zone, State.judgedSets_table, State.judgedTable]

theorem State.zoneActive_judgedSets : (s.judgedSets j).zoneActive z = s.zoneActive z := by
  rw [State.zoneActive, State.zone_judgedSets]
  split
  · cases h : s.zone z <;> simp [State.zoneActive, h]
  · rfl

theorem State.zoneHolds_judgedSets : (s.judgedSets j).zoneHolds q z = s.zoneHolds q z := by
  rw [State.zoneHolds, State.zone_judgedSets]
  split
  · cases h : s.zone z <;> simp [State.zoneHolds, h, Zone.holds]
  · rfl

/-- The arm is inside a zone concerned exactly when a check point lies in it; a set of the others stands. -/
theorem State.judgedHold_inside : (s.judgedHold j).inside[z] =
    if s.concerns j z = true then s.zoneHolds j.points z else (s.zones.hold.get j.arm).inside[z] := by
  simp only [State.judgedHold, State.findsInside, Fin.getElem_fin, Vector.getElem_ofFn, Fin.eta]
  split
  · next h => rw [h, Bool.true_and]
  · rfl

theorem State.judgedHold_violated :
    (s.judgedHold j).violated[z] = ((s.zones.hold.get j.arm).violated[z] || s.violates j z) := by
  simp [State.judgedHold]

theorem State.judgedHold_permit : (s.judgedHold j).permit[z] =
    ((s.zones.hold.get j.arm).permit[z] && (!s.concerns j z || s.findsInside j z)) := by
  simp [State.judgedHold]

end

end Sys2Proof.Machine
end

section
/-! SUPPORT. What the zone monitor has found of an arm stands through every later judgement and message (spec 09, R165
to R170). -/

namespace Sys2Proof.Machine

/-! ### The parts of a judgement one after the other -/

section
variable {P : State → Prop} {s t : State} {a b : Arm} {j : Judgement} {z : Fin 16} {named : ZoneSet} {claims : Bool}

/-- The judgement of an arm is that of the check points held for it (R165). -/
theorem State.judgement_points (h : s.judgement a named claims = some j) :
    j.arm = a ∧ j.named = named ∧ (s.zones.hold.get a).points = some j.points := by
  unfold State.judgement at h
  split at h
  · obtain ⟨q, hq, rfl⟩ := Option.map_eq_some_iff.mp h
    exact ⟨rfl, rfl, hq⟩
  · cases h

theorem State.judgement_of_points {q : CheckPoints} (hr : s.referenced a = true)
    (hq : (s.zones.hold.get a).points = some q) : s.judgement a named claims = some ⟨a, q, named, claims⟩ := by
  rw [State.judgement, if_pos hr, hq]
  rfl

theorem State.judgement_none (h : s.referenced a = false ∨ (s.zones.hold.get a).points = none) :
    s.judgement a named claims = none := by
  unfold State.judgement
  rcases h with h | h <;> simp [h]

/-- What each judgement of held check points keeps is kept by the judgement of an arm, if there is one. -/
theorem State.judgeIf_keeps (hone : ∀ {u : State} {k : Judgement}, P u →
    (u.zones.hold.get k.arm).points = some k.points → P (u.judgeOne k)) (h : P s) :
    P (s.judgeIf (s.judgement a named claims)) := by
  cases hj : s.judgement a named claims with
  | none => exact h
  | some k =>
    obtain ⟨rfl, -, hq⟩ := State.judgement_points hj
    exact hone h hq

/-- It is kept by the judgement of an arm and of the other arm after it. -/
theorem State.judge_keeps (hone : ∀ {u : State} {k : Judgement}, P u →
    (u.zones.hold.get k.arm).points = some k.points → P (u.judgeOne k)) (h : P s) : P (s.judge a named claims) := by
  simp only [State.judge]
  split
  · exact State.judgeIf_keeps hone (State.judgeIf_keeps hone h)
  · exact State.judgeIf_keeps hone h

theorem State.takeGrantee_keeps {g : Option Arm} (hone : ∀ {u : State} {k : Judgement}, P u →
    (u.zones.hold.get k.arm).points = some k.points → P (u.judgeOne k))
    (h : P { s with zones := { s.zones with grantee := g } })
    (hentry : ∀ b, g = some b → P (({ s with zones := { s.zones with grantee := g } } : State).rackEntry b)) :
    P (s.takeGrantee g) := by
  have hat {u : State} {b : Arm} (hu : P u) : P (u.judgeAtRack b) := by
    unfold State.judgeAtRack
    split
    · split
      · exact State.judge_keeps hone hu
      · exact hu
    · exact hu
  refine hat (hat ?_)
  cases g with
  | none => exact h
  | some b =>
    dsimp only
    split
    · exact hentry b rfl
    · exact h

/-! ### What stands -/

/-- The sets of the arm against those of an earlier state `v`: the check points are held, the inside set is what they say
of every ACTIVE zone, and violations and the end of a permit stand. -/
structure SetsUpheld (a : Arm) (q : CheckPoints) (v u : State) : Prop where
  points : (u.zones.hold.get a).points = some q
  inside : ∀ z, u.zoneActive z = true → (u.zones.hold.get a).inside[z] = u.zoneHolds q z
  violated : ∀ z : Fin 16, (v.zones.hold.get a).violated[z] = true → (u.zones.hold.get a).violated[z] = true
  permit : ∀ z : Fin 16, (v.zones.hold.get a).permit[z] = false → (u.zones.hold.get a).permit[z] = false

/-- What the messages after a judgement of the arm leave of the state `v` it gave: its sets, causes, flags and a
disarmed probe stand. -/
structure Upheld (a : Arm) (q : CheckPoints) (v u : State) : Prop extends SetsUpheld a q v u where
  comp : u.comp = v.comp
  link : u.link = v.link
  causes : ∀ c, (v.zones.hold.get a).causes.has c = true → (u.zones.hold.get a).causes.has c = true
  armed : (v.touch.get a).armed = false → (u.touch.get a).armed = false
  flags : ∀ k : Fin 14, v.attention.sources[k].flag = true → u.attention.sources[k].flag = true

variable {q : CheckPoints} {v u : State}

theorem Upheld.rackOnly (h : Upheld a q v s) (ht : RackOnly s t) : Upheld a q v t := by
  rw [ht.eq]
  exact { h with }

theorem Upheld.setChange {c : Change} (h : Upheld a q v s) : Upheld a q v (s.setChange b c) := { h with }

theorem Upheld.send {m : Message} (h : Upheld a q v s) : Upheld a q v (s.send m) := { h with }

theorem Upheld.raise {src : AttnSource} (h : Upheld a q v s) : Upheld a q v (s.raise src) := by
  have hflag (k : Fin 14) (hk : v.attention.sources[k].flag = true) := State.raise_keeps_flag src (h.flags k hk)
  obtain ⟨r, e⟩ := s.raise_frame src
  rw [e] at hflag ⊢
  exact { h with flags := hflag }

theorem Upheld.disarm (h : Upheld a q v s) : Upheld a q v (s.disarm b) := by
  refine { h with armed := fun hv => ?_ }
  rw [State.disarm_touch, Two.get_set]
  split
  · rfl
  · exact h.armed hv

theorem SetsUpheld.judgedSets (h : SetsUpheld a q v s) (hq : (s.zones.hold.get j.arm).points = some j.points) :
    SetsUpheld a q v (s.judgedSets j) := by
  by_cases ha : j.arm = a
  · subst a
    obtain ⟨k, e⟩ := State.judgedSets_hold (s := s) (j := j)
    refine ⟨?_, fun z hz => ?_, fun z hz => ?_, fun z hz => ?_⟩ <;> rw [e] <;> dsimp only
    · rw [State.judgedHold_points, h.points]
    · rw [State.zoneActive_judgedSets] at hz
      rw [State.zoneHolds_judgedSets, State.judgedHold_inside, Option.some.inj (hq.symm.trans h.points), h.inside z hz,
        ite_self]
    · rw [State.judgedHold_violated, h.violated z hz, Bool.true_or]
    · rw [State.judgedHold_permit, h.permit z hz, Bool.false_and]
  · refine ⟨?_, fun z hz => ?_, ?_, ?_⟩ <;> rw [State.judgedSets_hold_ne ha]
    · exact h.points
    · rw [State.zoneActive_judgedSets] at hz
      rw [State.zoneHolds_judgedSets, h.inside z hz]
    · exact h.violated
    · exact h.permit

/-- The monitor's part of a judgement of the held check points of an arm. -/
theorem Upheld.judgedSets (h : Upheld a q v s) (hq : (s.zones.hold.get j.arm).points = some j.points) :
    Upheld a q v (s.judgedSets j) := by
  have hframe : MonitorOnly s (s.judgedSets j) := State.judgedSets_monitorOnly
  exact
    { toSetsUpheld := h.toSetsUpheld.judgedSets hq
      comp := (congrArg State.comp hframe :).trans h.comp
      link := (congrArg State.link hframe :).trans h.link
      causes := fun c hc => State.judgedSets_causes (h.causes c hc)
      armed := fun hv => State.judgedSets_unarmed (h.armed hv)
      flags := fun k hk => State.judgedSets_flag (h.flags k hk) }

theorem Upheld.judgeOne (h : Upheld a q v s) (hq : (s.zones.hold.get j.arm).points = some j.points) :
    Upheld a q v (s.judgeOne j) := (h.judgedSets hq).rackOnly State.judgeOne_rackOnly

/-- What the monitor has found of the arm stands whatever the messages are. -/
theorem Upheld.messageInvariant : MessageInvariant (Upheld a q v) where
  frame h := { h with }
  setChange _ h := h.setChange
  raise h := h.raise
  disarm h := h.disarm
  takeGrantee {s g} h := by
    have hnamed : Upheld a q v { s with zones := { s.zones with grantee := g } } := { h with }
    exact State.takeGrantee_keeps Upheld.judgeOne hnamed fun _ _ => hnamed.rackOnly (.rackEntry (.refl _))

/-! ### The zone table at the RACK zone (R168) -/

theorem ZoneKind.isRack_iff (k : ZoneKind) : k.isRack = true ↔ k = .rack := by cases k <;> simp [ZoneKind.isRack]

theorem State.zoneIsRack_iff : s.zoneIsRack z = true ↔ ∃ r, s.zone z = some r ∧ r.kind = .rack := by
  simp [State.zoneIsRack, Option.any_eq_true, ZoneKind.isRack_iff]

/-- A judgement against RACK zones alone gives and ends no claim. -/
theorem State.judgeOne_table_of_rack (h : ∀ i, s.concerns j i = true → s.zoneIsRack i = true) :
    (s.judgeOne j).zones.table = s.zones.table := by
  rw [State.judgeOne_rackOnly.zones_eq, State.judgedSets_table]
  refine Vector.ext fun i hi => ?_
  simp only [State.judgedTable, Vector.getElem_ofFn]
  split
  · next hc =>
    obtain ⟨r, hr, hk⟩ := State.zoneIsRack_iff.mp (h _ hc)
    have hkind : r.kind.judged j.arm j.claims (s.findsInside j ⟨i, hi⟩) = r.kind := by
      rw [hk]
      rfl
    rw [hr, Option.map_some, hkind]
    exact hr.symm
  · rfl

theorem State.judgeAtRack_table : (s.judgeAtRack a).zones.table = s.zones.table := by
  unfold State.judgeAtRack
  split
  · next z hz =>
    have hrack : s.zoneIsRack z = true := List.find?_some hz
    have hnamed {u : State} {b : Arm} {n : ZoneSet} (hu : u.zones.table = s.zones.table)
        (hn : ∀ i : Fin 16, n[i] = true → i = z) :
        (u.judgeIf (u.judgement b n true)).zones.table = s.zones.table := by
      cases hj : u.judgement b n true with
      | none => exact hu
      | some k =>
        obtain ⟨-, rfl, -⟩ := State.judgement_points hj
        refine (State.judgeOne_table_of_rack fun i hi => ?_).trans hu
        rw [hn i (Bool.and_eq_true_iff.mp hi).1, State.zoneIsRack, State.zone, hu]
        exact hrack
    have hsingle (i : Fin 16) (hi : (ZoneSet.single z)[i] = true) : i = z := by simpa [ZoneSet.single] using hi
    split
    · simp only [State.judge]
      split
      · refine hnamed (hnamed rfl hsingle) fun i hi => ?_
        simp only [State.claimsEnded, Fin.getElem_fin, Vector.getElem_ofFn, Fin.eta] at hi
        obtain ⟨k, hk, hends⟩ := Option.any_eq_true _ _ |>.mp hi
        obtain ⟨-, hknamed, -⟩ := State.judgement_points hk
        simp only [State.claimEnds, State.concerns, Bool.and_eq_true] at hends
        exact hsingle i (hknamed ▸ hends.1.1.1)
      · exact hnamed rfl hsingle
    · rfl
  · rfl

theorem State.takeGrantee_table (g : Option Arm) : (s.takeGrantee g).zones.table = s.zones.table := by
  refine State.judgeAtRack_table.trans (State.judgeAtRack_table.trans ?_)
  cases g with
  | none => rfl
  | some b =>
    dsimp only
    split
    · exact (congrArg ZoneMonitor.table (RackOnly.rackEntry (.refl _)).zones_eq :)
    · rfl

theorem State.judgeOne_sequencer : (s.judgeOne j).sequencer = s.sequencer :=
  State.judgeOne_rackOnly.sequencer_eq.trans State.judgedSets_monitorOnly.sequencer_eq

theorem State.takeGrantee_sequencer (g : Option Arm) : (s.takeGrantee g).sequencer = s.sequencer :=
  State.takeGrantee_keeps (P := fun u => u.sequencer = s.sequencer) (fun h _ => State.judgeOne_sequencer.trans h) rfl
    fun _ _ => (RackOnly.rackEntry (.refl _)).sequencer_eq

/-- The zone table is `table`, and the last reference point of the arm is `p`. -/
def Posted (a : Arm) (table : Vector (Option Zone) 16) (p : Option Point) (s : State) : Prop :=
  s.zones.table = table ∧ (s.change a).lastReference = p

/-- No message touches the zone table or the last reference point of an arm. -/
theorem Posted.messageInvariant {table : Vector (Option Zone) 16} {p : Option Point} :
    MessageInvariant (Posted a table p) where
  frame h := h
  setChange {s b c} hc h := by
    refine ⟨h.1, ?_⟩
    rw [State.change_setChange]
    split
    · subst b
      exact hc.trans h.2
    · exact h.2
  raise {s src} h := by
    refine ⟨(s.raise_zones src ▸ h.1 :), ?_⟩
    rw [State.change, State.raise_sequencer]
    exact h.2
  disarm h := h
  takeGrantee {s g} h := by
    refine ⟨(State.takeGrantee_table g).trans h.1, ?_⟩
    rw [State.change, State.takeGrantee_sequencer]
    exact h.2

/-! ### A rack that no arm is granted (R168) -/

/-- Without a grantee the zone monitor has nothing to report to the arbiter. -/
theorem State.takeGrantee_none : MonitorOnly s (s.takeGrantee none) ∧ (s.takeGrantee none).zones.grantee = none := by
  refine State.takeGrantee_keeps (P := fun u => MonitorOnly s u ∧ u.zones.grantee = none) ?_ ⟨rfl, rfl⟩ nofun
  rintro u k ⟨hu, hg⟩ -
  have hnone : (u.judgedSets k).zones.grantee = none := State.judgedSets_grantee.trans hg
  rw [State.judgeOne_of_not_grantee (by rw [hg]; exact nofun)]
  exact ⟨hu.trans State.judgedSets_monitorOnly, hnone⟩

end

end Sys2Proof.Machine
end

section
/-! SUPPORT. What the zone monitor finds at a formation: the arm judged against every ACTIVE zone, and the other arm
against each zone whose claim ends (spec 09, R166, R167). -/

namespace Sys2Proof.Machine

section
variable {s t : State} {a : Arm} {j : Judgement} {z : Fin 16} {r : Zone} {q q' : CheckPoints} {named : ZoneSet}
  {claims : Bool} {later : List FormationCause}

/-! ### A judgement and the one that follows it -/

theorem State.judge_eq (h : s.judgement a named claims = some j) : s.judge a named claims =
    if anyZone (s.claimEnds j) then
      (s.judgeOne j).judgeIf ((s.judgeOne j).judgement a.other (s.claimsEnded (some j)) true)
    else s.judgeOne j := by
  simp only [State.judge, h, State.judgeIf, State.claimsEnded, Fin.getElem_fin, Vector.getElem_ofFn, Fin.eta,
    Option.any_some]

@[simp] theorem State.claimsEnded_getElem : (s.claimsEnded (some j))[z] = s.claimEnds j z := by
  simp [State.claimsEnded]

theorem State.zone_judgeOne : (s.judgeOne j).zone z = (s.judgedSets j).zone z :=
  congrArg (fun m : ZoneMonitor => m.table[z]) State.judgeOne_rackOnly.zones_eq

theorem State.referenced_judgeOne (b : Arm) : (s.judgeOne j).referenced b = s.referenced b :=
  have hground : (s.judgeOne j).ground = s.ground := State.judgeOne_ground j
  State.referenced_congr (congrArg Ground.oneArm hground) (congrArg Ground.arms hground)

/-- A zone that the judgement does not concern stands as it is. -/
theorem State.zone_judgeOne_of_not_concerned (h : s.concerns j z = false) : (s.judgeOne j).zone z = s.zone z := by
  rw [State.zone_judgeOne, State.zone_judgedSets, h]
  rfl

/-- The zones other than those whose claim ends are judged for the one arm. -/
theorem State.zone_judge (h : s.judgement a named claims = some j) (hz : s.claimEnds j z = false) :
    (s.judge a named claims).zone z = (s.judgeOne j).zone z := by
  rw [State.judge_eq h]
  split
  · cases hj : (s.judgeOne j).judgement a.other (s.claimsEnded (some j)) true with
    | none => rfl
    | some k =>
      obtain ⟨-, hnamed, -⟩ := State.judgement_points hj
      refine State.zone_judgeOne_of_not_concerned ?_
      rw [State.concerns, hnamed, State.claimsEnded_getElem, hz, Bool.false_and]
  · rfl

theorem State.judge_of_claimEnds (h : s.judgement a named claims = some j) (hz : s.claimEnds j z = true) :
    s.judge a named claims =
      (s.judgeOne j).judgeIf ((s.judgeOne j).judgement a.other (s.claimsEnded (some j)) true) := by
  rw [State.judge_eq h, if_pos ((anyZone_iff _).mpr ⟨z, hz⟩)]

/-- With a grantee that is not the other arm, the judgement after the first reports nothing to the arbiter. -/
theorem State.judge_monitorOnly (h : s.judgement a named claims = some j) (hg : s.zones.grantee ≠ some a.other) :
    MonitorOnly (s.judgeOne j) (s.judge a named claims) := by
  have hgrantee : (s.judgeOne j).zones.grantee = s.zones.grantee :=
    (congrArg ZoneMonitor.grantee State.judgeOne_rackOnly.zones_eq).trans State.judgedSets_grantee
  rw [State.judge_eq h]
  split
  · cases hj : (s.judgeOne j).judgement a.other (s.claimsEnded (some j)) true with
    | none => exact .refl _
    | some k =>
      obtain ⟨harm, -, -⟩ := State.judgement_points hj
      have hsilent : (s.judgeOne j).judgeOne k = (s.judgeOne j).judgedSets k :=
        State.judgeOne_of_not_grantee (by rwa [harm, hgrantee])
      rw [State.judgeIf, hsilent]
      exact State.judgedSets_monitorOnly
  · exact .refl _

theorem State.judge_sequencer : (s.judge a named claims).sequencer = s.sequencer :=
  State.judge_keeps (P := fun u => u.sequencer = s.sequencer) (fun h _ => State.judgeOne_sequencer.trans h) rfl

/-- A judgement changes neither which zones are ACTIVE nor where they lie. -/
theorem State.judge_zones : (s.judge a named claims).zoneActive z = s.zoneActive z ∧
    (s.judge a named claims).zoneHolds q z = s.zoneHolds q z := by
  refine State.judge_keeps (P := fun u => u.zoneActive z = s.zoneActive z ∧ u.zoneHolds q z = s.zoneHolds q z) ?_
    ⟨rfl, rfl⟩
  rintro u k ⟨hactive, hholds⟩ -
  constructor
  · rw [State.zoneActive, State.zone_judgeOne]
    exact State.zoneActive_judgedSets.trans hactive
  · rw [State.zoneHolds, State.zone_judgeOne]
    exact State.zoneHolds_judgedSets.trans hholds

/-! ### The formation's judgement -/

/-- The judgement a formation asks for: every ACTIVE zone is concerned (R166). -/
def wholeJudgement (a : Arm) (q : CheckPoints) : Judgement := ⟨a, q, ZoneSet.all, true⟩

theorem State.concerns_whole : s.concerns (wholeJudgement a q) z = s.zoneActive z := by
  simp [State.concerns, wholeJudgement, ZoneSet.all]

/-- The formation is taken and its check points are held (R92, R165). -/
def State.holding (s : State) (a : Arm) (later : List FormationCause) (q : CheckPoints) : State :=
  (s.setFormations a later).setHold a { s.zones.hold.get a with points := some q }

/-- The zone monitor has judged the arm. -/
def State.judgedFormation (s : State) (a : Arm) (later : List FormationCause) (q : CheckPoints) : State :=
  (s.holding a later q).judge a ZoneSet.all true

/-- The change sequencer keeps the reference point and is to test its wait (R143). -/
def State.handOn (s : State) (a : Arm) (p : Point) : State :=
  (s.setChange a { s.change a with lastReference := some p }).send (.testStage a)

theorem State.handOn_ground {p : Point} : (s.handOn a p).ground = s.ground := rfl

theorem State.holding_ground : (s.holding a later q).ground = s.ground := rfl

theorem State.holding_present : (s.holding a later q).present a = s.present a := by cases a <;> rfl

/-- The judgement leaves the zones as ACTIVE and where they are. -/
theorem State.judgedFormation_zones : (s.judgedFormation a later q).zoneActive z = s.zoneActive z ∧
    (s.judgedFormation a later q).zoneHolds q z = s.zoneHolds q z :=
  State.judge_zones (s := s.holding a later q)

theorem State.form_referenced {cause : FormationCause} (hdue : s.comp.formationDue.get a = cause :: later)
    (hr : s.referenced a = true) (hq : (s.gather a).checkPoints (s.arms.get a).counts = q) :
    s.form a = (s.judgedFormation a later q).handOn a q.reference := by
  subst q
  have hr' : (s.setFormations a later).referenced a = true := hr
  rw [State.form, hdue]
  exact if_pos hr'

theorem State.form_blind {cause : FormationCause} (hdue : s.comp.formationDue.get a = cause :: later)
    (hr : s.referenced a = false) : s.form a = s.setFormations a later := by
  have hr' : ¬ (s.setFormations a later).referenced a = true := by
    rw [show (s.setFormations a later).referenced a = s.referenced a from rfl, hr]
    exact Bool.false_ne_true
  rw [State.form, hdue]
  exact if_neg hr'

theorem State.holding_hold : (s.holding a later q).zones.hold.get a = { s.zones.hold.get a with points := some q } :=
  Two.get_set_same ..

theorem State.holding_judgement (hr : s.referenced a = true) :
    (s.holding a later q).judgement a ZoneSet.all true = some (wholeJudgement a q) :=
  State.judgement_of_points hr (by rw [State.holding_hold])

/-! ### What the judgement finds of one zone -/

theorem State.zoneHolds_iff (hz : s.zone z = some r) : s.zoneHolds q z = true ↔ Inside r q := by
  rw [State.zoneHolds, hz, Option.any_some, Zone.holds_iff]

theorem State.zoneActive_of (hz : s.zone z = some r) (hr : r.suspended = false) : s.zoneActive z = true := by
  rw [State.zoneActive, hz, Option.any_some, hr]
  rfl

theorem State.findsInside_whole (hz : s.zone z = some r) (hr : r.suspended = false) :
    s.findsInside (wholeJudgement a q) z = true ↔ Inside r q := by
  rw [State.findsInside, State.concerns_whole, State.zoneActive_of hz hr, Bool.true_and]
  exact State.zoneHolds_iff hz

/-- The claim of the judged arm ends at a SHARED zone it has left, and nowhere else (R167). -/
theorem State.claimEnds_whole (hz : s.zone z = some r) (hr : r.suspended = false) :
    s.claimEnds (wholeJudgement a q) z = true ↔ ¬ Inside r q ∧ r.kind = .shared (some a) := by
  rw [State.claimEnds, State.concerns_whole, State.zoneActive_of hz hr, hz, Option.any_some, 
    ← State.findsInside_whole (a := a) hz hr]
  simp [wholeJudgement]

/-- A new violation of a zone whose kind does not permit the arm (R163, R166). -/
theorem State.violates_whole (hz : s.zone z = some r) (hr : r.suspended = false) (hin : Inside r q)
    (hkind : r.kind = .forbidden ∨ r.kind = .privateTo a.other ∨ r.kind = .shared (some a.other) ∨
      (r.kind = .rack ∧ s.zones.grantee ≠ some a))
    (hpermit : (s.zones.hold.get a).permit[z] = false) (hviolated : (s.zones.hold.get a).violated[z] = false) :
    s.violates (wholeJudgement a q) z = true := by
  have hdenied : r.kind.permits a s.zones.grantee true = false := by
    rcases hkind with hk | hk | hk | ⟨hk, hg⟩ <;> rw [hk]
    · rfl
    · exact beq_false_of_ne (Side.other_ne a)
    · exact beq_false_of_ne (Side.other_ne a)
    · exact beq_false_of_ne hg
  have hfound := (State.findsInside_whole (a := a) hz hr).mpr hin
  have hsets : (s.zones.hold.get (wholeJudgement a q).arm) = s.zones.hold.get a := rfl
  have hkept : (s.zone z).any (fun v => v.kind.permits (wholeJudgement a q).arm s.zones.grantee
      (wholeJudgement a q).claims) = false := by
    rw [hz, Option.any_some]
    exact hdenied
  rw [State.violates, hfound, hkept, hsets, hpermit, hviolated]
  rfl

/-- A zone of the formation's judgement that keeps its claims with the judged arm alone. -/
theorem State.zone_judgedFormation (href : s.referenced a = true) (hz : s.zone z = some r) (hr : r.suspended = false)
    (hends : ¬ Inside r q → r.kind ≠ .shared (some a)) : (s.judgedFormation a later q).zone z =
      some { r with kind := r.kind.judged a true ((s.holding a later q).findsInside (wholeJudgement a q) z) } := by
  have hz' : (s.holding a later q).zone z = some r := hz
  have hnot : (s.holding a later q).claimEnds (wholeJudgement a q) z = false := by
    rw [Bool.eq_false_iff, ne_eq, State.claimEnds_whole hz' hr]
    exact fun ⟨hout, hk⟩ => hends hout hk
  rw [State.judgedFormation, State.zone_judge (State.holding_judgement href) hnot, State.zone_judgeOne,
    State.zone_judgedSets, State.concerns_whole, State.zoneActive_of hz' hr, hz']
  rfl

/-- An unclaimed SHARED zone that the arm is found inside is claimed for it (R167). -/
theorem State.judgedFormation_claims (href : s.referenced a = true) (hz : s.zone z = some r)
    (hr : r.suspended = false) (hin : Inside r q) (hk : r.kind = .shared none) :
    (s.judgedFormation a later q).zone z = some { r with kind := .shared (some a) } := by
  have hz' : (s.holding a later q).zone z = some r := hz
  rw [State.zone_judgedFormation href hz hr fun hout => absurd hin hout, (State.findsInside_whole hz' hr).mpr hin, hk]
  rfl

/-- The zone whose claim ends is judged for the other arm, with no claimant (R167). -/
theorem State.zone_judgeOne_whole (hz : s.zone z = some r) (hr : r.suspended = false) (hout : ¬ Inside r q)
    (hk : r.kind = .shared (some a)) :
    (s.judgeOne (wholeJudgement a q)).zone z = some { r with kind := .shared none } := by
  have hfound : s.findsInside (wholeJudgement a q) z = false := by
    rw [Bool.eq_false_iff, ne_eq, State.findsInside_whole hz hr]
    exact hout
  rw [State.zone_judgeOne, State.zone_judgedSets, State.concerns_whole, State.zoneActive_of hz hr, hz, hfound]
  simp [ZoneKind.judged, wholeJudgement, hk]

/-- The other arm against a zone that has just lost its claim: found inside, it takes the claim (R167). -/
theorem State.zone_judgeOne_unclaimed (harm : j.arm = a) (hclaims : j.claims = true) (hc : s.concerns j z = true)
    (hz : s.zone z = some { r with kind := .shared none }) : (s.judgeOne j).zone z =
      some { r with kind := .shared (if s.zoneHolds j.points z = true then some a else none) } := by
  rw [State.zone_judgeOne, State.zone_judgedSets, hc, hz, State.findsInside, hc, Bool.true_and, hclaims, harm]
  simp only [if_true, Option.map_some, ZoneKind.judged, Bool.and_true]
  split <;> rfl

/-- The claim of an arm that has left passes to the other arm if that is inside, and ends otherwise (R167). -/
theorem State.judgedFormation_passes (href : s.referenced a = true) (hz : s.zone z = some r)
    (hr : r.suspended = false) (hout : ¬ Inside r q) (hk : r.kind = .shared (some a)) :
    (∀ q', s.referenced a.other = true → (s.zones.hold.get a.other).points = some q' → Inside r q' →
      (s.judgedFormation a later q).zone z = some { r with kind := .shared (some a.other) }) ∧
    ((s.referenced a.other = false ∨ ∀ q', (s.zones.hold.get a.other).points = some q' → ¬ Inside r q') →
      (s.judgedFormation a later q).zone z = some { r with kind := .shared none }) := by
  have hz' : (s.holding a later q).zone z = some r := hz
  have hends : (s.holding a later q).claimEnds (wholeJudgement a q) z = true :=
    (State.claimEnds_whole hz' hr).mpr ⟨hout, hk⟩
  have hfirst : ((s.holding a later q).judgeOne (wholeJudgement a q)).zone z = some { r with kind := .shared none } :=
    State.zone_judgeOne_whole hz' hr hout hk
  have hpoints : (((s.holding a later q).judgeOne (wholeJudgement a q)).zones.hold.get a.other).points =
      (s.zones.hold.get a.other).points := by
    rw [State.judgeOne_rackOnly.zones_eq, State.judgedSets_hold_ne (Side.other_ne a).symm]
    exact congrArg HoldRecord.points (Two.get_set_other ..)
  have hreferenced : ((s.holding a later q).judgeOne (wholeJudgement a q)).referenced a.other = s.referenced a.other :=
    State.referenced_judgeOne _
  rw [State.judgedFormation, State.judge_of_claimEnds (State.holding_judgement href) hends]
  generalize (s.holding a later q).judgeOne (wholeJudgement a q) = t at hfirst hpoints hreferenced ⊢
  have hjudged {k : CheckPoints} (hb : s.referenced a.other = true)
      (hq : (s.zones.hold.get a.other).points = some k) :
      (t.judgeIf (t.judgement a.other ((s.holding a later q).claimsEnded (some (wholeJudgement a q))) true)).zone z =
        some { r with kind := .shared (if t.zoneHolds k z = true then some a.other else none) } := by
    rw [State.judgement_of_points (hreferenced.trans hb) (hpoints.trans hq)]
    refine State.zone_judgeOne_unclaimed rfl rfl ?_ hfirst
    rw [State.concerns, State.claimsEnded_getElem, hends, State.zoneActive_of hfirst hr]
    rfl
  have hholds (k : CheckPoints) : t.zoneHolds k z = true ↔ Inside r k := (State.zoneHolds_iff hfirst).trans Iff.rfl
  refine ⟨fun k hb hq hin => ?_, fun hnot => ?_⟩
  · rw [hjudged hb hq, if_pos ((hholds k).mpr hin)]
  · rcases hnot with hb | hnone
    · rw [State.judgement_none (.inl (hreferenced.trans hb))]
      exact hfirst
    · cases hq : (s.zones.hold.get a.other).points with
      | none =>
        rw [State.judgement_none (.inr (hpoints.trans hq))]
        exact hfirst
      | some k =>
        cases hb : s.referenced a.other with
        | false =>
          rw [State.judgement_none (.inl (hreferenced.trans hb))]
          exact hfirst
        | true => rw [hjudged hb hq, if_neg fun h => hnone k hq ((hholds k).mp h)]

/-! ### What stands of it after the messages -/

/-- The first judgement's own part, with the check points held. -/
theorem Upheld.start (hq : (s.zones.hold.get a).points = some q) :
    Upheld a q (s.judgedSets (wholeJudgement a q)) (s.judgedSets (wholeJudgement a q)) := by
  obtain ⟨k, e⟩ := State.judgedSets_hold (s := s) (j := wholeJudgement a q)
  have e' : (s.judgedSets (wholeJudgement a q)).zones.hold.get a = _ := e
  refine { points := ?_, inside := fun z hz => ?_, comp := rfl, link := rfl, violated := fun _ h => h,
           permit := fun _ h => h, causes := fun _ h => h, armed := id, flags := fun _ h => h }
  · rw [e']
    dsimp only
    rw [State.judgedHold_points]
    exact hq
  · rw [State.zoneActive_judgedSets] at hz
    rw [e', State.zoneHolds_judgedSets, State.judgedHold_inside, State.concerns_whole, if_pos hz]
    rfl

/-- What the first judgement has found stands when the formation has been handed on and the part has settled. -/
theorem Upheld.handOn (href : s.referenced a = true) :
    Upheld a q ((s.holding a later q).judgedSets (wholeJudgement a q))
      ((s.judgedFormation a later q).handOn a q.reference).settle := by
  have hq : ((s.holding a later q).zones.hold.get a).points = some q := by rw [State.holding_hold]
  have hfirst : Upheld a q ((s.holding a later q).judgedSets (wholeJudgement a q))
      ((s.holding a later q).judgeOne (wholeJudgement a q)) := (Upheld.start hq).rackOnly State.judgeOne_rackOnly
  have hjudged : Upheld a q ((s.holding a later q).judgedSets (wholeJudgement a q)) (s.judgedFormation a later q) := by
    rw [State.judgedFormation, State.judge_eq (State.holding_judgement href)]
    split
    · exact State.judgeIf_keeps Upheld.judgeOne hfirst
    · exact hfirst
  exact Upheld.messageInvariant.settle hjudged.setChange.send

theorem Posted.handOn {p : Point} : Posted a s.zones.table (some p) (s.handOn a p).settle :=
  Posted.messageInvariant.settle ⟨rfl, congrArg Change.lastReference (Two.get_set_same ..)⟩

end

end Sys2Proof.Machine
end

section
/-! SUPPORT. What the arbiter makes of the reports of a formation, and the settling of the part when no wait of the
arm's change is satisfied by it (spec 07, R129, R130; spec 08, R143). -/

namespace Sys2Proof.Machine

section
variable {s t : State} {a : Arm} {j : Judgement} {z : Fin 16} {r : Zone} {q : CheckPoints}
  {later : List FormationCause} {acknowledged inside ended : Bool}

/-! ### Entry and exit (R129, R130) -/

theorem State.reexamine_of_no_drive (h : ∀ p : Fin 20, (s.pocket p).drive = false) : s.reexamine = s := by
  unfold State.reexamine
  induction List.finRange 20 with
  | nil => rfl
  | cons p l ih =>
    rw [List.foldl_cons, State.reexamineAt, h p, if_neg (by simp)]
    exact ih

/-- An entry acknowledges the grant, which stops a timer that runs (R129). -/
theorem State.rackEntry_granted (h : s.rack.arbiter = .granted a acknowledged inside ended) : s.rackEntry a =
    { s with rack := { s.rack with
      arbiter := .granted a true true ended, grantTimer := if acknowledged then s.rack.grantTimer else none } } := by
  rw [State.rackEntry, h]
  cases acknowledged <;> simp [State.setArbiter, State.setGrantTimer]

/-- An exit while the change goes on ends the stay alone (R130). -/
theorem State.rackExit_staying (h : s.rack.arbiter = .granted a acknowledged inside false) :
    s.rackExit a = { s with rack := { s.rack with arbiter := .granted a acknowledged false false } } := by
  rw [State.rackExit, h]
  exact if_pos rfl

/-- The exit after the change has ended frees a rack that no arm waits for (R130). -/
theorem State.rackExit_ended (h : s.rack.arbiter = .granted a acknowledged inside true) (hq : s.rack.queue = [])
    (hd : ∀ p : Fin 20, (s.pocket p).drive = false) : s.rackExit a =
      { s with rack := { s.rack with arbiter := .free, grantTimer := none }, mail := s.mail ++ [.grantee none] } := by
  have hfree : s.rackExit a = (s.setArbiter (.granted a acknowledged false true)).freeRack := by
    rw [State.rackExit, h]
    exact if_pos rfl
  have hstill : (((s.setArbiter (.granted a acknowledged false true)).setArbiter .free).setGrantTimer none).reexamine =
      ((s.setArbiter (.granted a acknowledged false true)).setArbiter .free).setGrantTimer none :=
    State.reexamine_of_no_drive hd
  rw [hfree, State.freeRack, hstill, State.grantTest]
  simp [State.setArbiter, State.setGrantTimer, State.send, hq]

/-! ### The reports of a judgement (R166, R168) -/

/-- The one RACK zone decides what is reported: an arm now inside that was not has entered. -/
theorem State.entersRack_eq (hrack : s.zoneIsRack z = true) (hone : ∀ w, s.zoneIsRack w = true → w = z) :
    s.entersRack j = (s.findsInside j z && !(s.zones.hold.get j.arm).inside[z]) := by
  rw [Bool.eq_iff_iff, State.entersRack, anyZone_iff]
  constructor
  · rintro ⟨w, hw⟩
    simp only [Bool.and_eq_true] at hw
    obtain ⟨⟨hwrack, hfound⟩, hwas⟩ := hw
    obtain rfl := hone w hwrack
    exact Bool.and_eq_true_iff.mpr ⟨hfound, hwas⟩
  · exact fun h => ⟨z, by rw [hrack, Bool.true_and]; exact h⟩

/-- An arm that was inside and is not has left. -/
theorem State.leavesRack_eq (hrack : s.zoneIsRack z = true) (hone : ∀ w, s.zoneIsRack w = true → w = z) :
    s.leavesRack j = (s.concerns j z && !s.findsInside j z && (s.zones.hold.get j.arm).inside[z]) := by
  rw [Bool.eq_iff_iff, State.leavesRack, anyZone_iff]
  constructor
  · rintro ⟨w, hw⟩
    simp only [Bool.and_eq_true] at hw
    obtain ⟨⟨⟨hwrack, hc⟩, hout⟩, hwas⟩ := hw
    obtain rfl := hone w hwrack
    simp only [Bool.and_eq_true]
    exact ⟨⟨hc, hout⟩, hwas⟩
  · exact fun h => ⟨z, by rw [hrack, Bool.true_and]; exact h⟩

/-! ### A change that waits on (R143) -/

/-- No wait of the arm's change is satisfied by its last reference point: there is no change, or it approaches a dock box
the point is not in. -/
def State.Rests (s : State) (a : Arm) : Prop :=
  (s.change a).state = .idle ∨
  ((s.change a).state = .stowApproach ∨ ((s.change a).state = .fetchApproach ∧ (s.change a).stowClose = false)) ∧
    ∀ p, (s.change a).current = some p → s.inDock a p = false

theorem State.Rests.congr (h : s.Rests a) (hseq : t.sequencer = s.sequencer) (hrack : t.rack = s.rack) : t.Rests a := by
  have hchange : t.change a = s.change a := by rw [State.change, hseq, State.change]
  have hdock (p : Fin 20) : t.inDock a p = s.inDock a p := by
    rw [State.inDock, hchange, State.dockBox, State.pocket, hrack]
    rfl
  simp only [State.Rests, hchange, hdock]
  exact h

theorem State.advance_of_rests (h : s.Rests a) : s.advance a = s := by
  unfold State.advance
  rcases h with h | ⟨h | ⟨h, hclose⟩, hp⟩
  · simp only [h]
  · simp only [h]
    cases hcur : (s.change a).current with
    | none => rfl
    | some p => simp [hp p hcur]
  · simp only [h]
    cases hcur : (s.change a).current with
    | none => rfl
    | some p => simp [hclose, hp p hcur]

theorem State.settleN_cons {m : Message} {rest : List Message} (n : Nat) (h : s.mail = m :: rest) :
    s.settleN (n + 1) = (({ s with mail := rest } : State).takeMessage m).settleN n := by
  rw [State.settleN, h]

/-- The test of a wait that is not satisfied changes nothing. -/
theorem State.settleN_testStage (n : Nat) (hm : s.mail = [.testStage a]) (h : s.Rests a) :
    s.settleN (n + 1) = { s with mail := [] } := by
  have hrests : State.Rests { s with mail := [] } a := h.congr rfl rfl
  rw [State.settleN_cons n hm, State.takeMessage, State.advance_of_rests hrests]
  exact State.settleN_of_quiet _ _ rfl

theorem State.settle_testStage (hm : s.mail = [.testStage a]) (h : s.Rests a) : s.settle.rack = s.rack := by
  rw [State.settle, settleBound, State.settleN_testStage 255 hm h]

/-- The zone monitor takes the notice that no arm is the grantee, and the rack stays as it is. -/
theorem State.settle_freed (hm : s.mail = [.grantee none, .testStage a]) (h : s.Rests a) :
    s.settle.rack = s.rack ∧ s.settle.zones.grantee = none := by
  obtain ⟨hframe, hgrantee⟩ := State.takeGrantee_none (s := { s with mail := [.testStage a] })
  rw [State.settle, settleBound, State.settleN_cons 255 hm, State.takeMessage]
  generalize State.takeGrantee { s with mail := [.testStage a] } none = t at hframe hgrantee ⊢
  have hrack : t.rack = s.rack := hframe.rack_eq
  have hrests : t.Rests a := h.congr hframe.sequencer_eq hrack
  have hsettled : t.settleN 255 = { t with mail := [] } := State.settleN_testStage 254 hframe.mail_eq hrests
  rw [hsettled]
  exact ⟨hrack, hgrantee⟩

/-- The arm has no change, or one in an approach, with the point `p` outside the dock box it approaches. -/
def WaitsOn (s : State) (a : Arm) (p : Point) : Prop :=
  (s.change a).state = .idle ∨
  ((s.change a).state = .stowApproach ∨ ((s.change a).state = .fetchApproach ∧ (s.change a).stowClose = false)) ∧
    ∀ (i : Fin 20) (b : Box), (s.change a).current = some i → (s.pocket i).dock.get a = some b → ¬ InGrown b 0 p

/-- No wait of the change is satisfied when the reference point handed on lies outside the dock box it approaches. -/
theorem State.handOn_rests {p : Point} (hseq : t.sequencer = s.sequencer) (hk : t.rack.pockets = s.rack.pockets)
    (h : WaitsOn s a p) : (t.handOn a p).Rests a := by
  have hsame : t.change a = s.change a := congrArg (fun x : Sequencer => x.change.get a) hseq
  have hchange : (t.handOn a p).change a = { s.change a with lastReference := some p } :=
    (Two.get_set_same ..).trans (congrArg (fun c : Change => { c with lastReference := some p }) hsame)
  have hpocket (i : Fin 20) : (t.handOn a p).pocket i = s.pocket i := congrArg (fun x : Vector Pocket 20 => x[i]) hk
  unfold State.Rests
  rw [hchange]
  refine h.imp id fun ⟨hstage, hout⟩ => ⟨hstage, fun i hi => ?_⟩
  rw [Bool.eq_false_iff, ne_eq, State.inDock_of_reference _ a i (congrArg Change.lastReference hchange)]
  rintro ⟨b, hb, hin⟩
  rw [hpocket] at hb
  exact hout i b hi hb hin

theorem State.handOn_settle {p : Point} (hm : t.mail = []) (h : (t.handOn a p).Rests a) :
    (t.handOn a p).settle.rack = t.rack :=
  State.settle_testStage (congrArg (· ++ [Message.testStage a]) hm) h

theorem State.handOn_settle_freed {p : Point} (hm : t.mail = [.grantee none]) (h : (t.handOn a p).Rests a) :
    (t.handOn a p).settle.rack = t.rack ∧ (t.handOn a p).settle.zones.grantee = none :=
  State.settle_freed (congrArg (· ++ [Message.testStage a]) hm) h

/-! ### The grantee's formation (R129, R130, R166, R168) -/

/-- What the grantee's formation leaves of the rack and the messages: those of its report about the RACK zone. -/
theorem State.judgedFormation_reports (href : s.referenced a = true) (hg : s.zones.grantee = some a)
    (hz : s.zone z = some r) (hr : r.suspended = false) (hk : r.kind = .rack)
    (hone : ∀ (w : Fin 16) (v : Zone), s.zone w = some v → v.kind = .rack → w = z) :
    ∃ x : State, x.rack = s.rack ∧ x.mail = s.mail ∧
      MonitorOnly (if (s.zoneHolds q z && !(s.zones.hold.get a).inside[z]) = true then x.rackEntry a
        else if (!s.zoneHolds q z && (s.zones.hold.get a).inside[z]) = true then x.rackExit a else x)
        (s.judgedFormation a later q) := by
  have hz' : (s.holding a later q).zone z = some r := hz
  have hrack : (s.holding a later q).zoneIsRack z = true := State.zoneIsRack_iff.mpr ⟨r, hz, hk⟩
  have hone' (w : Fin 16) (hw : (s.holding a later q).zoneIsRack w = true) : w = z := by
    obtain ⟨v, hv, hvk⟩ := State.zoneIsRack_iff.mp hw
    exact hone w v hv hvk
  have hconcerned : (s.holding a later q).concerns (wholeJudgement a q) z = true := by
    rw [State.concerns_whole, State.zoneActive_of hz' hr]
  have hfound : (s.holding a later q).findsInside (wholeJudgement a q) z = s.zoneHolds q z := by
    rw [State.findsInside, hconcerned, Bool.true_and]
    rfl
  have hwas : ((s.holding a later q).zones.hold.get (wholeJudgement a q).arm).inside[z] =
      (s.zones.hold.get a).inside[z] := by
    rw [show (wholeJudgement a q).arm = a from rfl, State.holding_hold]
  have hgrantee : ((s.holding a later q).judgedSets (wholeJudgement a q)).zones.grantee =
      some (wholeJudgement a q).arm :=
    State.judgedSets_grantee.trans hg
  have hafter : MonitorOnly ((s.holding a later q).judgeOne (wholeJudgement a q)) (s.judgedFormation a later q) := by
    refine State.judge_monitorOnly (State.holding_judgement href) ?_
    rw [show (s.holding a later q).zones.grantee = some a from hg]
    exact fun h => Side.other_ne a (Option.some.inj h).symm
  have hsets : MonitorOnly (s.holding a later q) ((s.holding a later q).judgedSets (wholeJudgement a q)) :=
    State.judgedSets_monitorOnly
  refine ⟨_, hsets.rack_eq, hsets.mail_eq, ?_⟩
  rw [State.judgeOne_eq, State.reportRack, State.entersRack_eq hrack hone', State.leavesRack_eq hrack hone', hconcerned,
    hfound, hwas, Bool.true_and, if_pos hgrantee] at hafter
  exact hafter

/-- A rack that the formation's reports have left as `k`, with the pockets as they were, stays so while the part
settles. -/
theorem State.handOn_rack {w : State} {k : Rack} (hseq : w.sequencer = s.sequencer) (hmail : w.mail = [])
    (hw : w.rack = k) (hk : k.pockets = s.rack.pockets) (hwaits : WaitsOn s a q.reference) :
    (w.handOn a q.reference).settle.rack = k := by
  subst k
  exact State.handOn_settle hmail (State.handOn_rests hseq hk hwaits)

/-- In the RACK zone the grantee's entry acknowledges the grant, and its exit ends the stay, and the grant of a change
that has ended (R129, R130). -/
theorem State.grantee_formation (hquiet : s.quiet) (href : s.referenced a = true) (hg : s.zones.grantee = some a)
    (hz : s.zone z = some r) (hr : r.suspended = false) (hk : r.kind = .rack)
    (hone : ∀ (w : Fin 16) (v : Zone), s.zone w = some v → v.kind = .rack → w = z)
    (hwaits : WaitsOn s a q.reference) (harb : s.rack.arbiter = .granted a acknowledged inside ended) {u : State}
    (hu : u = ((s.judgedFormation a later q).handOn a q.reference).settle) :
    (Inside r q → (s.zones.hold.get a).inside[z] = false → u.rack = { s.rack with
      arbiter := .granted a true true ended
      grantTimer := if acknowledged then s.rack.grantTimer else none }) ∧
    (¬ Inside r q → (s.zones.hold.get a).inside[z] = true → ended = false →
      u.rack = { s.rack with arbiter := .granted a acknowledged false false }) ∧
    (¬ Inside r q → (s.zones.hold.get a).inside[z] = true → ended = true → s.rack.queue = [] →
      (∀ p : Fin 20, (s.pocket p).drive = false) →
      u.rack = { s.rack with arbiter := .free, grantTimer := none } ∧ u.zones.grantee = none) ∧
    (((s.zones.hold.get a).inside[z] = true ↔ Inside r q) → u.rack = s.rack) := by
  obtain ⟨x, hxrack, hxmail, hreports⟩ :=
    State.judgedFormation_reports (q := q) (later := later) href hg hz hr hk hone
  have hseq : (s.judgedFormation a later q).sequencer = s.sequencer := State.judge_sequencer
  have hquiet' : x.mail = [] := hxmail.trans hquiet
  have harb' : x.rack.arbiter = .granted a acknowledged inside ended := by rw [hxrack, harb]
  rw [← State.zoneHolds_iff hz, hu]
  generalize s.judgedFormation a later q = w at hreports hseq
  generalize s.zoneHolds q z = found at hreports
  generalize (s.zones.hold.get a).inside[z] = was at hreports
  refine ⟨fun hin hwas => ?_, fun hout hwas hgoes => ?_, fun hout hwas hends hqueue hdrive => ?_, fun hsame => ?_⟩
  · subst hin hwas
    have hentry : MonitorOnly (x.rackEntry a) w := hreports
    rw [State.rackEntry_granted harb'] at hentry
    exact State.handOn_rack hseq (hentry.mail_eq.trans hquiet') (hentry.rack_eq.trans (by rw [hxrack])) rfl hwaits
  · rw [Bool.not_eq_true] at hout
    subst hout hwas hgoes
    have hexit : MonitorOnly (x.rackExit a) w := hreports
    rw [State.rackExit_staying harb'] at hexit
    exact State.handOn_rack hseq (hexit.mail_eq.trans hquiet') (hexit.rack_eq.trans (by rw [hxrack])) rfl hwaits
  · rw [Bool.not_eq_true] at hout
    subst hout hwas hends
    have hdrive' (p : Fin 20) : (x.pocket p).drive = false := by
      rw [State.pocket, hxrack]
      exact hdrive p
    have hexit : MonitorOnly (x.rackExit a) w := hreports
    rw [State.rackExit_ended harb' (by rw [hxrack, hqueue]) hdrive', hxrack, hquiet'] at hexit
    have hrack : w.rack = { s.rack with arbiter := .free, grantTimer := none } := hexit.rack_eq
    have hrests : (w.handOn a q.reference).Rests a := State.handOn_rests hseq (congrArg Rack.pockets hrack :) hwaits
    rw [← hrack]
    exact State.handOn_settle_freed hexit.mail_eq hrests
  · have hstill : MonitorOnly x w := by
      obtain rfl : was = found := Bool.eq_iff_iff.mpr hsame
      cases was <;> exact hreports
    exact State.handOn_rack hseq (hstill.mail_eq.trans hquiet') (hstill.rack_eq.trans hxrack) rfl hwaits

end

end Sys2Proof.Machine
end

section
/-! PROOF. The check-point formation (O36). -/

namespace Sys2Proof.Machine

section
variable {s : State} {a : Arm} {z : Fin 16} {r : Zone} {q : CheckPoints} {later : List FormationCause}

theorem exec_checkPointFormation (hs : s.serves a) : exec (.checkPointFormation a) s = .next (s.form a).settle :=
  congrArg Host.Outcome.next (s.armEvent_on a _ hs)

/-- What is handed on stands when the part has settled: the check points, the reference point, and the blocks that no
message touches (R92). -/
theorem formation_handed (href : s.referenced a = true) {u : State}
    (hu : u = ((s.judgedFormation a later q).handOn a q.reference).settle) :
    (u.zones.hold.get a).points = some q ∧ (u.change a).lastReference = some q.reference ∧
    u.comp = { s.comp with formationDue := s.comp.formationDue.set a later } ∧ u.arms = s.arms ∧
    u.scanner = s.scanner ∧ u.link = s.link := by
  have hstands : Upheld a q ((s.holding a later q).judgedSets (wholeJudgement a q)) u := hu ▸ Upheld.handOn href
  have hsets : MonitorOnly (s.holding a later q) ((s.holding a later q).judgedSets (wholeJudgement a q)) :=
    State.judgedSets_monitorOnly
  have hground : u.ground = s.ground := by
    rw [hu, State.settle_ground, State.handOn_ground, State.judgedFormation, State.judge_ground, State.holding_ground]
  exact ⟨hstands.points, hu ▸ Posted.handOn.2, hstands.comp.trans (congrArg State.comp hsets :),
    congrArg Ground.arms hground, congrArg Ground.scanner hground, hstands.link.trans (congrArg State.link hsets :)⟩

/-- The zone table when the part has settled is that of the judgement. -/
theorem formation_zone {u : State} (hu : u = ((s.judgedFormation a later q).handOn a q.reference).settle) :
    u.zone z = (s.judgedFormation a later q).zone z := by
  have htable : u.zones.table = (s.judgedFormation a later q).zones.table := hu ▸ Posted.handOn.1
  rw [State.zone, htable, State.zone]

/-- The inside set, the violations and the permits of the arm against one ACTIVE zone (R164, R166). -/
theorem formation_sets (hp : s.present a = true) (href : s.referenced a = true) (hz : s.zone z = some r)
    (hr : r.suspended = false) {u : State} (hu : u = ((s.judgedFormation a later q).handOn a q.reference).settle) :
    ((u.zones.hold.get a).inside[z] = true ↔ Inside r q) ∧
    (Inside r q → r.kind = .forbidden ∨ r.kind = .privateTo a.other ∨ r.kind = .shared (some a.other) ∨
        (r.kind = .rack ∧ s.zones.grantee ≠ some a) →
      (s.zones.hold.get a).permit[z] = false → (s.zones.hold.get a).violated[z] = false →
      (u.zones.hold.get a).violated[z] = true ∧ (u.zones.hold.get a).causes.zone = true ∧
      ((s.zones.hold.get a).causes = Causes.none →
        (u.touch.get a).armed = false ∧ u.attention.sources[sourceIndex (.hold a)].flag = true)) ∧
    (¬ Inside r q → (u.zones.hold.get a).permit[z] = false) := by
  have hz' : (s.holding a later q).zone z = some r := hz
  have hstands : Upheld a q ((s.holding a later q).judgedSets (wholeJudgement a q)) u := hu ▸ Upheld.handOn href
  obtain ⟨c, hhold⟩ := State.judgedSets_hold (s := s.holding a later q) (j := wholeJudgement a q)
  have hhold' : ((s.holding a later q).judgedSets (wholeJudgement a q)).zones.hold.get a =
      { (s.holding a later q).judgedHold (wholeJudgement a q) with causes := c } := hhold
  obtain ⟨hactive, hholds⟩ := State.judgedFormation_zones (s := s) (a := a) (later := later) (q := q) (z := z)
  refine ⟨?_, fun hin hkind hpermit hviolated => ?_, fun hout => ?_⟩
  · have hu_active : u.zoneActive z = true := by
      rw [State.zoneActive, formation_zone hu, ← State.zoneActive, hactive, State.zoneActive_of hz hr]
    rw [hstands.inside z hu_active, State.zoneHolds, formation_zone hu, ← State.zoneHolds, hholds,
      State.zoneHolds_iff hz]
  · have hsets : (s.holding a later q).zones.hold.get a = { s.zones.hold.get a with points := some q } :=
      State.holding_hold
    have hnew : (s.holding a later q).violates (wholeJudgement a q) z = true :=
      State.violates_whole hz' hr hin hkind (by rw [hsets, hpermit]) (by rw [hsets, hviolated])
    obtain ⟨hcause, hlatch⟩ := State.judgedSets_violation (j := wholeJudgement a q) (s := s.holding a later q)
      (State.holding_present.trans hp) hnew
    refine ⟨hstands.violated z ?_, hstands.causes .zone hcause, fun hnone => ?_⟩
    · rw [hhold', State.judgedHold_violated, hnew, Bool.or_true]
    · obtain ⟨harmed, hflag⟩ := hlatch ((congrArg HoldRecord.causes hsets).trans hnone)
      exact ⟨hstands.armed harmed, hstands.flags _ hflag⟩
  · refine hstands.permit z ?_
    have hleft : (s.holding a later q).findsInside (wholeJudgement a q) z = false := by
      rw [Bool.eq_false_iff, ne_eq, State.findsInside_whole hz' hr]
      exact hout
    rw [hhold', State.judgedHold_permit, State.concerns_whole, State.zoneActive_of hz' hr, hleft]
    exact Bool.and_false _

end

/-- Settles O36: the formation's judgement is read off zone by zone, and the messages it sends leave it standing
(`Upheld.handOn`, `Posted.handOn`). -/
theorem checkPointsAreFormedAndJudged : Obligations.CheckPointsAreFormedAndJudged := by
  intro s a hs hquiet
  rw [exec_checkPointFormation hs]
  refine ⟨fun hnone => ?_, fun cause later hdue => ⟨fun hblind => ?_, fun hall tip e hm he => ?_⟩⟩
  · rw [State.form, hnone]
    exact congrArg _ (State.settle_of_quiet _ hquiet)
  · obtain ⟨i, hi⟩ := hblind
    rw [State.form_blind hdue (State.not_referenced hi)]
    exact congrArg _ (State.settle_of_quiet _ hquiet)
  · have href : s.referenced a = true := State.referenced_iff.mpr ⟨hs.2, hall⟩
    have hpoints := Gathered.checkPoints_areCheckPoints hm he (s.arms.get a).counts
    generalize hq : (s.gather a).checkPoints (s.arms.get a).counts = q at hpoints
    rw [State.form_referenced hdue href hq]
    generalize hu : ((s.judgedFormation a later q).handOn a q.reference).settle = u
    obtain ⟨hheld, hreference, hcomp, harms, hscanner, hlink⟩ := formation_handed href hu.symm
    refine ⟨u, q, rfl, hpoints, hheld, hreference, hcomp, harms, hscanner, hlink, fun z r hz hr => ?_⟩
    obtain ⟨hinside, hviolation, hpermit⟩ := formation_sets hs.2 href hz hr hu.symm
    refine ⟨hinside, hviolation, hpermit, fun hk hone hg hwaits acknowledged inside ended harb => ?_, fun hin hk => ?_,
      fun hout hk => ?_⟩
    · exact State.grantee_formation hquiet href hg hz hr hk hone hwaits harb hu.symm
    · exact (formation_zone hu.symm).trans (State.judgedFormation_claims href hz hr hin hk)
    · rw [formation_zone hu.symm]
      exact State.judgedFormation_passes href hz hr hout hk

end Sys2Proof.Machine
end

section
/-! SUPPORT. What the law of probing compares: of each arm whether probing is armed, the hold causes and the state of
the change (spec 06, R100, R101); and that the library, the rack controller, the scanner and the link leave it alone. -/

namespace Sys2Proof

/-- A write that leaves `f` as it is shows nothing through `f`. -/
theorem Two.map_set_eq {α β : Type} {f : α → β} {t : Two α} {a : Side} {v : α} (h : f v = f (t.get a)) :
    (t.set a v).map f = t.map f := by
  refine Two.ext_get fun b => ?_
  rw [Two.get_map, Two.get_map, Two.get_set]
  split
  · subst b
    exact h
  · rfl

end Sys2Proof

namespace Sys2Proof.Machine

/-! ### The probing of the part -/

/-- What the law of probing compares. -/
structure Probing where
  armed : Two Bool
  causes : Two Causes
  change : Two ChangeState

def State.probing (s : State) : Probing :=
  { armed := s.touch.map TouchRecord.armed, causes := s.zones.hold.map HoldRecord.causes,
    change := s.sequencer.change.map Change.state }

section
variable {s t : State} {a : Arm} {p : Fin 20} {i : Fin 64} {g : Strg}

@[simp] theorem State.probing_ite {c : Prop} [Decidable c] :
    (if c then s else t).probing = if c then s.probing else t.probing := apply_ite ..

@[simp] theorem State.probing_mk (oneArm powered frz : Bool) (library : Library) (arms : Two ArmAxes)
    (scanner : Scanner) (comp : Compensation) (touch : Two TouchRecord) (rack : Rack) (sequencer : Sequencer)
    (zones : ZoneMonitor) (attention : Attention) (link : Link) (mail : List Message) (answer : Option Answer)
    (pending : List Instr) :
    (State.mk oneArm powered frz library arms scanner comp touch rack sequencer zones attention link mail answer
      pending).probing =
      { armed := touch.map TouchRecord.armed, causes := zones.hold.map HoldRecord.causes,
        change := sequencer.change.map Change.state } := rfl

@[simp] theorem State.probing_eta : Probing.mk (s.touch.map TouchRecord.armed) (s.zones.hold.map HoldRecord.causes)
    (s.sequencer.change.map Change.state) = s.probing := rfl

/-! ### The named updates -/

@[simp] theorem State.setTouch_probing {v : TouchRecord} (h : v.armed = (s.touch.get a).armed) :
    (s.setTouch a v).probing = s.probing :=
  congrArg (fun x => { s.probing with armed := x }) (Two.map_set_eq h)

@[simp] theorem State.setHold_probing {v : HoldRecord} (h : v.causes = (s.zones.hold.get a).causes) :
    (s.setHold a v).probing = s.probing :=
  congrArg (fun x => { s.probing with causes := x }) (Two.map_set_eq h)

@[simp] theorem State.setChange_probing {c : Change} (h : c.state = (s.change a).state) :
    (s.setChange a c).probing = s.probing :=
  congrArg (fun x => { s.probing with change := x }) (Two.map_set_eq h)

theorem State.mapHolds_probing {f : HoldRecord → HoldRecord} (h : ∀ r, (f r).causes = r.causes) :
    (s.mapHolds f).probing = s.probing := by
  refine congrArg (fun x => { s.probing with causes := x }) (Two.ext_get fun b => ?_)
  simp [h]

@[simp] theorem State.setTip_probing (v : TipSlot) : (s.setTip i v).probing = s.probing := rfl

@[simp] theorem State.setArm_probing (v : ArmAxes) : (s.setArm a v).probing = s.probing := rfl

@[simp] theorem State.setAxis_probing (k : Axis) (v : AxisRecord) : (s.setAxis a k v).probing = s.probing := rfl

@[simp] theorem State.setPocket_probing (v : Pocket) : (s.setPocket p v).probing = s.probing := rfl

@[simp] theorem State.setArbiter_probing (v : Arbiter) : (s.setArbiter v).probing = s.probing := rfl

@[simp] theorem State.setQueue_probing (v : List Arm) : (s.setQueue v).probing = s.probing := rfl

@[simp] theorem State.setHead_probing (v : Head) : (s.setHead a v).probing = s.probing := rfl

@[simp] theorem State.setZone_probing (z : Fin 16) (v : Option Zone) : (s.setZone z v).probing = s.probing := rfl

@[simp] theorem State.setString_probing (v : StringControl) : (s.setString g v).probing = s.probing := rfl

@[simp] theorem State.setSensor_probing (k : Fin 16) (v : Option Sensor) : (s.setSensor g k v).probing = s.probing :=
  rfl

@[simp] theorem State.setScan_probing (v : ScanState) (r : Timer) : (s.setScan v r).probing = s.probing := rfl

@[simp] theorem State.askFormation_probing : (s.askFormation a).probing = s.probing := rfl

@[simp] theorem State.setLink_probing (v : Link) : (s.setLink v).probing = s.probing := rfl

@[simp] theorem State.send_probing (v : Message) : (s.send v).probing = s.probing := rfl

@[simp] theorem State.setAnswer_probing (v : Answer) : (s.setAnswer v).probing = s.probing := rfl

@[simp] theorem State.setLid_probing (lid : LidState) (drive : Bool) (timer : Timer) :
    (s.setLid p lid drive timer).probing = s.probing := rfl

@[simp] theorem State.clearForeign_probing : (s.clearForeign p).probing = s.probing := rfl

@[simp] theorem State.headBecomes_probing (v : HeadState) : (s.headBecomes a v).probing = s.probing := rfl

@[simp] theorem State.headBecomesTip_probing (mark : Bool) : (s.headBecomesTip a mark).probing = s.probing := rfl

@[simp] theorem State.abandonRead_probing : (s.abandonRead a).probing = s.probing := rfl

@[simp] theorem State.refusesReport_probing : s.refusesReport.state.probing = s.probing := rfl

@[simp] theorem State.raise_probing (src : AttnSource) : (s.raise src).probing = s.probing := by
  obtain ⟨r, e⟩ := s.raise_frame src
  rw [e]
  rfl

@[simp] theorem State.goBlind_probing : (s.goBlind a).probing = s.probing := by
  rw [State.goBlind, State.setChange_probing, State.setHold_probing] <;> rfl

@[simp] theorem State.guardChange_probing (was : Bool) : (s.guardChange a was).probing = s.probing := by
  unfold State.guardChange
  split <;> simp

/-! ### The frames of the blocks -/

theorem RackOnly.probing_eq (h : RackOnly s t) : t.probing = s.probing := by
  rw [h.eq]
  rfl

theorem Swept.probing_eq (h : Swept s t) : t.probing = s.probing := (congrArg State.probing h.frame :)

/-! ### The library (spec 01) -/

@[simp] theorem State.moveTip_probing (v : Tip) (loc : Location) : (s.moveTip i v loc).probing = s.probing := by
  obtain ⟨_, _, _, e⟩ := State.moveTip_frame (s := s) (i := i) v loc
  rw [e]
  rfl

@[simp] theorem State.loseMounted_probing (keep : Option (Fin 64)) : (s.loseMounted a keep).probing = s.probing := by
  obtain ⟨_, _, e⟩ := State.loseMounted_frame (s := s) (a := a) keep
  rw [e]
  rfl

@[simp] theorem State.stowReleaseBegins_probing : (s.stowReleaseBegins a i).state.probing = s.probing := by
  unfold State.stowReleaseBegins
  split
  · split <;> simp
  · rfl

@[simp] theorem State.stowTransferComplete_probing : (s.stowTransferComplete a i).state.probing = s.probing := by
  unfold State.stowTransferComplete
  split
  · split <;> simp
  · rfl

@[simp] theorem State.pickBegins_probing : (s.pickBegins a i).state.probing = s.probing := by
  unfold State.pickBegins
  split
  · split <;> simp
  · rfl

@[simp] theorem State.identityMatched_probing : (s.identityMatched a i).state.probing = s.probing := by
  unfold State.identityMatched
  split
  · split <;> simp
  · rfl

@[simp] theorem State.transitResolved_probing (occupied : Bool) :
    (s.transitResolved a i occupied).state.probing = s.probing := by
  unfold State.transitResolved
  split
  · split <;> simp
  · rfl

@[simp] theorem State.identityUnmatched_probing (id : Option Word) :
    (s.identityUnmatched a id).state.probing = s.probing := by simp [State.identityUnmatched]

@[simp] theorem State.identityReport_probing (id : Option Word) :
    (s.identityReport a id).state.probing = s.probing := by
  unfold State.identityReport
  split
  · simp
  · split
    · simp
    · split
      · simp
      · split <;> simp

@[simp] theorem State.moduleLost_probing : (s.moduleLost a).state.probing = s.probing := by
  unfold State.moduleLost
  split <;> simp

@[simp] theorem State.libraryHomeEmpty_probing : (s.libraryHomeEmpty p).state.probing = s.probing := by
  unfold State.libraryHomeEmpty
  split
  · rfl
  · split
    · split <;> simp
    · rfl

@[simp] theorem State.libraryHomeOccupied_probing : (s.libraryHomeOccupied p).state.probing = s.probing := by
  unfold State.libraryHomeOccupied
  split
  · rfl
  · split
    · split <;> simp
    · rfl

@[simp] theorem State.registrationClaim_probing (id : Word) : (s.registrationClaim id).2.probing = s.probing := by
  unfold State.registrationClaim
  split <;> simp

@[simp] theorem State.placeTip_probing (v : Tip) (claimed : Option Arm) :
    (s.placeTip i v claimed).probing = s.probing := by
  unfold State.placeTip
  split <;> simp

@[simp] theorem State.createTip_probing (id : Word) (cls : TipClass) :
    (s.createTip i id cls p).probing = s.probing := by
  simp [State.createTip]

@[simp] theorem State.rewriteTip_probing (v : Tip) (id : Word) (cls : TipClass) :
    (s.rewriteTip i v id cls p).probing = s.probing := by simp [State.rewriteTip]

@[simp] theorem tipWriteReq_probing (tip : Byte) (id : Word) (cls home : Byte) :
    (tipWriteReq tip id cls home s).state.probing = s.probing := by
  simp only [tipWriteReq, tipWriteBody]
  repeat' split
  all_goals simp

@[simp] theorem tipQualifyReq_probing (tip arm : Byte) (dx dy dz r : Word) (source : Byte) (temp : Word) :
    (tipQualifyReq tip arm dx dy dz r source temp s).state.probing = s.probing := by
  simp only [tipQualifyReq, tipQualifyBody]
  repeat' split
  all_goals simp [qualifyStore]

@[simp] theorem tipUnqualifyReq_probing (tip arm : Byte) : (tipUnqualifyReq tip arm s).state.probing = s.probing := by
  simp only [tipUnqualifyReq, tipUnqualifyBody]
  repeat' split
  all_goals simp

@[simp] theorem tipRetireReq_probing (tip : Byte) : (tipRetireReq tip s).state.probing = s.probing := by
  simp only [tipRetireReq, tipRetireBody]
  repeat' split
  all_goals simp

@[simp] theorem tipPurgeReq_probing (tip : Byte) : (tipPurgeReq tip s).state.probing = s.probing := by
  simp only [tipPurgeReq, tipPurgeBody]
  repeat' split
  all_goals simp

/-! ### The rack controller (spec 07) -/

@[simp] theorem State.seenEmpty_probing : (s.seenEmpty p).state.probing = s.probing := by
  simp only [State.seenEmpty]
  split <;> simp

@[simp] theorem State.seenOccupied_probing : (s.seenOccupied p).state.probing = s.probing := by
  simp only [State.seenOccupied]
  split <;> simp

@[simp] theorem State.compareIfWatched_probing : (s.compareIfWatched p).probing = s.probing := by
  unfold State.compareIfWatched State.compare
  split
  · rfl
  · split <;> simp

@[simp] theorem State.reexamine_probing : s.reexamine.probing = s.probing := (RackOnly.reexamine (.refl s)).probing_eq

@[simp] theorem State.takeReport_probing (q : PocketReport) : (s.takeReport a q).probing = s.probing := by
  simp only [State.takeReport]
  split <;> simp

@[simp] theorem State.jam_probing : (s.jam p).probing = s.probing := by simp [State.jam]

@[simp] theorem State.lidSense_probing : (s.lidSense p).probing = s.probing := by
  simp only [State.lidSense]
  split <;> simp

@[simp] theorem State.senseChange_probing : (s.senseChange p).probing = s.probing := by simp [State.senseChange]

@[simp] theorem State.lidExpiry_probing : (s.lidExpiry p).probing = s.probing := by simp [State.lidExpiry]

@[simp] theorem State.occupancyChange_probing : (s.occupancyChange p).probing = s.probing := by
  simp [State.occupancyChange]

@[simp] theorem State.restartCompareAt_probing : (s.restartCompareAt p).probing = s.probing := by
  simp [State.restartCompareAt]

@[simp] theorem State.writePocket_probing (st : PocketState) (dock : Two (Option Box)) :
    (s.writePocket p st dock).probing = s.probing := by simp [State.writePocket]

@[simp] theorem State.pocketEdge_probing (input : PocketInput) (level : Bool) :
    (s.pocketEdge p input level).probing = s.probing := by cases input <;> rfl

@[simp] theorem State.closeLid_probing : (s.closeLid p).2.probing = s.probing :=
  (RackOnly.closeLid (.refl s)).probing_eq

@[simp] theorem State.openLid_probing : (s.openLid a p).2.probing = s.probing := (RackOnly.openLid (.refl s)).probing_eq

@[simp] theorem State.rackRequest_probing : (s.rackRequest a).2.probing = s.probing :=
  (RackOnly.rackRequest (.refl s)).probing_eq

@[simp] theorem State.rackEntry_probing : (s.rackEntry a).probing = s.probing :=
  (RackOnly.rackEntry (.refl s)).probing_eq

@[simp] theorem State.rackExit_probing : (s.rackExit a).probing = s.probing := (RackOnly.rackExit (.refl s)).probing_eq

@[simp] theorem State.rackChangeEnded_probing : (s.rackChangeEnded a).probing = s.probing :=
  (RackOnly.rackChangeEnded (.refl s)).probing_eq

@[simp] theorem State.grantExpiry_probing : s.grantExpiry.probing = s.probing := by
  unfold State.grantExpiry
  split
  · split
    · exact (RackOnly.freeRack (RackOnly.send (.refl s))).probing_eq
    · rfl
  · rfl

@[simp] theorem State.doubleFault_probing : (s.doubleFault a).probing = s.probing := by
  have hlocked : RackOnly s (((s.setArbiter .lockedOut).setQueue []).setGrantTimer none) :=
    (RackOnly.refl s).setRack.setRack.setRack
  unfold State.doubleFault
  split
  · rfl
  · rw [State.raise_probing]
    exact (RackOnly.send (.tellLockedOut (.reexamine hlocked))).probing_eq

@[simp] theorem pocketWriteReq_probing (pocket state g0 : Byte) (box0 : Axes Bounds) (g1 : Byte) (box1 : Axes Bounds) :
    (pocketWriteReq pocket state g0 box0 g1 box1 s).state.probing = s.probing := by
  simp only [pocketWriteReq, pocketWriteBody]
  repeat' split
  all_goals simp

@[simp] theorem pocketClearForeignReq_probing (pocket : Byte) :
    (pocketClearForeignReq pocket s).state.probing = s.probing := by
  unfold pocketClearForeignReq
  split
  · rfl
  · split <;> simp

@[simp] theorem rackUnlockReq_probing : (rackUnlockReq s).state.probing = s.probing := by
  unfold rackUnlockReq
  split <;> simp

/-! ### The scanner (spec 03, spec 04) -/

@[simp] theorem State.kick_probing : (s.kick g).probing = s.probing := by
  obtain ⟨_, _, e⟩ := s.kick_frame g
  rw [e]
  rfl

@[simp] theorem State.endIfSwept_probing : s.endIfSwept.probing = s.probing := State.endIfSwept_swept.probing_eq

@[simp] theorem State.goOn_probing : (s.goOn g).probing = s.probing :=
  State.goOn_swept.probing_eq.trans State.kick_probing

@[simp] theorem State.startPass_probing : (s.startPass g).probing = s.probing := by simp [State.startPass]

@[simp] theorem State.beginSweep_probing (timer : Timer) : (s.beginSweep timer).probing = s.probing := by
  simp [State.beginSweep]

@[simp] theorem State.transactionEnds_probing (e : LineEnd) : (s.transactionEnds g e).probing = s.probing := by
  have hsweep (u : State) (x : Transaction) : (u.sweepReading g x e).probing = u.probing := by
    obtain ⟨_, _, h⟩ := State.sweepReading_frame (s := u) (g := g) x e
    rw [h]
    rfl
  have hcheck (u : State) (x : Transaction) : (u.checkReading g x e).probing = u.probing := by
    obtain ⟨_, h⟩ := State.checkReading_frame (s := u) (g := g) x e
    rw [h]
    rfl
  unfold State.transactionEnds
  split
  · rfl
  · dsimp only
    split <;> simp [hsweep, hcheck]

@[simp] theorem State.scanExpiry_probing : s.scanExpiry.probing = s.probing := by
  unfold State.scanExpiry
  split
  · dsimp only
    split
    · simp
    · split <;> rfl
  · rfl

@[simp] theorem State.thaw_probing : s.thaw.probing = s.probing := by simp [State.thaw]

@[simp] theorem State.limitEnds_probing : (s.limitEnds g).probing = s.probing := by simp [State.limitEnds]

@[simp] theorem State.ageGroups_probing : s.ageGroups.probing = s.probing := by
  unfold State.ageGroups
  split <;> rfl

@[simp] theorem State.makeStale_probing (f : TempGroup → Bool) : (s.makeStale f).probing = s.probing := by
  obtain ⟨_, _, _, e⟩ := State.makeStale_frame (s := s) f
  rw [e]
  rfl

@[simp] theorem State.staleGroup_probing (x : TempGroup) : (s.staleGroup x).probing = s.probing := by
  simp [State.staleGroup]

@[simp] theorem State.makeTransactionStale_probing (k : Fin 16) : (s.makeTransactionStale g k).probing = s.probing := by
  unfold State.makeTransactionStale
  split <;> simp

@[simp] theorem State.setWindow_probing (w k : Nat) : (s.setWindow g w k).probing = s.probing := by
  obtain ⟨_, _, e⟩ := State.setWindow_frame (s := s) (g := g) (w := w) (k := k)
  rw [e]
  rfl

@[simp] theorem sensorWriteReq_probing (string address binding : Byte) (trim : Word) (shift : Byte) :
    (sensorWriteReq string address binding trim shift s).state.probing = s.probing := by
  have hwrite (h : Strg) (k : Fin 16) (b : Option TempGroup) (v : Int) (n : Nat) :
      (s.writeSensor h k b v n).probing = s.probing := by
    obtain ⟨_, _, e⟩ := State.writeSensor_frame (s := s) (g := h) (i := k) b v n
    rw [e]
    rfl
  unfold sensorWriteReq
  split
  · unfold sensorWriteBody
    split
    · rfl
    · split
      · rfl
      · exact hwrite ..
  · rfl

@[simp] theorem sensorRetireReq_probing (string address : Byte) :
    (sensorRetireReq string address s).state.probing = s.probing := by
  unfold sensorRetireReq
  split
  · split <;> simp
  · rfl

@[simp] theorem sensorReadReq_probing (string address clear : Byte) :
    (sensorReadReq string address clear s).state.probing = s.probing := by
  unfold sensorReadReq
  split <;> simp

@[simp] theorem scanControlReq_probing (mode given : Byte) (period : Word) :
    (scanControlReq mode given period s).state.probing = s.probing := by
  have hcommand (u : State) (m : ScanMode) : (u.scanCommand m).probing = u.probing := by
    unfold State.scanCommand
    dsimp only
    split <;> simp
  unfold scanControlReq
  split
  · exact hcommand _ _
  · rfl

@[simp] theorem lineCheckReq_probing (string passes : Byte) :
    (lineCheckReq string passes s).state.probing = s.probing := by
  unfold lineCheckReq
  split
  · rfl
  · split <;> simp [State.startCheck]

@[simp] theorem compSetupReq_probing (al : Two (Axes Word)) (aw : Word) (w0 : Axes Word) :
    (compSetupReq al aw w0 s).state.probing = s.probing := by
  have hfactors (u : State) (f : Factors) : (u.takeFactors f).probing = u.probing := by
    obtain ⟨_, e⟩ := State.takeFactors_frame (s := u) f
    rw [e]
    rfl
  simp [compSetupReq, State.recompute, hfactors]

/-! ### The axis unit (spec 02) -/

@[simp] theorem State.takeMark_probing (k : Axis) : (s.takeMark a k).probing = s.probing := by
  simp only [State.takeMark]
  split <;> simp

@[simp] theorem axisHomeReq_probing (arm axis : Byte) (v : Word) :
    (axisHomeReq arm axis v s).state.probing = s.probing := by
  unfold axisHomeReq
  split
  · split <;> simp [State.home]
  · rfl

@[simp] theorem armSetupReq_probing (arm : Byte) (o : Axes Word) (d : Axes Byte) (z : Axes Word) :
    (armSetupReq arm o d z s).state.probing = s.probing := by
  unfold armSetupReq
  split
  · split <;> simp [State.setupArm]
  · rfl

/-! ### The touch unit (spec 06) -/

@[simp] theorem State.triggerEdge_probing : (s.triggerEdge a).probing = s.probing := by
  have hedge (r : TouchRecord) (q : Point) : (r.edge q).armed = r.armed := by
    unfold TouchRecord.edge
    split <;> rfl
  simp [State.triggerEdge, hedge]

@[simp] theorem State.triggerRelease_probing : (s.triggerRelease a).probing = s.probing := by
  have hrelease (r : TouchRecord) : r.release.armed = r.armed := by
    unfold TouchRecord.release
    split <;> rfl
  simp [State.triggerRelease, hrelease]

@[simp] theorem State.computeTouch_probing : (s.computeTouch a).probing = s.probing := by
  unfold State.computeTouch
  split <;> simp

@[simp] theorem State.placePoint_probing : (s.placePoint a).probing = s.probing := by
  simp only [State.placePoint]
  split
  · rfl
  · split <;> simp

@[simp] theorem touchTakeReq_probing (arm : Byte) : (touchTakeReq arm s).state.probing = s.probing := by
  simp only [touchTakeReq, touchTakeBody]
  repeat' split
  all_goals simp

/-! ### Zones that are set aside (R177, R179) -/

@[simp] theorem zoneSuspendReq_probing (zone : Byte) : (zoneSuspendReq zone s).state.probing = s.probing := by
  have hleave (u : State) (z : Fin 16) : (u.mapHolds fun r => (r.leave z).endPermit z).probing = u.probing :=
    State.mapHolds_probing fun _ => rfl
  simp only [zoneSuspendReq, zoneSuspendBody]
  repeat' split
  all_goals simp [hleave]

@[simp] theorem zoneDeleteReq_probing (zone : Byte) : (zoneDeleteReq zone s).state.probing = s.probing := by
  have hleave (u : State) (z : Fin 16) :
      (u.mapHolds fun r => ((r.leave z).endPermit z).forget z).probing = u.probing :=
    State.mapHolds_probing fun _ => rfl
  simp only [zoneDeleteReq, zoneDeleteBody]
  repeat' split
  all_goals simp [hleave]

/-! ### Attention and the link (spec 10, spec 11) -/

@[simp] theorem attnFlagsReq_probing (named : List Byte) : (attnFlagsReq named s).state.probing = s.probing := by
  unfold attnFlagsReq
  split <;> rfl

@[simp] theorem attnConfigReq_probing (entries : List AttnEntry) :
    (attnConfigReq entries s).state.probing = s.probing := by
  unfold attnConfigReq
  split
  · rfl
  · split <;> rfl

@[simp] theorem attnTakeReq_probing : (attnTakeReq s).state.probing = s.probing := by
  unfold attnTakeReq
  split <;> rfl

@[simp] theorem attnReleaseReq_probing : (attnReleaseReq s).state.probing = s.probing := by
  unfold attnReleaseReq
  split <;> rfl

@[simp] theorem countersReadReq_probing (clear : Byte) : (countersReadReq clear s).state.probing = s.probing := by
  have hclear : s.clearCounters.probing = s.probing :=
    congrArg (fun x => { s.probing with armed := x }) (Two.ext_get fun b => by
      simp [State.clearCounters, TouchRecord.clearCounters])
  unfold countersReadReq
  split
  · rfl
  · simp [hclear]

@[simp] theorem settingWriteReq_probing (number : Byte) (value : Word) :
    (settingWriteReq number value s).state.probing = s.probing := by
  have hstore (k : Setting) (n : Nat) : (s.storeSetting k n).probing = s.probing := by
    cases k with
    | windowLength | faultCount => exact State.setWindow_probing ..
    | holdLimit => exact (State.makeStale_probing _).trans rfl
    | qualificationTime => exact State.setTouch_probing rfl
    | _ => rfl
  unfold settingWriteReq
  split
  · rfl
  · split
    · rfl
    · exact hstore _ _

theorem State.discardFrame_probing (n : Nat) : (s.discardFrame n).probing = s.probing := rfl

@[simp] theorem State.longList_probing (c : Instr) : (s.longList c).probing = s.probing := by
  simp [State.longList, State.event, State.judged, State.discardFrame_probing, State.badFrame]

end

end Sys2Proof.Machine
end

section
/-! SUPPORT. The law of probing as it stands within a step: an arm whose change goes on has probing not armed, and so
the operations of its change keep the law, whatever they make of the change (spec 06, R100, R101). -/

namespace Sys2Proof.Machine

/-! ### The law with an arm engaged -/

/-- The law of probing, with probing not armed on the arm `x`, if one is given: the arm whose change goes on. -/
def Probes (x : Option Arm) (s : State) : Prop :=
  ∀ b, (s.touch.get b).armed = true → x ≠ some b ∧ (s.zones.hold.get b).causes = Causes.none ∧
    (s.change b).state = .idle

section
variable {x : Option Arm} {s t : State} {a : Arm} {p : Fin 20} {r : ChangeResult}

theorem probingLaw_iff_probes : ProbingLaw s ↔ Probes none s := by simp [ProbingLaw, Probes]

/-- An arm that is armed yet stands as it stood. -/
theorem Probes.of_armed (h : Probes x s) (hb : ∀ b, (t.touch.get b).armed = true → (s.touch.get b).armed = true ∧
    (t.zones.hold.get b).causes = (s.zones.hold.get b).causes ∧ (t.change b).state = (s.change b).state) :
    Probes x t := by
  intro b harmed
  obtain ⟨hwas, hcauses, hchange⟩ := hb b harmed
  rw [hcauses, hchange]
  exact h b hwas

/-- What the law compares is in `probing`. -/
theorem Probes.congr (h : Probes x s) (e : t.probing = s.probing) : Probes x t := by
  refine h.of_armed fun b harmed => ?_
  have hget {α : Type} (f : Probing → Two α) : (f t.probing).get b = (f s.probing).get b := by rw [e]
  have htouch := hget Probing.armed
  have hcauses := hget Probing.causes
  have hchange := hget Probing.change
  simp only [State.probing, Two.get_map] at htouch hcauses hchange
  exact ⟨htouch.symm.trans harmed, hcauses, hchange⟩

theorem Probes.ite {c : Prop} [Decidable c] (hs : Probes x s) (ht : Probes x t) : Probes x (if c then s else t) := by
  split
  · exact hs
  · exact ht

/-- A change in progress has its arm engaged. -/
theorem Probes.engage (h : Probes none s) (hbusy : (s.change a).state ≠ .idle) : Probes (some a) s := by
  intro b harmed
  obtain ⟨-, hcauses, hchange⟩ := h b harmed
  refine ⟨fun e => hbusy ?_, hcauses, hchange⟩
  cases e
  exact hchange

theorem Probes.release (h : Probes x s) : Probes none s := fun b harmed => ⟨nofun, (h b harmed).2⟩

/-- The engaged arm's change record is free. -/
theorem Probes.setChange {c : Change} (h : Probes (some a) s) : Probes (some a) (s.setChange a c) := by
  refine h.of_armed fun b harmed => ⟨harmed, rfl, ?_⟩
  have hne : a ≠ b := fun e => (h b harmed).1 (congrArg some e)
  rw [State.change_setChange, if_neg hne]

/-- Probing is disarmed as a change begins (R101, R141). -/
theorem Probes.begin {c : Change} (h : Probes none s) : Probes (some a) ((s.setChange a c).disarm a) := by
  intro b harmed
  by_cases hab : a = b
  · subst hab
    simp at harmed
  · rw [State.disarm_touch, Two.get_set_ne _ _ hab] at harmed
    obtain ⟨-, hcauses, hchange⟩ := h b harmed
    refine ⟨fun e => hab (Option.some.inj e), hcauses, ?_⟩
    change ((s.setChange a c).change b).state = .idle
    rw [State.change_setChange, if_neg hab, hchange]

/-! ### Hold causes (R170) -/

/-- An addition to an empty cause set disarms, and on an arm with a cause probing was not armed. -/
theorem Probes.addCause {c : HoldCause} (h : Probes x s) : Probes x (s.addCause a c) := by
  rcases s.addCause_cases a c with ⟨-, e⟩ | ⟨-, -, e⟩ | ⟨-, hcauses, e⟩ <;> rw [e]
  · exact h
  · refine Probes.congr (h.of_armed fun b harmed => ?_) (State.raise_probing _)
    by_cases hab : a = b
    · subst hab
      simp at harmed
    · simpa [State.change, Two.get_set_ne _ _ hab] using harmed
  · refine h.of_armed fun b harmed => ⟨harmed, ?_, rfl⟩
    have hne : a ≠ b := by
      rintro rfl
      exact hcauses (h a harmed).2.1
    rw [State.setCauses_zones, Two.get_set_ne _ _ hne]

/-- The causes of an arm may be taken away (R172). -/
theorem Probes.dropCauses {v : HoldRecord} (hv : v.causes = Causes.none) (h : Probes x s) :
    Probes x (s.setHold a v) := by
  intro b harmed
  obtain ⟨hx, hcauses, hchange⟩ := h b harmed
  refine ⟨hx, ?_, hchange⟩
  rw [State.setHold_zones, Two.get_set]
  split
  · exact hv
  · exact hcauses

theorem Probes.axisFault {was : Bool} (h : Probes x s) : Probes x (s.axisFault a was) :=
  Probes.congr (h.addCause (a := a) (c := .axisFault)) (by simp [State.axisFault])

/-! ### The zone monitor (spec 09) -/

theorem Probes.judgeOne {j : Judgement} (h : Probes x s) : Probes x (s.judgeOne j) := by
  have hzones : Probes x (s.judgedZones j) := by
    refine h.of_armed fun b harmed => ⟨?_, State.judgedZones_causes, ?_⟩
    · rwa [State.judgedZones_touch] at harmed
    · rw [State.change, State.judgedZones_monitorOnly.sequencer_eq, State.change]
  have hsets : Probes x (s.judgedSets j) := .ite hzones.addCause hzones
  exact hsets.congr State.judgeOne_rackOnly.probing_eq

theorem Probes.judge {named : ZoneSet} {claims : Bool} (h : Probes x s) : Probes x (s.judge a named claims) :=
  State.judge_keeps (fun h _ => h.judgeOne) h

theorem Probes.takeGrantee {g : Option Arm} (h : Probes x s) : Probes x (s.takeGrantee g) := by
  have hnamed : Probes x { s with zones := { s.zones with grantee := g } } := h
  exact State.takeGrantee_keeps (fun h _ => h.judgeOne) hnamed fun _ _ => hnamed.congr State.rackEntry_probing

theorem Probes.judgeZone {z : Fin 16} (h : Probes x s) : Probes x (s.judgeZone z) := .ite h.judge.judge h

theorem Probes.releaseHold (h : Probes x s) : Probes x (s.releaseHold a) := (h.dropCauses rfl).judge

theorem State.handOn_probing {q : Point} : (s.handOn a q).probing = s.probing := by simp [State.handOn]

theorem Probes.form (h : Probes x s) : Probes x (s.form a) := by
  cases hdue : s.comp.formationDue.get a with
  | nil =>
    rw [State.form, hdue]
    exact h
  | cons cause later =>
    cases hr : s.referenced a with
    | false =>
      rw [State.form_blind hdue hr]
      exact h
    | true =>
      rw [State.form_referenced hdue hr rfl]
      have hjudged (q : CheckPoints) : Probes x (s.judgedFormation a later q) := by
        have hheld : Probes x (s.holding a later q) :=
          Probes.congr (s := s.setFormations a later) h (State.setHold_probing rfl)
        exact hheld.judge
      exact (hjudged _).congr State.handOn_probing

/-! ### The change record outside its state (spec 08) -/

@[simp] theorem State.sendReport_probing (pocket : Option (Fin 20)) (suppressed stow : Bool) :
    (s.sendReport a pocket suppressed stow).probing = s.probing :=
  (State.takeReport_probing _).trans (State.setChange_probing rfl)

@[simp] theorem State.stopTimer_probing : (s.stopTimer a).probing = s.probing := State.setChange_probing rfl

@[simp] theorem State.dropOpened_probing : (s.dropOpened a p).probing = s.probing := State.setChange_probing rfl

@[simp] theorem State.resolveTransit_probing (tip : Option (Fin 64)) :
    (s.resolveTransit a tip).probing = s.probing := by
  unfold State.resolveTransit
  split <;> simp

@[simp] theorem State.completeAtOnce_probing : (s.completeAtOnce a).probing = s.probing :=
  (State.raise_probing _).trans (State.setChange_probing rfl)

@[simp] theorem State.discardStaged_probing : (s.discardStaged a).probing = s.probing := by
  simp only [State.discardStaged]
  split
  · exact State.setChange_probing rfl
  · rfl

theorem State.closeAt_probing (e : s.closeAt a p = some t) : t.probing = s.probing := by
  have hl := State.closeLid_probing (s := s) (p := p)
  unfold State.closeAt at e
  split at e <;> rename_i he <;> rw [he] at hl <;> cases e
  · exact State.dropOpened_probing.trans hl
  · exact hl

@[simp] theorem State.closeAll_probing (lids : List (Fin 20)) : (s.closeAll a lids).1.probing = s.probing := by
  unfold State.closeAll
  generalize false = jammed
  induction lids generalizing s jammed with
  | nil => rfl
  | cons p l ih =>
    rw [List.foldl_cons]
    dsimp only
    split
    · rw [ih, State.dropOpened_probing]
    · rename_i ht
      rw [ih, State.closeAt_probing ht]

/-! ### The change of an engaged arm -/

theorem Probes.enterStage {st : ChangeState} {timer : Timer} (h : Probes (some a) s) :
    Probes (some a) (s.enterStage a st timer) := h.setChange

theorem Probes.finishChange (h : Probes (some a) s) : Probes (some a) (s.finishChange a r) := by
  have hidle (c : Change) : Probes (some a) (((s.setChange a c).sendReport a none false false).rackChangeEnded a) :=
    Probes.congr (h.setChange (c := c)) (by simp)
  exact (hidle _).setChange.congr (State.raise_probing _)

theorem Probes.endChange (h : Probes (some a) s) : Probes (some a) (s.endChange a r) :=
  h.finishChange.congr State.discardStaged_probing

theorem Probes.faultChange (h : Probes (some a) s) : Probes (some a) (s.faultChange a r) := by
  have hresult (c : Change) : Probes (some a) ((s.setChange a c).abandonRead a) := h.setChange
  exact ((hresult _).congr (State.sendReport_probing ..)).enterStage

theorem Probes.resolveAndEnd (h : Probes (some a) s) : Probes (some a) (s.resolveAndEnd a) :=
  Probes.endChange (h.congr (by simp))

theorem Probes.identifyHead (h : Probes (some a) s) : Probes (some a) (s.identifyHead a) :=
  .ite h.setChange (Probes.resolveAndEnd (h.congr (by simp)))

theorem Probes.changeDoubleFault (h : Probes (some a) s) : Probes (some a) (s.changeDoubleFault a) :=
  Probes.identifyHead (h.setChange.congr State.doubleFault_probing)

theorem Probes.enterFetchApproach (h : Probes (some a) s) : Probes (some a) (s.enterFetchApproach a) :=
  Probes.enterStage (.ite h (h.congr (State.sendReport_probing ..)))

theorem Probes.takeGrant (h : Probes (some a) s) : Probes (some a) (s.takeGrant a) :=
  .ite (.ite (Probes.enterStage (h.congr (State.sendReport_probing ..))) h.enterFetchApproach) h

theorem Probes.acceptChange {q : ChangeRequest} (h : Probes none s) : Probes (some a) (s.acceptChange a q) := by
  have hasked : Probes (some a)
      (((s.setChange a ((s.change a).accepted q (s.mountedTip a))).disarm a).rackRequest a).2 :=
    h.begin.congr State.rackRequest_probing
  simp only [State.acceptChange]
  split <;> rename_i e <;> rw [e] at hasked
  · exact hasked.takeGrant
  · exact hasked
  · exact hasked.endChange

theorem Probes.completeChange (h : Probes (some a) s) : Probes (some a) (s.completeChange a) := by
  have hdone : Probes (some a) (s.finishChange a .completed) := h.finishChange
  simp only [State.completeChange, State.startStaged]
  split
  · exact hdone
  · split
    · exact hdone.setChange
    · exact hdone.setChange.congr State.completeAtOnce_probing
    · exact hdone.setChange.release.acceptChange

theorem Probes.openAt {next : ChangeState} (h : Probes (some a) s) : Probes (some a) (s.openAt a p next) := by
  have hopened : Probes (some a) ((s.stopTimer a).openLid a p).2 := h.congr (by simp)
  unfold State.openAt
  split <;> rename_i e <;> rw [e] at hopened
  · exact hopened.faultChange
  · exact hopened.faultChange
  · exact hopened.setChange.enterStage

theorem Probes.beginStow (h : Probes (some a) s) : Probes (some a) (s.beginStow a p) := by
  unfold State.beginStow
  split
  · exact h.faultChange
  · exact .ite (Probes.enterStage (h.congr (by simp))) (Probes.faultChange (h.congr (by simp)))

theorem Probes.completeStow (h : Probes (some a) s) : Probes (some a) (s.completeStow a p) := by
  unfold State.completeStow
  split
  · exact h.faultChange
  · rename_i i _
    have hmoved : Probes (some a) ((s.stopTimer a).stowTransferComplete a i).state := h.congr (by simp)
    have hpending (c : Change) : Probes (some a)
        ((((s.stopTimer a).stowTransferComplete a i).state.sendReport a (some p) false false).setChange a c) :=
      Probes.setChange (hmoved.congr (by simp))
    exact .ite (.ite (hpending _).enterFetchApproach (hpending _).enterStage) hmoved.faultChange

theorem Probes.beginPick (h : Probes (some a) s) : Probes (some a) (s.beginPick a p) := by
  unfold State.beginPick
  split
  · exact h.faultChange
  · exact .ite (Probes.enterStage (h.congr (by simp))) (Probes.faultChange (h.congr (by simp)))

theorem Probes.beginIdentify (h : Probes (some a) s) : Probes (some a) (s.beginIdentify a) :=
  Probes.enterStage (h.congr (by simp))

theorem Probes.closeStowLid (h : Probes (some a) s) : Probes (some a) (s.closeStowLid a p) := by
  unfold State.closeStowLid
  split
  · exact Probes.faultChange (h.congr State.dropOpened_probing)
  · rename_i e
    have hclosed := h.setChange.congr (State.closeAt_probing e)
    exact hclosed.congr (by simp)

theorem Probes.clearStage (h : Probes (some a) s) : Probes (some a) (s.clearStage a p) := by
  unfold State.clearStage
  split
  · refine .ite ?_ h
    dsimp only
    split
    · exact Probes.faultChange (h.setChange.congr State.dropOpened_probing)
    · rename_i e
      have hclosed := h.setChange.congr (State.closeAt_probing e)
      exact hclosed
  · exact .ite h.completeChange h

theorem Probes.makeRackSafe (h : Probes (some a) s) : Probes (some a) (s.makeRackSafe a) := by
  have hclosed (c : Change) : Probes (some a) ((s.setChange a c).closeAll a (s.change a).opened).1 :=
    h.setChange.congr (State.closeAll_probing _)
  simp only [State.makeRackSafe]
  split
  · exact .ite (.ite (hclosed _).changeDoubleFault (hclosed _)) h
  · exact .ite h.identifyHead h
  · exact h

/-! ### What reaches the change sequencer, whether a change is in progress or not -/

/-- An operation of the change sequencer keeps the law when it does so on an IDLE arm and on an engaged one. -/
theorem Probes.by_change (h : Probes none s) (hidle : (s.change a).state = .idle → Probes none t)
    (hbusy : (s.change a).state ≠ .idle → Probes (some a) s → Probes (some a) t) : Probes none t := by
  by_cases e : (s.change a).state = .idle
  · exact hidle e
  · exact (hbusy e (h.engage e)).release

theorem Probes.advance (h : Probes none s) : Probes none (s.advance a) := by
  refine h.by_change (a := a) (fun hi => by rwa [State.advance_of_rests (.inl hi)]) fun _ h => ?_
  unfold State.advance
  dsimp only
  split
  case h_1 => exact h.makeRackSafe
  case h_2 => exact .ite h.openAt h
  case h_3 => exact .ite h.faultChange (.ite h.beginStow h)
  case h_4 => exact .ite h.faultChange (.ite h.completeStow h)
  case h_5 => exact h.clearStage
  case h_6 => exact .ite (.ite h.closeStowLid h) (.ite h.openAt h)
  case h_7 => exact .ite h.faultChange (.ite h.beginPick h)
  case h_8 => exact .ite h.faultChange (.ite h.beginIdentify h)
  case h_9 => exact h.clearStage
  case h_10 => exact h

theorem Probes.granted (h : Probes none s) : Probes none (s.takeGrant a) :=
  h.by_change (a := a) (fun hi => by simpa [State.takeGrant, hi] using h) fun _ h => h.takeGrant

theorem Probes.takeLapse (h : Probes none s) : Probes none (s.takeLapse a) :=
  h.by_change (a := a) (fun hi => by simpa [State.takeLapse, hi, ChangeState.afterGrant] using h) fun _ h =>
    .ite h.faultChange h

theorem Probes.takeLockout (h : Probes none s) : Probes none (s.takeLockout a) :=
  h.by_change (a := a) (fun hi => by simpa [State.takeLockout, hi, ChangeState.afterGrant] using h) fun _ h =>
    .ite h.endChange (.ite h.faultChange h)

theorem Probes.lidNews (h : Probes none s) : Probes none (s.lidNews a p) := by
  have hdrop {y : Option Arm} (h : Probes y s) : Probes y (s.dropOpened a p) := h.congr State.dropOpened_probing
  refine h.by_change (a := a) (fun hi => ?_) fun _ h => ?_
  · refine .ite ?_ h
    split
    · exact hdrop h
    · exact h
    · simpa [hi, ChangeState.afterGrant] using hdrop h
    · exact h
  · refine .ite ?_ h
    split
    · exact hdrop h
    · exact h
    · exact .ite (hdrop h).faultChange (.ite (hdrop h).changeDoubleFault (hdrop h))
    · exact h

theorem Probes.occupancyNews (h : Probes none s) : Probes none (s.occupancyNews a p) := by
  refine h.by_change (a := a) (fun hi => by simpa [State.occupancyNews, hi] using h) fun _ h => ?_
  have hfault : Probes (some a) (s.pocketFault a) := .ite h.endChange h.faultChange
  simp only [State.occupancyNews]
  split
  case h_1 | h_2 | h_3 | h_4 | h_5 => exact .ite hfault h
  case h_6 | h_7 | h_8 => exact h

theorem Probes.stepExpiry (h : Probes none s) : Probes none (s.stepExpiry a) := by
  have hstop {y : Option Arm} (h : Probes y s) : Probes y (s.stopTimer a) := h.congr State.stopTimer_probing
  have hstate : ((s.stopTimer a).change a).state = (s.change a).state := by simp [State.stopTimer]
  refine h.by_change (a := a) (fun hi => ?_) fun _ h => ?_
  · refine .ite ?_ h
    simpa [hstate, hi, ChangeState.afterGrant] using hstop h
  · exact .ite (.ite (hstop h).changeDoubleFault (.ite (hstop h).faultChange (hstop h))) h

/-- A message between blocks keeps the law. -/
theorem Probes.takeMessage (h : Probes none s) (m : Message) : Probes none (s.takeMessage m) := by
  cases m with
  | granted a => exact h.granted
  | lapsed a => exact h.takeLapse
  | lockedOut a => exact h.takeLockout
  | grantee g => exact h.takeGrantee
  | lidChanged p => exact h.lidNews.lidNews
  | occupancyChanged p => exact h.occupancyNews.occupancyNews
  | testStage a => exact h.advance

theorem Probes.settle (h : Probes none s) : Probes none s.settle :=
  State.settle_keeps (fun _ _ h => h) (fun _ m h => h.takeMessage m) s h

/-! ### The head and the identity reader (R136, R137, R149, R158) -/

theorem Probes.headEvent (h : Probes x s) : Probes x (s.headEvent a) := by
  unfold State.headEvent
  cases (s.head a).modulePresent <;> cases (s.head a).state
  case false.tip => exact Probes.addCause (h.congr (by simp))
  all_goals exact h

theorem Probes.moduleChanged (h : Probes none s) : Probes none (s.moduleChanged a) := by
  refine h.by_change (a := a) (fun hi => by simpa [State.moduleChanged, hi] using h.headEvent) fun _ h => ?_
  simp only [State.moduleChanged]
  split
  case h_1 => exact h.headEvent
  case h_2 => exact .ite h.endChange.headEvent (.ite h.endChange.headEvent h)
  case h_3 | h_4 | h_5 | h_6 => exact .ite h h.faultChange
  case h_7 | h_8 => exact h
  case h_9 | h_10 | h_11 => exact .ite h.faultChange h
  case h_12 => exact .ite (Probes.resolveAndEnd (h.congr (by simp))) h

theorem Probes.moduleDebounced (h : Probes none s) : Probes none (s.moduleDebounced a) := by
  have hlevel (v : Head) : Probes none (s.setHead a v) := h
  exact .ite h (hlevel _).moduleChanged

theorem Probes.identityRead {id : Word} (h : Probes (some a) s) : Probes (some a) (s.identityRead a id) := by
  unfold State.identityRead
  split
  · exact h.faultChange
  · exact .ite (.ite (Probes.enterStage (h.congr (by simp))) (Probes.faultChange (h.congr (by simp)))) h.faultChange

theorem Probes.readEnds {id : Option Word} (h : Probes none s) : Probes none (s.readEnds a id) := by
  have hreport {y : Option Arm} (h : Probes y s) : Probes y ((s.abandonRead a).identityReport a id).state :=
    h.congr (by simp)
  refine h.by_change (a := a) (fun hi => ?_) fun _ h => ?_
  · have hi' : ((s.abandonRead a).change a).state = .idle := hi
    simpa [State.readEnds, hi'] using hreport h
  · have hidle : Probes (some a) (s.abandonRead a) := h
    simp only [State.readEnds]
    split
    · split
      · exact hidle.identityRead
      · exact hidle.faultChange
    · exact (hreport h).resolveAndEnd
    · exact hreport h

theorem Probes.attemptFails {n : Nat} (h : Probes none s) : Probes none (s.attemptFails a n) := .ite h h.readEnds

theorem Probes.identityAnswer {id : Word} {correct : Bool} (h : Probes none s) :
    Probes none (s.identityAnswer a id correct) := by
  unfold State.identityAnswer
  split
  · exact h
  · exact .ite h.readEnds h.attemptFails

theorem Probes.attemptTimeout (h : Probes none s) : Probes none (s.attemptTimeout a) := by
  unfold State.attemptTimeout
  split
  · exact h
  · exact h.attemptFails

end

end Sys2Proof.Machine
end

section
/-! PROOF. Every command keeps the law of probing (O40). -/

namespace Sys2Proof.Machine

section
variable {s t : State} {a : Arm}

/-! ### Commands of the touch unit and the axis unit -/

/-- PROBE_ARM arms only an arm without a hold and without a change (R100). -/
theorem Probes.probeArm {arm value : Byte} (h : Probes none s) : Probes none (probeArmReq arm value s).state := by
  have hset (b : Arm) (v : Bool)
      (hv : v = true → (s.zones.hold.get b).causes = Causes.none ∧ (s.change b).state = .idle) :
      Probes none (s.setTouch b { s.touch.get b with armed := v }) := by
    intro c harmed
    refine ⟨nofun, ?_⟩
    rw [State.setTouch_touch, Two.get_set] at harmed
    split at harmed
    · subst c
      exact hv harmed
    · exact (h c harmed).2
  unfold probeArmReq
  split
  · split
    · exact h
    · unfold probeArmBody
      split
      · exact h
      · rename_i hhold
        split
        · exact h
        · rename_i hbusy
          refine hset _ _ fun hv => ?_
          simpa [hv, Causes.isEmpty_iff, Change.busy] using And.intro hhold hbusy
  · exact h

theorem Probes.acceptTouch (h : Probes none s) : Probes none (s.acceptTouch a) := by
  have hjudged {u : State} (hu : Probes none u) (q : Point) (o : TouchOutcome) : Probes none (u.touchEffect a q o) := by
    cases o with
    | stray | point => exact hu.congr (State.setTouch_probing rfl)
    | collision => exact hu.addCause
  have hwaits : Probes none (s.setTouch a { s.touch.get a with trigger := .waitRelease }) :=
    h.congr (State.setTouch_probing rfl)
  unfold State.acceptTouch
  split
  · exact hjudged hwaits _ _
  · exact h

theorem Probes.takePhase {i : Axis} {q : Phase} (h : Probes none s) : Probes none (s.takePhase a i q) := by
  have hphase (r : AxisRecord) : Probes none (s.setAxis a i r) := h
  simp only [State.takePhase]
  split
  · exact hphase _
  · exact .ite ((hphase _).congr State.askFormation_probing) (hphase _)
  · exact (hphase _).axisFault

/-! ### The requests that reach zones, holds and changes -/

theorem Probes.writeZone {z : Fin 16} {kind : ZoneKind} {box : Box} {margin : Int} (h : Probes none s) :
    Probes none (s.writeZone z kind box margin) := by
  refine Probes.judgeZone (h.congr ?_)
  rw [State.mapHolds_probing (f := fun r => r.endPermit z) fun _ => rfl, State.setZone_probing]

theorem Probes.zoneWrite {zone kind arm : Byte} {box : Axes Bounds} {margin : Word} (h : Probes none s) :
    Probes none (zoneWriteReq zone kind arm box margin s).state := by
  unfold zoneWriteReq
  split
  · split
    · exact h
    · split
      · exact h
      · exact h.writeZone
  · exact h

theorem Probes.zoneResume {zone : Byte} (h : Probes none s) : Probes none (zoneResumeReq zone s).state := by
  have hzone (z : Fin 16) (r : Option Zone) : Probes none (s.setZone z r) := h
  unfold zoneResumeReq
  split
  · unfold zoneResumeBody
    split
    · exact h
    · split
      · exact (hzone _ _).judgeZone
      · exact h
  · exact h

theorem Probes.holdRelease {arm : Byte} (h : Probes none s) : Probes none (holdReleaseReq arm s).state := by
  unfold holdReleaseReq
  split
  · exact h
  · split
    · exact h
    · unfold holdReleaseBody
      split
      · exact h
      · rw [accept_state]
        exact h.releaseHold

theorem Probes.change {arm target allow : Byte} (h : Probes none s) :
    Probes none (changeReq arm target allow s).state := by
  unfold changeReq
  split
  · split
    · exact h
    · split
      · unfold stageChange
        split
        · exact h
        · exact h.congr (State.setChange_probing rfl)
      · unfold startChange
        split
        · exact h
        · exact h.congr State.completeAtOnce_probing
        · exact h.acceptChange.release
  · exact h

theorem Probes.changeAbort {arm : Byte} (h : Probes none s) : Probes none (changeAbortReq arm s).state := by
  unfold changeAbortReq
  split
  · exact h
  · split
    · exact h
    · rename_i b _ _
      refine h.by_change (a := b) (fun hi => ?_) fun _ h => ?_
      · simpa only [changeAbortBody, hi] using h
      · unfold changeAbortBody
        split
        · exact h
        · rw [accept_state]
          exact h.endChange
        · exact h
        · rw [accept_state]
          exact h.faultChange

/-! ### Start-up and RESTART (R112, R113) -/

/-- A part with probing armed on no arm is lawful. -/
theorem Probes.of_unarmed (h : ∀ b, (s.touch.get b).armed = false) : Probes none s :=
  fun b harmed => by simp [h b] at harmed

theorem Probes.startUp {l : Inputs} : Probes none (s.startUp l) := .of_unarmed fun b => by cases b <;> rfl

theorem Probes.restartBlocks : Probes none s.restartBlocks := .of_unarmed fun b => by cases b <;> rfl

/-! ### Every request (R198) -/

theorem Probes.requestBody {c : Instr} {body : State → Reply} (hb : requestBody c = some body) (h : Probes none s) :
    Probes none (body s).state := by
  cases c <;> cases hb
  case restart => exact .restartBlocks
  case probeArm => exact h.probeArm
  case zoneWrite => exact h.zoneWrite
  case zoneResume => exact h.zoneResume
  case holdRelease => exact h.holdRelease
  case change => exact h.change
  case changeAbort => exact h.changeAbort
  case identify | scanRead | groupRead | compRead | rackRead => exact h
  all_goals exact h.congr (by simp)

theorem Probes.request {c : Instr} {body : State → Reply} (hb : Machine.requestBody c = some body)
    (h : Probes none s) : Probes none (s.request c body) := by
  rcases s.request_cases c body with ⟨-, e⟩ | ⟨-, -, e⟩ | ⟨-, -, -, e⟩ | ⟨-, e⟩ <;> rw [e]
  · exact h
  · exact h
  · exact h
  · exact h.requestBody hb

theorem Probes.lateFrame {bytes : List Byte} (h : Probes none s) : Probes none (s.lateFrame bytes) := by
  have htake {u : State} (hu : Probes none u) (code : Byte) (payload : List Byte) :
      Probes none (u.takeExecuting code payload) := by
    rcases u.takeExecuting_cases code payload with e | ⟨_, _, -, hb, l, e⟩ <;> rw [e]
    · exact hu
    · have hanswered : Probes none _ := hu.requestBody hb
      exact Probes.settle hanswered
  unfold State.lateFrame
  split
  · rename_i code _ _ _
    obtain ⟨l, hl⟩ := s.judgeLate_frame code bytes
    obtain ⟨t, ht, hp⟩ := (s.judgeLate code bytes).progress_cases
    have hj : Probes none (s.judgeLate code bytes) := hl ▸ h
    have hprobes : Probes none t := by
      rcases ht with rfl | ⟨code, payload, -, rfl⟩
      · exact hj
      · exact htake hj code payload
    obtain ⟨m, e⟩ := t.placeAnswer_frame
    rcases hp with e' | e' <;> rw [e']
    · exact hprobes
    · exact e ▸ hprobes
  · exact h

/-! ### Every command -/

theorem Probes.event {f : State → State} (h : Probes none s) (hf : Probes none (f s)) : Probes none (s.event f) :=
  .ite hf h

theorem Probes.armEvent {f : State → State} (h : Probes none s) (hf : Probes none (f s)) :
    Probes none (s.armEvent a f) := .ite hf h

theorem Probes.judged {bytes : List Byte} {v : FrameVerdict} {f : State → State} (h : Probes none s)
    (hf : Probes none (f s)) : Probes none (s.judged bytes v f) := .ite (.ite h hf) h

/-- What leaves `probing` alone keeps the law, and so do the messages after it. -/
theorem Probes.settleSame (h : Probes none s) (e : t.probing = s.probing) : Probes none t.settle := (h.congr e).settle

theorem Probes.powerDown (h : Probes none s) : Probes none s.powerDown :=
  h.of_armed fun b harmed => ⟨by simpa [State.powerDown, TouchRecord.unpowered] using harmed, rfl, rfl⟩

theorem Probes.tick (h : Probes none s) : Probes none s.tick := by
  have htouch {u : State} (hu : Probes none u) : Probes none u.tickTouch :=
    hu.of_armed fun b harmed => ⟨by simpa [State.tickTouch] using harmed, rfl, rfl⟩
  have htimers : Probes none s.tickTimers :=
    .ite h (h.of_armed fun b harmed => ⟨harmed, rfl, by simp [State.change]⟩)
  exact .ite (htouch htimers) h

theorem exec_keepsProbes (c : Instr) (h : Probes none s) (e : exec c s = .next t) : Probes none t := by
  cases c <;> cases e
  case startUp => exact .startUp
  case powerOn => exact h.powerDown
  case badFrame | unknownRequestCode => exact .event h (.judged h h)
  case discardedRequest => exact .event h h.lateFrame
  case collect n =>
    obtain ⟨l, e⟩ := s.collect_frame n
    exact .event h (e ▸ h)
  case restart => exact .event h (.ite h (.ite h .restartBlocks))
  case attnFlags | attnConfig => exact .ite (.request rfl h) (h.congr (State.longList_probing _))
  case pocketWrite | change | changeAbort | zoneWrite | zoneResume | holdRelease =>
    exact .event h (Probes.settle (.request rfl h))
  case quadraturePhase => exact .armEvent h h.takePhase
  case qualificationTimeEnd => exact .armEvent h h.acceptTouch
  case holdCauseAddition => exact .armEvent h h.addCause
  case checkPointFormation => exact .armEvent h h.form.settle
  case granteeNotice => exact .event h (Probes.settle (.ite h.takeGrantee h))
  case grantedMessage => exact .armEvent h h.granted.settle
  case lapsedMessage => exact .armEvent h h.takeLapse.settle
  case lockedOutMessage => exact .armEvent h h.takeLockout.settle
  case stepTimerExpiry => exact .armEvent h h.stepExpiry.settle
  case modulePresentChange => exact .armEvent h h.moduleDebounced.settle
  case identityReply => exact .armEvent h h.identityAnswer.settle
  case identityAttemptTimeout => exact .armEvent h h.attemptTimeout.settle
  case openCommand | closeCommand | changePocketReport | rackRequest | exitReport | changeEndedReport |
      doubleFaultReport => exact .armEvent h (h.settleSame (by simp))
  case observedOccupancyChange | lidSenseChange | lidTimerExpiry | grantTimerExpiry | restartComparison =>
    exact .event h (h.settleSame (by simp))
  case referenceMark | triggerLeadingEdge | triggerRelease | touchComputation | pointRecordReturn | entryReport =>
    exact .armEvent h (h.congr (by simp))
  case modulePresentEdge => exact .armEvent h h
  case stowReleaseBegins | stowTransferComplete | pickBegins | identityMatched | transitResolved | identityReport |
      moduleLost => exact .armEvent h (h.congr (by simp [State.answered]))
  case transactionEnd | replyTimeout | scanTimerExpiry | frzInactive | holdAgeTick | groupStale |
      restartTransactionLimitEnd | raiseReport | pocketInputEdge | registrationClaim =>
    exact .event h (h.congr (by simp))
  case frzActive => exact .event h h
  case homePocketSeenEmpty | homePocketSeenOccupied => exact .event h (.ite h (h.congr (by simp [State.answered])))
  all_goals exact .request rfl h

end

/-- Settles O40: every command keeps the law of probing, and so does a millisecond on an empty queue. -/
theorem probingLawIsKept : Obligations.ProbingLawIsKept := by
  intro s t h e
  rw [probingLaw_iff_probes] at h ⊢
  unfold step at e
  split at e
  · cases e
    exact h.tick
  · rename_i rest _
    have hrest : Probes none { s with pending := rest } := h
    exact exec_keepsProbes _ hrest e

end Sys2Proof.Machine
end

section
/-! PROOF. PROBE_ARM (O37). -/

namespace Sys2Proof.Machine

section
variable {s : State} {a : Arm}

/-! ### PROBE_ARM after its argument checks (R100) -/

theorem probeArmBody_disarm :
    probeArmBody a false s = accept [0] (s.setTouch a { s.touch.get a with armed := false }) := by
  simp [probeArmBody, yesNo]

theorem probeArmBody_refused (h : (s.zones.hold.get a).causes ≠ Causes.none ∨ (s.change a).state ≠ .idle) :
    probeArmBody a true s = refuse .wrongState s := by
  rw [probeArmBody]
  split
  · rfl
  · rename_i hhold
    have hnone : (s.zones.hold.get a).causes = Causes.none := by simpa [Causes.isEmpty_iff] using hhold
    rw [if_pos (by simpa [Change.busy] using h.resolve_left (not_not_intro hnone))]

theorem probeArmBody_arm (hhold : (s.zones.hold.get a).causes = Causes.none) (hidle : (s.change a).state = .idle) :
    probeArmBody a true s = accept [1] (s.setTouch a { s.touch.get a with armed := true }) := by
  simp [probeArmBody, hhold, hidle, Causes.isEmpty, Change.busy, yesNo]

theorem probeArmReq_eq {arm value : Byte} (ha : arm.toNat = a.toNat) (hp : s.present a = true) (hv : value.toNat ≤ 1) :
    probeArmReq arm value s = probeArmBody a (decide (value.toNat = 1)) s := by
  simp [probeArmReq, sideArg_of_toNat ha, yesNoArg_some hv, State.absentArm, hp]

end

/-- Settles O37: the flag's byte first, then the two conditions of arming. -/
theorem probeArmSetsTheFlag : Obligations.ProbeArmSetsTheFlag := by
  intro s arm value a ht ha hp
  refine ⟨fun hv => ?_, ?_, ?_, ?_⟩
  · refine request_answered ht ?_
    rw [probeArmReq, sideArg_of_toNat ha, yesNoArg_none hv]
  · rintro rfl
    exact request_answered ht ((probeArmReq_eq ha hp (by decide)).trans probeArmBody_disarm)
  · rintro rfl hrefused
    exact request_answered ht ((probeArmReq_eq ha hp (by decide)).trans (probeArmBody_refused hrefused))
  · rintro rfl hhold hidle
    exact request_answered ht ((probeArmReq_eq ha hp (by decide)).trans (probeArmBody_arm hhold hidle))

end Sys2Proof.Machine
end

section
/-! PROOF. The trigger input and the judgement of a trigger (O38). -/

namespace Sys2Proof.Machine

section
variable {s : State} {a : Arm} {p : Point} {n k : Nat} {t : TouchRecord}

/-! ### The trigger input (R98, R102 to R104) -/

theorem exec_triggerLeadingEdge (hs : s.serves a) : exec (.triggerLeadingEdge a) s = .next (s.triggerEdge a) :=
  congrArg Host.Outcome.next (s.armEvent_on a _ hs)

theorem exec_triggerRelease (hs : s.serves a) : exec (.triggerRelease a) s = .next (s.triggerRelease a) :=
  congrArg Host.Outcome.next (s.armEvent_on a _ hs)

theorem exec_qualificationTimeEnd (hs : s.serves a) : exec (.qualificationTimeEnd a) s = .next (s.acceptTouch a) :=
  congrArg Host.Outcome.next (s.armEvent_on a _ hs)

theorem TouchRecord.edge_idle (h : t.trigger = .idle) :
    t.edge p = { t with input := true, trigger := .qualifying p t.qualificationTime 0 } := by
  rw [TouchRecord.edge, h]

theorem TouchRecord.edge_taken (h : t.trigger ≠ .idle) : t.edge p = { t with input := true } := by
  unfold TouchRecord.edge
  split
  · exact absurd ‹_› h
  · rfl

theorem TouchRecord.release_bounce (h : t.trigger = .qualifying p n k) :
    t.release = { t with input := false, trigger := .idle, bounces := bump t.bounces } := by
  rw [TouchRecord.release, h]

theorem TouchRecord.release_quiet (h : ∀ p n k, t.trigger ≠ .qualifying p n k) :
    t.release = { t with input := false, trigger := .idle } := by
  unfold TouchRecord.release
  split
  · rename_i hidle
    rw [← hidle]
  · exact absurd ‹_› (h _ _ _)
  · rfl

/-! ### The outcome of a trigger, case by case (R105) -/

theorem State.touchOutcome_busy (h : (s.change a).state ≠ .idle) : s.touchOutcome a = .stray := by
  simp [State.touchOutcome, Change.busy, h]

theorem State.touchOutcome_unarmed (hi : (s.change a).state = .idle) (h : (s.touch.get a).armed = false) :
    s.touchOutcome a = .collision := by
  simp [State.touchOutcome, Change.busy, hi, h]

theorem State.touchOutcome_stray (hi : (s.change a).state = .idle) (h : (s.touch.get a).armed = true)
    (hcause : s.referenced a = false ∨ (s.head a).state ≠ .tip ∨
      (s.mountedEntry a = none ∧ (s.head a).allowUnqualified = false)) : s.touchOutcome a = .stray := by
  simp only [State.touchOutcome, Change.busy, hi, h, bne_self_eq_false, Bool.not_true, Bool.false_eq_true, if_false]
  split
  · rfl
  · rename_i href
    split
    · rfl
    · rename_i htip
      rcases hcause with hblind | hhead | ⟨hentry, hallow⟩
      · simp [hblind] at href
      · exact absurd hhead htip
      · simp [hentry, hallow]

theorem State.touchOutcome_point (hi : (s.change a).state = .idle) (h : (s.touch.get a).armed = true)
    (hr : s.referenced a = true) (htip : (s.head a).state = .tip)
    (hentry : s.mountedEntry a ≠ none ∨ (s.head a).allowUnqualified = true) : s.touchOutcome a = .point := by
  have hused : ¬ ((s.mountedEntry a).isNone ∧ !(s.head a).allowUnqualified) := by
    rcases hentry with hentry | hallow
    · simp [hentry]
    · simp [hallow]
  simp only [State.touchOutcome, Change.busy, hi, h, hr, htip, if_neg hused]
  rfl

/-! ### What a judged trigger leaves (R106 to R108) -/

/-- The trigger is accepted, and waits for its release. -/
def State.latchTrigger (s : State) (a : Arm) : State :=
  s.setTouch a { s.touch.get a with trigger := .waitRelease }

theorem State.acceptTouch_qualifying (h : (s.touch.get a).trigger = .qualifying p n k) :
    s.acceptTouch a = (s.latchTrigger a).touchEffect a p (s.touchOutcome a) := by
  rw [State.acceptTouch, h]
  rfl

theorem State.latchTrigger_touch : (s.latchTrigger a).touch.get a = { s.touch.get a with trigger := .waitRelease } :=
  Two.get_set_same ..

theorem State.setTouch_latchTrigger (v : TouchRecord) : (s.latchTrigger a).setTouch a v = s.setTouch a v := by
  cases a <;> rfl

theorem State.acceptTouch_stray (h : (s.touch.get a).trigger = .qualifying p n k) (ho : s.touchOutcome a = .stray) :
    s.acceptTouch a = s.setTouch a
      { s.touch.get a with trigger := .waitRelease, strays := bump (s.touch.get a).strays } := by
  rw [State.acceptTouch_qualifying h, ho, State.touchEffect, State.setTouch_latchTrigger, State.latchTrigger_touch]

theorem State.acceptTouch_point (h : (s.touch.get a).trigger = .qualifying p n k) (ho : s.touchOutcome a = .point) :
    s.acceptTouch a = s.setTouch a
      { s.touch.get a with trigger := .waitRelease, requests := (s.touch.get a).requests ++ [p] } := by
  rw [State.acceptTouch_qualifying h, ho, State.touchEffect, State.setTouch_latchTrigger, State.latchTrigger_touch]

theorem State.acceptTouch_collision (h : (s.touch.get a).trigger = .qualifying p n k)
    (ho : s.touchOutcome a = .collision) : s.acceptTouch a = (s.latchTrigger a).addCause a .collision := by
  rw [State.acceptTouch_qualifying h, ho, State.touchEffect]

/-! ### The hold of a collision (R106, R170) -/

/-- The latch of a hold leaves the touch record of an arm that is not armed. -/
theorem State.addCause_touch (c : HoldCause) (h : (s.touch.get a).armed = false) :
    (s.addCause a c).touch = s.touch := by
  rcases s.addCause_cases a c with ⟨-, e⟩ | ⟨-, -, e⟩ | ⟨-, -, e⟩ <;> rw [e]
  · rw [State.raise_touch, State.disarm_touch, ← h]
    exact Two.set_get_same ..
  · rfl

theorem State.addCause_attention (c : HoldCause) (h : (s.zones.hold.get a).causes ≠ Causes.none) :
    (s.addCause a c).attention = s.attention := by
  rcases s.addCause_cases a c with ⟨-, e⟩ | ⟨-, hnone, -⟩ | ⟨-, -, e⟩
  · rw [e]
  · exact absurd hnone h
  · rw [e]
    rfl

theorem State.addCause_causes (c : HoldCause) (hp : s.present a = true) :
    ((s.addCause a c).zones.hold.get a).causes = (s.zones.hold.get a).causes.add c := by
  rw [State.addCause_zones c hp]
  simp

theorem State.addCause_present (c : HoldCause) : (s.addCause a c).present a = s.present a := by
  have hbuild : (s.addCause a c).oneArm = s.oneArm := (congrArg State.oneArm (State.addCause_frame c) :)
  cases a
  · rfl
  · exact congrArg not hbuild

/-- HOLD is active once a cause has been added (R170). -/
theorem State.addCause_holdActive (c : HoldCause) (hp : s.present a = true) : (s.addCause a c).holdActive a = true := by
  have hhas := s.addCause_has a c hp
  have hcauses : ((s.addCause a c).zones.hold.get a).causes.isEmpty = false := by
    refine Bool.eq_false_iff.mpr fun he => ?_
    rw [Causes.isEmpty_iff] at he
    rw [he] at hhas
    cases c <;> cases hhas
  rw [State.holdActive, hcauses, State.addCause_present, hp]
  exact Bool.or_true _

end

/-- Settles O38: the edges by the level and the trigger state, and the end of the qualification time by the outcome of
the first case that holds. -/
theorem triggersAreQualifiedAndJudged : Obligations.TriggersAreQualifiedAndJudged := by
  refine ⟨fun s a hs => ?_, fun s a hs => ?_⟩
  · intro t
    rw [exec_triggerLeadingEdge hs, exec_triggerRelease hs, State.triggerEdge, State.triggerRelease]
    refine ⟨fun hin => ?_, fun hin hidle => ?_, fun hin htaken => ?_, fun hin => ?_, fun hin p n k hq => ?_,
      fun hin hq => ?_⟩
    · rw [if_pos hin]
    · rw [if_neg (by simp [t, hin]), TouchRecord.edge_idle hidle]
      rfl
    · rw [if_neg (by simp [t, hin]), TouchRecord.edge_taken htaken]
    · rw [if_neg (by simp [t, hin])]
    · rw [if_pos hin, TouchRecord.release_bounce hq]
    · rw [if_pos hin, TouchRecord.release_quiet hq]
  · intro t
    rw [exec_qualificationTimeEnd hs]
    refine ⟨fun hq => ?_, fun p n k tip e hq hm he => ?_⟩
    · unfold State.acceptTouch
      split
      · exact absurd ‹_› (hq _ _ _)
      · rfl
    · intro stray blind
      have hentry := hm.mountedEntry he
      have hstray (ho : s.touchOutcome a = .stray) : stray := congrArg Host.Outcome.next (State.acceptTouch_stray hq ho)
      refine ⟨fun hbusy => hstray (State.touchOutcome_busy hbusy), fun hidle harm => ?_, fun hidle harm hcause => ?_,
        fun hidle harm href htip hused => ?_⟩
      · have hp : (s.latchTrigger a).present a = true := hs.2
        have hunarmed : ((s.latchTrigger a).touch.get a).armed = false := by rwa [State.latchTrigger_touch]
        have hcauses : (((s.latchTrigger a).addCause a .collision).zones.hold.get a).causes =
            (s.zones.hold.get a).causes.add .collision := State.addCause_causes .collision hp
        refine ⟨_, congrArg Host.Outcome.next (State.acceptTouch_collision hq (State.touchOutcome_unarmed hidle harm)),
          State.addCause_touch _ hunarmed, hcauses, fun hnone => (State.addCause_latches _ hp hnone).2,
          fun hsome => State.addCause_attention _ hsome, State.addCause_holdActive _ hp, ?_, ?_⟩
        · rw [hcauses]
          exact State.addCause_zones _ hp
        · exact congrArg (fun u : State => { u with touch := s.touch }) (State.addCause_frame (s := s.latchTrigger a) _)
      · refine hstray (State.touchOutcome_stray hidle harm (hcause.imp ?_ (.imp_right ?_)))
        · rintro ⟨i, hi⟩
          exact State.not_referenced hi
        · rw [hentry]
          exact id
      · have hall : s.referenced a = true :=
          State.referenced_iff.mpr ⟨hs.2, fun i => by_contra fun hi => href ⟨i, hi⟩⟩
        rw [← hentry] at hused
        exact congrArg Host.Outcome.next
          (State.acceptTouch_point hq (State.touchOutcome_point hidle harm hall htip hused))

end Sys2Proof.Machine
end

section
/-! PROOF. The touch slot (O39). -/

namespace Sys2Proof.Machine

section
variable {s : State} {a : Arm} {q : PointRecord} {rest : List PointRecord}

/-! ### A returned point record (R109) -/

theorem exec_pointRecordReturn (hs : s.serves a) : exec (.pointRecordReturn a) s = .next (s.placePoint a) :=
  congrArg Host.Outcome.next (s.armEvent_on a _ hs)

/-- The touch record with the returned record in its slot. -/
def TouchRecord.placed (t : TouchRecord) (q : PointRecord) (rest : List PointRecord) : TouchRecord :=
  { t with
    slot := some { q with touchNumber := some t.nextNumber }
    nextNumber := nextTouchNumber t.nextNumber
    returned := rest }

theorem State.placePoint_none (h : (s.touch.get a).returned = []) : s.placePoint a = s := by
  simp only [State.placePoint, h]

theorem State.placePoint_empty (h : (s.touch.get a).returned = q :: rest) (hslot : (s.touch.get a).slot = none) :
    s.placePoint a = (s.setTouch a ((s.touch.get a).placed q rest)).raise (.touch a) := by
  simp only [State.placePoint, h, hslot]
  rfl

theorem State.placePoint_full (h : (s.touch.get a).returned = q :: rest) (hslot : (s.touch.get a).slot ≠ none) :
    s.placePoint a = s.setTouch a { s.touch.get a with
      nextNumber := nextTouchNumber (s.touch.get a).nextNumber
      overruns := bump (s.touch.get a).overruns
      returned := rest } := by
  obtain ⟨r, hr⟩ := Option.ne_none_iff_exists'.mp hslot
  simp only [State.placePoint, h, hr]

/-- A raise looks at nothing of the touch unit. -/
theorem State.raise_setTouch_attention (v : TouchRecord) (src : AttnSource) :
    ((s.setTouch a v).raise src).attention = (s.raise src).attention := by
  have hcan : (s.setTouch a v).canRaise src = s.canRaise src := rfl
  rw [State.raise, State.raise, hcan]
  split <;> rfl

/-! ### TOUCH_TAKE (R110) -/

theorem touchTakeReq_eq {arm : Byte} (ha : arm.toNat = a.toNat) :
    touchTakeReq arm s = if s.absentArm a then refuse .notPresent s else touchTakeBody a s := by
  rw [touchTakeReq, sideArg_of_toNat ha]

theorem touchTakeBody_full (h : (s.touch.get a).slot = some q) :
    touchTakeBody a s = accept q.bytes (s.setTouch a { s.touch.get a with slot := none }) := by
  rw [touchTakeBody, h]

theorem touchTakeBody_empty (h : (s.touch.get a).slot = none) :
    touchTakeBody a s = { status := .nothing, payload := [], state := s } := by
  rw [touchTakeBody, h]

end

/-- Settles O39: the returned record by the slot it finds, and TOUCH_TAKE by the slot it empties. -/
theorem pointsAreNumberedPlacedAndTaken : Obligations.PointsAreNumberedPlacedAndTaken := by
  refine ⟨fun s a hs => ?_, fun s arm ht => ⟨fun hv => ?_, fun a ha => ⟨fun hp => ?_, fun hp => ?_⟩⟩⟩
  · intro t next
    rw [exec_pointRecordReturn hs]
    refine ⟨fun hnone => ?_, fun q rest hq => ⟨fun hslot => ?_, fun hslot => ?_⟩⟩
    · rw [State.placePoint_none hnone]
    · have hraise : (s.setTouch a (t.placed q rest)).canRaise (.touch a) = true := hs.2
      refine ⟨_, congrArg Host.Outcome.next (State.placePoint_empty hq hslot), State.raise_touch .., ?_,
        State.raise_flag _ _ hraise, ?_⟩
      · exact State.raise_setTouch_attention _ _
      · obtain ⟨r, e⟩ := (s.setTouch a (t.placed q rest)).raise_frame (.touch a)
        rw [e]
        rfl
    · exact congrArg Host.Outcome.next (State.placePoint_full hq hslot)
  · refine request_answered ht ?_
    rw [touchTakeReq, sideArg_none hv]
  · exact request_answered ht ((touchTakeReq_eq ha).trans (by simp [State.absentArm, hp]))
  · have hbody : touchTakeReq arm s = touchTakeBody a s := (touchTakeReq_eq ha).trans (by simp [State.absentArm, hp])
    exact ⟨fun q hslot => request_answered ht (hbody.trans (touchTakeBody_full hslot)),
      fun hslot => request_answered ht (hbody.trans (touchTakeBody_empty hslot))⟩

end Sys2Proof.Machine
end

section
/-! SUPPORT. What the laws of the rack speak of: of each pocket its state, lid, drive and lid timer, the reports, and the
arbiter with its queue and grant timer (spec 07, R121 to R131); and that the library, the scanner, the axis unit, the
touch unit and the link leave it alone. -/

namespace Sys2Proof

/-- A write that leaves `f` as it is shows nothing through `f`. -/
theorem upd_map_eq {α β : Type} {n : Nat} {f : α → β} {v : Vector α n} {i : Fin n} {e : α} (h : f e = f v[i]) :
    (upd v i e).map f = v.map f := by
  ext j hj
  rw [Vector.getElem_map, Vector.getElem_map, show (upd v i e)[j] = _ from upd_get v i ⟨j, hj⟩ e]
  split
  · subst i
    exact h
  · rfl

end Sys2Proof

namespace Sys2Proof.Machine

/-! ### The racking of the part -/

/-- What the law of the lids speaks of at one pocket. -/
structure LidPart where
  state : PocketState
  lid : LidState
  drive : Bool
  timer : Timer

def Pocket.lidPart (r : Pocket) : LidPart := ⟨r.state, r.lid, r.drive, r.timer⟩

/-- What the laws of the rack speak of. -/
structure Racking where
  powered : Bool
  lids : Vector LidPart 20
  reports : Two PocketReport
  arbiter : Arbiter
  queue : List Arm
  grantTimer : Timer

def State.racking (s : State) : Racking :=
  { powered := s.powered, lids := s.rack.pockets.map Pocket.lidPart, reports := s.rack.reports,
    arbiter := s.rack.arbiter, queue := s.rack.queue, grantTimer := s.rack.grantTimer }

section
variable {s t : State} {a : Arm} {p : Fin 20} {i : Fin 64} {g : Strg}

@[simp] theorem State.racking_ite {c : Prop} [Decidable c] :
    (if c then s else t).racking = if c then s.racking else t.racking := apply_ite ..

@[simp] theorem State.racking_mk (oneArm powered frz : Bool) (library : Library) (arms : Two ArmAxes)
    (scanner : Scanner) (comp : Compensation) (touch : Two TouchRecord) (rack : Rack) (sequencer : Sequencer)
    (zones : ZoneMonitor) (attention : Attention) (link : Link) (mail : List Message) (answer : Option Answer)
    (pending : List Instr) :
    (State.mk oneArm powered frz library arms scanner comp touch rack sequencer zones attention link mail answer
      pending).racking =
      { powered, lids := rack.pockets.map Pocket.lidPart, reports := rack.reports, arbiter := rack.arbiter,
        queue := rack.queue, grantTimer := rack.grantTimer } := rfl

@[simp] theorem State.racking_eta : Racking.mk s.powered (s.rack.pockets.map Pocket.lidPart) s.rack.reports
    s.rack.arbiter s.rack.queue s.rack.grantTimer = s.racking := rfl

/-! ### The named updates -/

/-- A write to a pocket that leaves its lid alone. -/
@[simp] theorem State.setPocket_racking {v : Pocket} (h : v.lidPart = (s.pocket p).lidPart) :
    (s.setPocket p v).racking = s.racking := by
  have hlids : (upd s.rack.pockets p v).map Pocket.lidPart = s.rack.pockets.map Pocket.lidPart := upd_map_eq h
  exact congrArg (fun x => { s.racking with lids := x }) hlids

@[simp] theorem State.setTip_racking (v : TipSlot) : (s.setTip i v).racking = s.racking := rfl

@[simp] theorem State.setArm_racking (v : ArmAxes) : (s.setArm a v).racking = s.racking := rfl

@[simp] theorem State.setAxis_racking (k : Axis) (v : AxisRecord) : (s.setAxis a k v).racking = s.racking := rfl

@[simp] theorem State.setTouch_racking (v : TouchRecord) : (s.setTouch a v).racking = s.racking := rfl

@[simp] theorem State.disarm_racking : (s.disarm a).racking = s.racking := rfl

@[simp] theorem State.setChange_racking (v : Change) : (s.setChange a v).racking = s.racking := rfl

@[simp] theorem State.setHead_racking (v : Head) : (s.setHead a v).racking = s.racking := rfl

@[simp] theorem State.setHold_racking (v : HoldRecord) : (s.setHold a v).racking = s.racking := rfl

@[simp] theorem State.setCauses_racking (v : Causes) : (s.setCauses a v).racking = s.racking := rfl

@[simp] theorem State.mapHolds_racking (f : HoldRecord → HoldRecord) : (s.mapHolds f).racking = s.racking := rfl

@[simp] theorem State.setZone_racking (z : Fin 16) (v : Option Zone) : (s.setZone z v).racking = s.racking := rfl

@[simp] theorem State.setString_racking (v : StringControl) : (s.setString g v).racking = s.racking := rfl

@[simp] theorem State.setSensor_racking (k : Fin 16) (v : Option Sensor) : (s.setSensor g k v).racking = s.racking :=
  rfl

@[simp] theorem State.setScan_racking (v : ScanState) (r : Timer) : (s.setScan v r).racking = s.racking := rfl

@[simp] theorem State.setFormations_racking (v : List FormationCause) : (s.setFormations a v).racking = s.racking :=
  rfl

@[simp] theorem State.askFormation_racking : (s.askFormation a).racking = s.racking := rfl

@[simp] theorem State.setLink_racking (v : Link) : (s.setLink v).racking = s.racking := rfl

@[simp] theorem State.send_racking (v : Message) : (s.send v).racking = s.racking := rfl

@[simp] theorem State.setAnswer_racking (v : Answer) : (s.setAnswer v).racking = s.racking := rfl

@[simp] theorem State.headBecomes_racking (v : HeadState) : (s.headBecomes a v).racking = s.racking := rfl

@[simp] theorem State.headBecomesTip_racking (mark : Bool) : (s.headBecomesTip a mark).racking = s.racking := rfl

@[simp] theorem State.abandonRead_racking : (s.abandonRead a).racking = s.racking := rfl

@[simp] theorem State.enterStage_racking (st : ChangeState) (timer : Timer) :
    (s.enterStage a st timer).racking = s.racking := rfl

@[simp] theorem State.stopTimer_racking : (s.stopTimer a).racking = s.racking := rfl

@[simp] theorem State.dropOpened_racking : (s.dropOpened a p).racking = s.racking := rfl

@[simp] theorem State.goBlind_racking : (s.goBlind a).racking = s.racking := rfl

@[simp] theorem State.refusesReport_racking : s.refusesReport.state.racking = s.racking := rfl

@[simp] theorem State.configure_racking (l : List ConfigEntry) : (s.configure l).racking = s.racking := rfl

@[simp] theorem State.clearForeign_racking : (s.clearForeign p).racking = s.racking := State.setPocket_racking rfl

@[simp] theorem State.pocketEdge_racking (input : PocketInput) (level : Bool) :
    (s.pocketEdge p input level).racking = s.racking := by cases input <;> exact State.setPocket_racking rfl

/-! ### Flags and hold causes (spec 10, R170) -/

@[simp] theorem State.raise_racking (src : AttnSource) : (s.raise src).racking = s.racking := by
  obtain ⟨r, e⟩ := s.raise_frame src
  rw [e]
  rfl

@[simp] theorem State.addCause_racking (c : HoldCause) : (s.addCause a c).racking = s.racking := by
  rcases s.addCause_cases a c with ⟨-, e⟩ | ⟨-, -, e⟩ | ⟨-, -, e⟩ <;> simp [e]

/-! ### The library (spec 01) -/

@[simp] theorem State.moveTip_racking (v : Tip) (loc : Location) : (s.moveTip i v loc).racking = s.racking := by
  cases loc <;> simp [State.moveTip]

@[simp] theorem State.loseMounted_racking (keep : Option (Fin 64)) :
    (s.loseMounted a keep).racking = s.racking := by
  obtain ⟨_, _, e⟩ := State.loseMounted_frame (s := s) (a := a) keep
  rw [e]
  rfl

@[simp] theorem State.stowReleaseBegins_racking : (s.stowReleaseBegins a i).state.racking = s.racking := by
  unfold State.stowReleaseBegins
  split
  · split <;> simp
  · rfl

@[simp] theorem State.stowTransferComplete_racking : (s.stowTransferComplete a i).state.racking = s.racking := by
  unfold State.stowTransferComplete
  split
  · split <;> simp
  · rfl

@[simp] theorem State.pickBegins_racking : (s.pickBegins a i).state.racking = s.racking := by
  unfold State.pickBegins
  split
  · split <;> simp
  · rfl

@[simp] theorem State.identityMatched_racking : (s.identityMatched a i).state.racking = s.racking := by
  unfold State.identityMatched
  split
  · split <;> simp
  · rfl

@[simp] theorem State.transitResolved_racking (occupied : Bool) :
    (s.transitResolved a i occupied).state.racking = s.racking := by
  unfold State.transitResolved
  split
  · split <;> simp
  · rfl

@[simp] theorem State.identityReport_racking (id : Option Word) :
    (s.identityReport a id).state.racking = s.racking := by
  unfold State.identityReport State.identityUnmatched
  split
  · simp
  · split
    · simp
    · split
      · simp
      · split <;> simp

@[simp] theorem State.moduleLost_racking : (s.moduleLost a).state.racking = s.racking := by
  unfold State.moduleLost
  split <;> simp

@[simp] theorem State.libraryHomeEmpty_racking : (s.libraryHomeEmpty p).state.racking = s.racking := by
  unfold State.libraryHomeEmpty
  split
  · rfl
  · split
    · split <;> simp
    · rfl

@[simp] theorem State.libraryHomeOccupied_racking : (s.libraryHomeOccupied p).state.racking = s.racking := by
  unfold State.libraryHomeOccupied
  split
  · rfl
  · split
    · split <;> simp
    · rfl

@[simp] theorem State.registrationClaim_racking (id : Word) : (s.registrationClaim id).2.racking = s.racking := by
  unfold State.registrationClaim
  split <;> simp

@[simp] theorem State.placeTip_racking (v : Tip) (claimed : Option Arm) :
    (s.placeTip i v claimed).racking = s.racking := by
  unfold State.placeTip
  split <;> simp

@[simp] theorem tipWriteReq_racking (tip : Byte) (id : Word) (cls home : Byte) :
    (tipWriteReq tip id cls home s).state.racking = s.racking := by
  simp only [tipWriteReq, tipWriteBody]
  repeat' split
  all_goals simp [State.createTip, State.rewriteTip]

@[simp] theorem tipQualifyReq_racking (tip arm : Byte) (dx dy dz r : Word) (source : Byte) (temp : Word) :
    (tipQualifyReq tip arm dx dy dz r source temp s).state.racking = s.racking := by
  simp only [tipQualifyReq, tipQualifyBody]
  repeat' split
  all_goals simp [qualifyStore]

@[simp] theorem tipUnqualifyReq_racking (tip arm : Byte) : (tipUnqualifyReq tip arm s).state.racking = s.racking := by
  simp only [tipUnqualifyReq, tipUnqualifyBody]
  repeat' split
  all_goals simp

@[simp] theorem tipRetireReq_racking (tip : Byte) : (tipRetireReq tip s).state.racking = s.racking := by
  simp only [tipRetireReq, tipRetireBody]
  repeat' split
  all_goals simp

@[simp] theorem tipPurgeReq_racking (tip : Byte) : (tipPurgeReq tip s).state.racking = s.racking := by
  simp only [tipPurgeReq, tipPurgeBody]
  repeat' split
  all_goals simp

/-! ### Comparison and report (R116 to R118) -/

@[simp] theorem State.seenEmpty_racking : (s.seenEmpty p).state.racking = s.racking := by
  simp only [State.seenEmpty]
  split <;> simp

@[simp] theorem State.seenOccupied_racking : (s.seenOccupied p).state.racking = s.racking := by
  simp only [State.seenOccupied]
  split
  · simp
  · dsimp only
    rw [State.raise_racking, State.setPocket_racking, State.libraryHomeOccupied_racking]
    rfl

@[simp] theorem State.compareIfWatched_racking : (s.compareIfWatched p).racking = s.racking := by
  unfold State.compareIfWatched State.compare
  split
  · rfl
  · split <;> simp

@[simp] theorem State.occupancyChange_racking : (s.occupancyChange p).racking = s.racking := by
  have hlevel : (s.setPocket p { s.pocket p with occupied := (s.pocket p).occupancyInput }).racking = s.racking :=
    State.setPocket_racking rfl
  simp [State.occupancyChange, hlevel]

@[simp] theorem State.restartCompareAt_racking : (s.restartCompareAt p).racking = s.racking := by
  have hdone : (s.setPocket p { s.pocket p with restartCompare := false }).racking = s.racking :=
    State.setPocket_racking rfl
  simp [State.restartCompareAt, hdone]

@[simp] theorem pocketClearForeignReq_racking (pocket : Byte) :
    (pocketClearForeignReq pocket s).state.racking = s.racking := by
  unfold pocketClearForeignReq
  split
  · rfl
  · split <;> simp

/-! ### The scanner and the compensation engine (spec 03 to spec 05) -/

theorem Swept.racking_eq (h : Swept s t) : t.racking = s.racking := (congrArg State.racking h.frame :)

@[simp] theorem State.kick_racking : (s.kick g).racking = s.racking := by
  obtain ⟨_, _, e⟩ := s.kick_frame g
  rw [e]
  rfl

@[simp] theorem State.endIfSwept_racking : s.endIfSwept.racking = s.racking := State.endIfSwept_swept.racking_eq

@[simp] theorem State.goOn_racking : (s.goOn g).racking = s.racking :=
  State.goOn_swept.racking_eq.trans State.kick_racking

@[simp] theorem State.startPass_racking : (s.startPass g).racking = s.racking := by simp [State.startPass]

@[simp] theorem State.beginSweep_racking (timer : Timer) : (s.beginSweep timer).racking = s.racking := by
  simp [State.beginSweep]

@[simp] theorem State.transactionEnds_racking (e : LineEnd) : (s.transactionEnds g e).racking = s.racking := by
  have hsweep (u : State) (x : Transaction) : (u.sweepReading g x e).racking = u.racking := by
    obtain ⟨_, _, h⟩ := State.sweepReading_frame (s := u) (g := g) x e
    rw [h]
    rfl
  have hcheck (u : State) (x : Transaction) : (u.checkReading g x e).racking = u.racking := by
    obtain ⟨_, h⟩ := State.checkReading_frame (s := u) (g := g) x e
    rw [h]
    rfl
  unfold State.transactionEnds
  split
  · rfl
  · dsimp only
    split <;> simp [hsweep, hcheck]

@[simp] theorem State.scanExpiry_racking : s.scanExpiry.racking = s.racking := by
  unfold State.scanExpiry
  split
  · dsimp only
    split
    · simp
    · split <;> rfl
  · rfl

@[simp] theorem State.thaw_racking : s.thaw.racking = s.racking := by simp [State.thaw]

@[simp] theorem State.limitEnds_racking : (s.limitEnds g).racking = s.racking := by simp [State.limitEnds]

@[simp] theorem State.ageGroups_racking : s.ageGroups.racking = s.racking := by
  unfold State.ageGroups
  split <;> rfl

@[simp] theorem State.makeStale_racking (f : TempGroup → Bool) : (s.makeStale f).racking = s.racking := by
  obtain ⟨_, _, _, e⟩ := State.makeStale_frame (s := s) f
  rw [e]
  rfl

@[simp] theorem State.staleGroup_racking (x : TempGroup) : (s.staleGroup x).racking = s.racking := by
  simp [State.staleGroup]

@[simp] theorem State.makeTransactionStale_racking (k : Fin 16) :
    (s.makeTransactionStale g k).racking = s.racking := by
  unfold State.makeTransactionStale
  split <;> simp

@[simp] theorem sensorWriteReq_racking (string address binding : Byte) (trim : Word) (shift : Byte) :
    (sensorWriteReq string address binding trim shift s).state.racking = s.racking := by
  have hwrite (h : Strg) (k : Fin 16) (b : Option TempGroup) (v : Int) (n : Nat) :
      (s.writeSensor h k b v n).racking = s.racking := by
    obtain ⟨_, _, e⟩ := State.writeSensor_frame (s := s) (g := h) (i := k) b v n
    rw [e]
    rfl
  unfold sensorWriteReq
  split
  · unfold sensorWriteBody
    split
    · rfl
    · split
      · rfl
      · exact hwrite ..
  · rfl

@[simp] theorem sensorRetireReq_racking (string address : Byte) :
    (sensorRetireReq string address s).state.racking = s.racking := by
  unfold sensorRetireReq
  split
  · split <;> simp
  · rfl

@[simp] theorem sensorReadReq_racking (string address clear : Byte) :
    (sensorReadReq string address clear s).state.racking = s.racking := by
  unfold sensorReadReq
  split <;> simp

@[simp] theorem scanControlReq_racking (mode given : Byte) (period : Word) :
    (scanControlReq mode given period s).state.racking = s.racking := by
  have hcommand (u : State) (m : ScanMode) : (u.scanCommand m).racking = u.racking := by
    unfold State.scanCommand
    dsimp only
    split <;> simp
  unfold scanControlReq
  split
  · exact hcommand _ _
  · rfl

@[simp] theorem lineCheckReq_racking (string passes : Byte) :
    (lineCheckReq string passes s).state.racking = s.racking := by
  unfold lineCheckReq
  split
  · rfl
  · split <;> simp [State.startCheck]

@[simp] theorem compSetupReq_racking (al : Two (Axes Word)) (aw : Word) (w0 : Axes Word) :
    (compSetupReq al aw w0 s).state.racking = s.racking := by
  have hfactors (u : State) (f : Factors) : (u.takeFactors f).racking = u.racking := by
    obtain ⟨_, e⟩ := State.takeFactors_frame (s := u) f
    rw [e]
    rfl
  simp [compSetupReq, State.recompute, hfactors]

/-! ### The axis unit (spec 02) -/

@[simp] theorem State.guardChange_racking (was : Bool) : (s.guardChange a was).racking = s.racking := by
  unfold State.guardChange
  split <;> simp

@[simp] theorem State.axisFault_racking (was : Bool) : (s.axisFault a was).racking = s.racking := by
  simp [State.axisFault]

@[simp] theorem State.takePhase_racking (k : Axis) (q : Phase) : (s.takePhase a k q).racking = s.racking := by
  simp only [State.takePhase]
  split <;> simp

@[simp] theorem State.takeMark_racking (k : Axis) : (s.takeMark a k).racking = s.racking := by
  simp only [State.takeMark]
  split <;> simp

@[simp] theorem axisHomeReq_racking (arm axis : Byte) (v : Word) :
    (axisHomeReq arm axis v s).state.racking = s.racking := by
  unfold axisHomeReq
  split
  · split <;> simp [State.home]
  · rfl

@[simp] theorem armSetupReq_racking (arm : Byte) (o : Axes Word) (d : Axes Byte) (z : Axes Word) :
    (armSetupReq arm o d z s).state.racking = s.racking := by
  unfold armSetupReq
  split
  · split <;> simp [State.setupArm]
  · rfl

/-! ### The touch unit (spec 06) -/

@[simp] theorem State.triggerEdge_racking : (s.triggerEdge a).racking = s.racking := by simp [State.triggerEdge]

@[simp] theorem State.triggerRelease_racking : (s.triggerRelease a).racking = s.racking := by
  simp [State.triggerRelease]

@[simp] theorem State.acceptTouch_racking : (s.acceptTouch a).racking = s.racking := by
  have hjudged (u : State) (q : Point) (o : TouchOutcome) : (u.touchEffect a q o).racking = u.racking := by
    cases o <;> simp [State.touchEffect]
  unfold State.acceptTouch
  split <;> simp [hjudged]

@[simp] theorem State.computeTouch_racking : (s.computeTouch a).racking = s.racking := by
  unfold State.computeTouch
  split <;> simp

@[simp] theorem State.placePoint_racking : (s.placePoint a).racking = s.racking := by
  simp only [State.placePoint]
  split
  · rfl
  · split <;> simp

@[simp] theorem probeArmReq_racking (arm value : Byte) : (probeArmReq arm value s).state.racking = s.racking := by
  simp only [probeArmReq, probeArmBody]
  repeat' split
  all_goals simp

@[simp] theorem touchTakeReq_racking (arm : Byte) : (touchTakeReq arm s).state.racking = s.racking := by
  simp only [touchTakeReq, touchTakeBody]
  repeat' split
  all_goals simp

/-! ### Zones that are set aside (R177, R179) -/

@[simp] theorem zoneSuspendReq_racking (zone : Byte) : (zoneSuspendReq zone s).state.racking = s.racking := by
  simp only [zoneSuspendReq, zoneSuspendBody]
  repeat' split
  all_goals simp

@[simp] theorem zoneDeleteReq_racking (zone : Byte) : (zoneDeleteReq zone s).state.racking = s.racking := by
  simp only [zoneDeleteReq, zoneDeleteBody]
  repeat' split
  all_goals simp

/-! ### Attention and the link (spec 10, spec 11) -/

@[simp] theorem attnFlagsReq_racking (named : List Byte) : (attnFlagsReq named s).state.racking = s.racking := by
  unfold attnFlagsReq
  split <;> rfl

@[simp] theorem attnConfigReq_racking (entries : List AttnEntry) :
    (attnConfigReq entries s).state.racking = s.racking := by
  unfold attnConfigReq
  split
  · rfl
  · split <;> rfl

@[simp] theorem attnTakeReq_racking : (attnTakeReq s).state.racking = s.racking := by
  unfold attnTakeReq
  split <;> rfl

@[simp] theorem attnReleaseReq_racking : (attnReleaseReq s).state.racking = s.racking := by
  unfold attnReleaseReq
  split <;> rfl

@[simp] theorem countersReadReq_racking (clear : Byte) : (countersReadReq clear s).state.racking = s.racking := by
  unfold countersReadReq
  split
  · rfl
  · simp [State.clearCounters]

@[simp] theorem settingWriteReq_racking (number : Byte) (value : Word) :
    (settingWriteReq number value s).state.racking = s.racking := by
  have hwindow (h : Strg) (w n : Nat) : (s.setWindow h w n).racking = s.racking := by
    obtain ⟨_, _, e⟩ := State.setWindow_frame (s := s) (g := h) (w := w) (k := n)
    rw [e]
    rfl
  have hstore (k : Setting) (n : Nat) : (s.storeSetting k n).racking = s.racking := by
    cases k with
    | windowLength | faultCount => exact hwindow ..
    | holdLimit => exact (State.makeStale_racking _).trans rfl
    | _ => rfl
  unfold settingWriteReq
  split
  · rfl
  · split
    · rfl
    · exact hstore _ _

end

end Sys2Proof.Machine
end

section
/-! SUPPORT. The rules of the rack controller: the grantee's pocket, a lid that is released, the re-examination of the
drives, and the grant that is freed (spec 07, R123, R126 to R130). -/

namespace Sys2Proof.Machine

section
variable {s t : State} {a b : Arm} {p q : Fin 20}

/-! ### The grantee's pocket (R126) -/

theorem State.granteePocket_eq_some_iff : s.granteePocket = some p ↔
    ∃ (a : Arm) (acknowledged inside ended : Bool), s.rack.arbiter = .granted a acknowledged inside ended ∧
      (s.report a).pocket = some p := by
  unfold State.granteePocket
  cases s.rack.arbiter <;> simp

theorem State.granteePocket_granted {acknowledged inside ended : Bool}
    (h : s.rack.arbiter = .granted a acknowledged inside ended) : s.granteePocket = (s.report a).pocket := by
  rw [State.granteePocket, h]

theorem State.granteePocket_not_granted (h : s.rack.arbiter = .free ∨ s.rack.arbiter = .lockedOut) :
    s.granteePocket = none := by
  rcases h with h | h <;> rw [State.granteePocket, h]

theorem State.granteePocket_congr (harb : t.rack.arbiter = s.rack.arbiter) (hrep : t.rack.reports = s.rack.reports) :
    t.granteePocket = s.granteePocket := by
  simp only [State.granteePocket, State.report, harb, hrep]

theorem State.pocket_congr (h : t.rack.pockets = s.rack.pockets) : t.pocket p = s.pocket p := by
  rw [State.pocket, h, State.pocket]

/-! ### A lid that is released (R123, R126) -/

/-- A pocket after a close command has reached its OPENING or OPEN lid (R123). -/
def Pocket.closing (r : Pocket) (timeout : Nat) : Pocket :=
  { r with
    lid := if r.sense then .closing else .closed
    drive := false
    timer := if r.sense then some timeout else none }

/-- A pocket with its lid JAMMED (R125). -/
def Pocket.jammed (r : Pocket) : Pocket :=
  { r with
    state := if r.state = .enabled then .disabled else r.state
    lid := .jammed, drive := false, timer := none }

theorem State.setPocket_setPocket (v w : Pocket) : (s.setPocket p v).setPocket p w = s.setPocket p w := by
  simp [State.setPocket, upd]

theorem State.jam_eq : s.jam p = if (s.pocket p).state = .vacant
    then (s.setPocket p (s.pocket p).jammed).send (.lidChanged p)
    else ((s.setPocket p (s.pocket p).jammed).send (.lidChanged p)).raise .rack := by
  simp only [State.jam, State.setLid, State.setPocket_setPocket, State.pocket_setPocket, if_true]
  rfl

/-- The re-examination releases the lid of the pocket (R126). -/
def State.releases (s : State) (p : Fin 20) : Bool :=
  (s.pocket p).drive && s.granteePocket != some p && ((s.pocket p).lid == .opening || (s.pocket p).lid == .opened)

theorem State.releases_iff : s.releases p = true ↔ (s.pocket p).drive = true ∧ s.granteePocket ≠ some p ∧
    ((s.pocket p).lid = .opening ∨ (s.pocket p).lid = .opened) := by
  simp [State.releases, and_assoc]

/-- A close command at a lid that is OPENING or OPEN (R123). -/
theorem State.closeLid_open (h : (s.pocket p).lid = .opening ∨ (s.pocket p).lid = .opened) :
    s.closeLid p = (if (s.pocket p).sense then .closing else .closed,
      (s.setPocket p ((s.pocket p).closing s.rack.lidTimeout)).send (.lidChanged p)) := by
  rcases s.closeLid_cases p with ⟨-, hno⟩ | ⟨-, e⟩
  · exact absurd h (not_or.mpr hno)
  · rw [e]
    cases hs : (s.pocket p).sense <;> simp [State.setLid, Pocket.closing, hs]

theorem State.reexamineAt_eq : s.reexamineAt p =
    if s.releases p then (s.setPocket p ((s.pocket p).closing s.rack.lidTimeout)).send (.lidChanged p) else s := by
  unfold State.reexamineAt
  by_cases hlid : (s.pocket p).lid = .opening ∨ (s.pocket p).lid = .opened
  · simp only [State.releases_iff, hlid, and_true, State.closeLid_open]
  · have hstill : (s.closeLid p).2 = s := by
      rcases s.closeLid_cases p with ⟨e, -⟩ | ⟨h, -⟩
      · exact e
      · exact absurd h hlid
    simp only [State.releases_iff, hlid, and_false, if_false, hstill, ite_self]

/-- The rack controller's state with the lids of `l` that are driven in vain released, and the changes handed on. -/
def State.releaseAll (s : State) (l : List (Fin 20)) : State :=
  { s with
    rack := { s.rack with
      pockets := Vector.ofFn fun q =>
        if q ∈ l.filter s.releases then (s.pocket q).closing s.rack.lidTimeout else s.pocket q }
    mail := s.mail ++ (l.filter s.releases).map .lidChanged }

theorem State.releaseAll_pocket (l : List (Fin 20)) : (s.releaseAll l).pocket q =
    if q ∈ l ∧ s.releases q then (s.pocket q).closing s.rack.lidTimeout else s.pocket q := by
  simp [State.releaseAll, State.pocket]

theorem State.foldl_reexamineAt (l : List (Fin 20)) (hl : l.Nodup) : l.foldl State.reexamineAt s = s.releaseAll l := by
  induction l generalizing s with
  | nil => simp [State.releaseAll, State.pocket, Vector.ofFn_getElem]
  | cons p l ih =>
    obtain ⟨hp, hl⟩ := List.nodup_cons.mp hl
    rw [List.foldl_cons, ih hl, State.reexamineAt_eq]
    split
    · next hr =>
      generalize ht : (s.setPocket p ((s.pocket p).closing s.rack.lidTimeout)).send (.lidChanged p) = t
      have hpocket (q : Fin 20) : t.pocket q = if p = q then (s.pocket p).closing s.rack.lidTimeout else s.pocket q := by
        subst t
        exact State.pocket_setPocket ..
      have hfilter : l.filter t.releases = l.filter s.releases := by
        refine List.filter_congr fun q hq => ?_
        have hne : p ≠ q := fun e => hp (e ▸ hq)
        have hgrantee : t.granteePocket = s.granteePocket := by
          subst t
          rfl
        rw [State.releases, State.releases, hpocket, if_neg hne, hgrantee]
      have hpockets : (fun q => if q ∈ l.filter s.releases then (t.pocket q).closing s.rack.lidTimeout else t.pocket q) =
          fun q => if q ∈ p :: l.filter s.releases then (s.pocket q).closing s.rack.lidTimeout else s.pocket q := by
        funext q
        simp only [hpocket, List.mem_cons]
        by_cases hpq : p = q
        · subst q
          simp [hp]
        · simp [hpq, Ne.symm hpq]
      have htimeout : t.rack.lidTimeout = s.rack.lidTimeout := by
        subst t
        rfl
      rw [State.releaseAll, State.releaseAll, hfilter, List.filter_cons_of_pos hr, htimeout, hpockets]
      subst t
      simp
    · next hr =>
      rw [State.releaseAll, State.releaseAll, List.filter_cons_of_neg hr]

theorem State.releaseAll_frame (l : List (Fin 20)) : s.releaseAll l =
    { s with
      rack := { s.rack with pockets := (s.releaseAll l).rack.pockets }
      mail := s.mail ++ (l.filter s.releases).map .lidChanged } := rfl

/-- The re-examination of the drives releases every driven lid at another pocket than the grantee's (R126). -/
theorem State.reexamine_eq : s.reexamine = s.releaseAll (List.finRange 20) :=
  State.foldl_reexamineAt _ (List.nodup_finRange 20)

theorem State.reexamine_pocket : s.reexamine.pocket p =
    if s.releases p then (s.pocket p).closing s.rack.lidTimeout else s.pocket p := by
  rw [State.reexamine_eq, State.releaseAll_pocket]
  simp

/-- The re-examination writes pockets and tells the change sequencers of the lids it releases, and nothing else. -/
theorem State.reexamine_frame : s.reexamine =
    { s with
      rack := { s.rack with pockets := s.reexamine.rack.pockets }
      mail := s.mail ++ ((List.finRange 20).filter s.releases).map .lidChanged } := by
  rw [State.reexamine_eq]
  exact State.releaseAll_frame _

@[simp] theorem State.reexamine_powered : s.reexamine.powered = s.powered := (congrArg State.powered s.reexamine_frame :)

@[simp] theorem State.reexamine_arbiter : s.reexamine.rack.arbiter = s.rack.arbiter :=
  (congrArg (fun u : State => u.rack.arbiter) s.reexamine_frame :)

@[simp] theorem State.reexamine_queue : s.reexamine.rack.queue = s.rack.queue :=
  (congrArg (fun u : State => u.rack.queue) s.reexamine_frame :)

@[simp] theorem State.reexamine_grantTimer : s.reexamine.rack.grantTimer = s.rack.grantTimer :=
  (congrArg (fun u : State => u.rack.grantTimer) s.reexamine_frame :)

@[simp] theorem State.reexamine_reports : s.reexamine.rack.reports = s.rack.reports :=
  (congrArg (fun u : State => u.rack.reports) s.reexamine_frame :)

@[simp] theorem State.reexamine_granteePocket : s.reexamine.granteePocket = s.granteePocket :=
  State.granteePocket_congr State.reexamine_arbiter State.reexamine_reports

end

end Sys2Proof.Machine
end

section
/-! SUPPORT. The laws of the rack as they stand within a step of a part that has power: the law of the lids, that of the
drives and that of the arbiter, and the writes of the rack controller that keep them (spec 07, R121 to R131). -/

namespace Sys2Proof.Machine

/-! ### The laws in their parts -/

/-- The drive is on exactly at a lid that is OPENING or OPEN, the lid timer runs exactly in OPENING and CLOSING, and a
pocket with a JAMMED lid is not ENABLED (R121, R125). -/
def LidPart.Lawful (r : LidPart) : Prop :=
  (r.drive = true ↔ r.lid = .opening ∨ r.lid = .opened) ∧
  (r.timer.isSome = true ↔ r.lid = .opening ∨ r.lid = .closing) ∧ (r.lid = .jammed → r.state ≠ .enabled)

/-- A part that has power and whose lids are lawful, each by itself. -/
structure Lidded (s : State) : Prop where
  powered : s.powered = true
  lids : ∀ p, (s.pocket p).lidPart.Lawful

/-- The drives that are on are the grantee's (R126). -/
def Driven (s : State) : Prop := ∀ p, (s.pocket p).drive = true → s.granteePocket = some p

/-- The law of the arbiter but for the queue of a FREE rack, on which the grant test is still to be made (R127 to R131). -/
structure Arbitrated (s : State) : Prop where
  nodup : s.rack.queue.Nodup
  locked : s.rack.arbiter = .lockedOut → s.rack.queue = []
  staying : ∀ (a : Arm) (acknowledged inside : Bool), s.rack.arbiter = .granted a acknowledged inside false →
    a ∉ s.rack.queue
  timed : s.rack.grantTimer.isSome = true →
    ∃ (a : Arm) (inside ended : Bool), s.rack.arbiter = .granted a false inside ended

/-- The laws of the rack in a part that has power. -/
structure Racked (s : State) : Prop extends Lidded s, Arbitrated s where
  driven : Driven s
  free : s.rack.arbiter = .free → s.rack.queue = []

section
variable {s t : State} {a b : Arm} {p : Fin 20} {acknowledged inside ended : Bool}

theorem racked_iff (hp : s.powered = true) : Racked s ↔ LidLaw s ∧ ArbiterLaw s := by
  constructor
  · intro h
    refine ⟨fun p => ?_, h.nodup, fun hs => hs.elim h.free h.locked, h.staying, h.timed⟩
    obtain ⟨hdrive, htimer, hjam⟩ := h.lids p
    exact ⟨fun hd => ⟨State.granteePocket_eq_some_iff.mp (h.driven p hd), hdrive.mp hd⟩, fun _ => hdrive.mpr,
      htimer.mp, fun _ => htimer.mpr, hjam⟩
  · rintro ⟨hlid, hnodup, hidle, hstaying, htimed⟩
    refine { powered := hp, lids := fun p => ?_, nodup := hnodup, locked := fun e => hidle (.inr e),
             staying := hstaying, timed := htimed, driven := fun p hd => ?_, free := fun e => hidle (.inl e) }
    · obtain ⟨hdrive, hdriven, htimer, htimed, hjam⟩ := hlid p
      exact ⟨⟨fun hd => (hdrive hd).2, hdriven hp⟩, ⟨htimer, htimed hp⟩, hjam⟩
    · exact State.granteePocket_eq_some_iff.mpr ((hlid p).1 hd).1

/-! ### What leaves the racking alone -/

theorem State.racking_parts (e : t.racking = s.racking) : t.powered = s.powered ∧
    (∀ p, (t.pocket p).lidPart = (s.pocket p).lidPart) ∧ t.rack.reports = s.rack.reports ∧
    t.rack.arbiter = s.rack.arbiter ∧ t.rack.queue = s.rack.queue ∧ t.rack.grantTimer = s.rack.grantTimer := by
  refine ⟨congrArg Racking.powered e, fun p => ?_, congrArg Racking.reports e, congrArg Racking.arbiter e,
    congrArg Racking.queue e, congrArg Racking.grantTimer e⟩
  have hlid := congrArg (fun r : Racking => r.lids[p]) e
  simp only [State.racking, Fin.getElem_fin, Vector.getElem_map] at hlid
  exact hlid

theorem Lidded.of_lidPart (h : Lidded s) (hp : t.powered = s.powered)
    (hl : ∀ p, (t.pocket p).lidPart = (s.pocket p).lidPart) : Lidded t :=
  ⟨hp.trans h.powered, fun p => hl p ▸ h.lids p⟩

theorem Driven.of_drive (h : Driven s) (hg : t.granteePocket = s.granteePocket)
    (hd : ∀ p, (t.pocket p).drive = true → (s.pocket p).drive = true) : Driven t :=
  fun p hdrive => hg.trans (h p (hd p hdrive))

theorem Arbitrated.of_arbiter (h : Arbitrated s) (ha : t.rack.arbiter = s.rack.arbiter)
    (hq : t.rack.queue = s.rack.queue) (ht : t.rack.grantTimer = s.rack.grantTimer) : Arbitrated t := by
  obtain ⟨hnodup, hlocked, hstaying, htimed⟩ := h
  rw [← ha, ← hq] at hlocked
  simp only [← ha, ← hq] at hstaying
  simp only [← ha, ← ht] at htimed
  exact ⟨hq ▸ hnodup, hlocked, hstaying, htimed⟩

theorem Racked.congr (h : Racked s) (e : t.racking = s.racking) : Racked t := by
  obtain ⟨hp, hl, hr, ha, hq, ht⟩ := State.racking_parts e
  have hdrive (p : Fin 20) : (t.pocket p).drive = (s.pocket p).drive := congrArg LidPart.drive (hl p)
  refine { h.toLidded.of_lidPart hp hl, h.toArbitrated.of_arbiter ha hq ht with
           driven := h.driven.of_drive (State.granteePocket_congr ha hr) fun p hd => hdrive p ▸ hd
           free := ?_ }
  rw [ha, hq]
  exact h.free

theorem Racked.ite {c : Prop} [Decidable c] (hs : Racked s) (ht : Racked t) : Racked (if c then s else t) := by
  split
  · exact hs
  · exact ht

/-! ### One lid (R121 to R125) -/

/-- The pocket of one lid is written: the law of its new state, and a drive that is on only at the grantee's pocket. -/
theorem Racked.setPocket {v : Pocket} (h : Racked s) (hv : v.lidPart.Lawful)
    (hd : v.drive = true → s.granteePocket = some p) : Racked (s.setPocket p v) := by
  refine { h with lids := fun q => ?_, driven := fun q hq => ?_ }
  · rw [State.pocket_setPocket]
    split
    · exact hv
    · exact h.lids q
  · rw [State.pocket_setPocket] at hq
    split at hq
    · next e => exact (hd hq).trans (congrArg some e)
    · exact h.driven q hq

theorem Racked.send {m : Message} (h : Racked s) : Racked (s.send m) := h.congr rfl

theorem Racked.setLid {lid : LidState} {drive : Bool} {timer : Timer} (h : Racked s)
    (hv : LidPart.Lawful ⟨(s.pocket p).state, lid, drive, timer⟩)
    (hd : drive = true → s.granteePocket = some p) : Racked (s.setLid p lid drive timer) :=
  Racked.send (Racked.setPocket h (v := { s.pocket p with lid, drive, timer }) hv hd)

theorem LidPart.lawful_closed (st : PocketState) : LidPart.Lawful ⟨st, .closed, false, none⟩ := by
  simp [LidPart.Lawful]

theorem LidPart.lawful_opened (st : PocketState) : LidPart.Lawful ⟨st, .opened, true, none⟩ := by
  simp [LidPart.Lawful]

theorem LidPart.lawful_opening (st : PocketState) (n : Nat) : LidPart.Lawful ⟨st, .opening, true, some n⟩ := by
  simp [LidPart.Lawful]

theorem LidPart.lawful_closing (st : PocketState) (n : Nat) : LidPart.Lawful ⟨st, .closing, false, some n⟩ := by
  simp [LidPart.Lawful]

theorem Pocket.closing_lawful (r : Pocket) (n : Nat) : (r.closing n).lidPart.Lawful := by
  cases h : r.sense <;> simp [Pocket.closing, Pocket.lidPart, LidPart.Lawful, h]

theorem Racked.closeLid (h : Racked s) : Racked (s.closeLid p).2 := by
  rcases s.closeLid_cases p with ⟨e, -⟩ | ⟨-, e⟩ <;> rw [e]
  · exact h
  · split
    · exact h.setLid (LidPart.lawful_closing ..) nofun
    · exact h.setLid (LidPart.lawful_closed _) nofun

/-- The drive goes on only for the grantee at its current pocket (R122, R126). -/
theorem Racked.openLid (h : Racked s) : Racked (s.openLid a p).2 := by
  rcases s.openLid_cases a p with e | ⟨hg, hr, -, -, e⟩ <;> rw [e]
  · exact h
  · have hmine : s.granteePocket = some p := by
      obtain ⟨_, _, _, harb⟩ := (s.grantedTo_iff a).mp hg
      rw [State.granteePocket_granted harb, hr]
    exact .ite (h.setLid (LidPart.lawful_opened _) fun _ => hmine) (h.setLid (LidPart.lawful_opening ..) fun _ => hmine)

theorem Pocket.jammed_lawful (r : Pocket) : r.jammed.lidPart.Lawful := by
  cases h : r.state <;> simp [Pocket.jammed, Pocket.lidPart, LidPart.Lawful, h]

theorem Racked.jam (h : Racked s) : Racked (s.jam p) := by
  have hjammed : Racked ((s.setPocket p (s.pocket p).jammed).send (.lidChanged p)) :=
    (h.setPocket (Pocket.jammed_lawful _) nofun).send
  rw [State.jam_eq]
  exact .ite hjammed (hjammed.congr (State.raise_racking _))

/-- The table of R124; an OPENING lid that opens is driven as before. -/
theorem Racked.lidSense (h : Racked s) : Racked (s.lidSense p) := by
  simp only [State.lidSense]
  split
  · exact h.jam
  · next hlid _ =>
    have hdrive : (s.pocket p).drive = true := (h.lids p).1.mpr (.inl hlid)
    exact h.setLid (LidPart.lawful_opened _) fun _ => h.driven p hdrive
  · exact h.jam
  · exact h.setLid (LidPart.lawful_closed _) nofun
  · exact h

theorem Racked.senseChange (h : Racked s) : Racked (s.senseChange p) := by
  have hsensed : Racked (s.setPocket p { s.pocket p with sense := (s.pocket p).senseInput }) :=
    h.congr (State.setPocket_racking rfl)
  exact .ite h hsensed.lidSense

theorem Racked.lidExpiry (h : Racked s) : Racked (s.lidExpiry p) := .ite h.jam h

/-- POCKET_WRITE keeps the drive and, but for a JAMMED lid that is written ENABLED, the lid (R119). -/
theorem Racked.writePocket {st : PocketState} {dock : Two (Option Box)} (h : Racked s) :
    Racked (s.writePocket p st dock) := by
  have hcompare {u : State} (hu : Racked u) : Racked (u.compareIfWatched p) :=
    hu.congr State.compareIfWatched_racking
  have hstored : Racked (if st = .enabled ∧ (s.pocket p).lid = .jammed then
        (s.setPocket p { s.pocket p with state := st, dock }).setLid p .closed false none
      else s.setPocket p { s.pocket p with state := st, dock }) := by
    split
    · simp only [State.setLid, State.setPocket_setPocket]
      refine Racked.send (h.setPocket ?_ ?_)
      · exact LidPart.lawful_closed _
      · nofun
    · next hjam =>
      obtain ⟨hdrive, htimer, -⟩ := h.lids p
      exact h.setPocket ⟨hdrive, htimer, fun hlid hst => hjam ⟨hst, hlid⟩⟩ (h.driven p)
  exact .ite (hcompare hstored) hstored

/-! ### The re-examination of the drives (R126) -/

theorem Lidded.reexamine (h : Lidded s) : Lidded s.reexamine := by
  refine ⟨?_, fun p => ?_⟩
  · exact State.reexamine_powered.trans h.powered
  · rw [State.reexamine_pocket]
    split
    · exact Pocket.closing_lawful ..
    · exact h.lids p

/-- After the re-examination the drives that are on are the grantee's. -/
theorem Lidded.driven_reexamine (h : Lidded s) : Driven s.reexamine := by
  intro p hdrive
  rw [State.reexamine_granteePocket]
  rw [State.reexamine_pocket] at hdrive
  split at hdrive
  · cases hdrive
  · next hkept =>
    by_contra hg
    exact hkept (State.releases_iff.mpr ⟨hdrive, hg, (h.lids p).1.mp hdrive⟩)

theorem Arbitrated.reexamine (h : Arbitrated s) : Arbitrated s.reexamine := h.of_arbiter (by simp) (by simp) (by simp)

theorem Racked.of_reexamine (hl : Lidded s) (ha : Arbitrated s)
    (hf : s.rack.arbiter = .free → s.rack.queue = []) : Racked s.reexamine :=
  { hl.reexamine, ha.reexamine with driven := hl.driven_reexamine, free := by simpa using hf }

/-- A report that is not the grantee's, or names the same pocket, leaves the grantee's pocket as it is. -/
theorem State.granteePocket_takeReport {r : PocketReport}
    (h : s.grantedTo a = true → r.pocket = (s.report a).pocket) :
    State.granteePocket { s with rack := { s.rack with reports := s.rack.reports.set a r } } = s.granteePocket := by
  unfold State.granteePocket
  dsimp only
  split
  · next b acknowledged inside ended harb =>
    simp only [State.report, Two.get_set]
    split
    · next e =>
      subst b
      exact h ((s.grantedTo_iff a).mpr ⟨_, _, _, harb⟩)
    · rfl
  · rfl

/-- A change pocket report is kept, and the grantee's drives at other pockets are released (R117, R126). -/
theorem Racked.takeReport {r : PocketReport} (h : Racked s) : Racked (s.takeReport a r) := by
  have hreported {u : State} (e : u.racking =
      ({ s with rack := { s.rack with reports := s.rack.reports.set a r } } : State).racking) :
      Racked (if u.grantedTo a ∧ r.pocket ≠ (s.report a).pocket then u.reexamine else u) := by
    obtain ⟨hp, hl, hr, ha, hq, ht⟩ := State.racking_parts e
    have hlidded : Lidded u := h.toLidded.of_lidPart hp hl
    have harbitrated : Arbitrated u := h.toArbitrated.of_arbiter ha hq ht
    have hfree : u.rack.arbiter = .free → u.rack.queue = [] := by
      rw [ha, hq]
      exact h.free
    split
    · exact .of_reexamine hlidded harbitrated hfree
    · next hsame =>
      refine { hlidded, harbitrated with driven := ?_, free := hfree }
      have hgranted : u.grantedTo a = s.grantedTo a := by rw [State.grantedTo, State.grantedTo, ha]
      have hpocket : u.granteePocket = s.granteePocket :=
        (State.granteePocket_congr ha hr).trans (State.granteePocket_takeReport fun hg => by simp_all)
      exact h.driven.of_drive hpocket fun p hd => (congrArg LidPart.drive (hl p)).symm.trans hd
  simp only [State.takeReport]
  split
  · exact hreported State.compareIfWatched_racking
  · exact hreported rfl

/-! ### The arbiter (R127 to R132) -/

/-- With no grantee every drive is off. -/
theorem Driven.off (h : Driven s) (hg : s.granteePocket = none) (p : Fin 20) : (s.pocket p).drive = false := by
  rw [Bool.eq_false_iff]
  intro hd
  rw [h p hd] at hg
  cases hg

theorem Driven.of_off (h : ∀ p, (s.pocket p).drive = false) : Driven s := fun p hd => by simp [h p] at hd

/-- The grant test on a rack whose law holds but for the queue of a FREE arbiter (R128). -/
theorem Racked.grantTest (hl : Lidded s) (ha : Arbitrated s) (hd : Driven s) : Racked s.grantTest := by
  rcases s.grantTest_cases with ⟨e, hstands⟩ | ⟨a, rest, hfree, hqueue, e⟩ <;> rw [e]
  · exact { hl, ha with driven := hd, free := fun hf => hstands.resolve_left fun hne => hne hf }
  · have hnodup : a ∉ rest ∧ rest.Nodup := List.nodup_cons.mp (hqueue ▸ ha.nodup)
    generalize ht : ((((s.setArbiter (.granted a false false false)).setQueue rest).setGrantTimer
      (some s.rack.grantTimeout)).send (.granted a)).send (.grantee (some a)) = t
    have hpocket (p : Fin 20) : t.pocket p = s.pocket p := State.pocket_congr (ht ▸ rfl)
    have hrack : t.rack.arbiter = .granted a false false false ∧ t.rack.queue = rest := ht ▸ ⟨rfl, rfl⟩
    refine { powered := ht ▸ hl.powered, lids := fun p => hpocket p ▸ hl.lids p, nodup := hrack.2 ▸ hnodup.2,
             locked := ?_, staying := ?_, timed := fun _ => ⟨a, false, false, hrack.1⟩, driven := ?_, free := ?_ }
    · rw [hrack.1]
      nofun
    · intro b _ _ hb
      rw [hrack.1] at hb
      cases hb
      exact hrack.2 ▸ hnodup.1
    · exact Driven.of_off fun p => hpocket p ▸ hd.off (State.granteePocket_not_granted (.inl hfree)) p
    · rw [hrack.1]
      nofun

theorem Lidded.send {m : Message} (h : Lidded s) : Lidded (s.send m) := ⟨h.powered, h.lids⟩

theorem Driven.send {m : Message} (h : Driven s) : Driven (s.send m) := h

theorem Arbitrated.send {m : Message} (h : Arbitrated s) : Arbitrated (s.send m) :=
  ⟨h.nodup, h.locked, h.staying, h.timed⟩

/-- A rack that becomes FREE (R129, R130). -/
theorem Racked.freeRack (hl : Lidded s) (hq : s.rack.queue.Nodup) : Racked s.freeRack := by
  have hfreed : Lidded ((s.setArbiter .free).setGrantTimer none) := ⟨hl.powered, hl.lids⟩
  have harb : Arbitrated ((s.setArbiter .free).setGrantTimer none) := ⟨hq, nofun, nofun, nofun⟩
  exact .grantTest hfreed.reexamine.send harb.reexamine.send hfreed.driven_reexamine.send

/-- A grant of the same arm whose law holds: the drives of the grantee stay. -/
theorem Racked.regrant {acknowledged' inside' ended' : Bool} (h : Racked s)
    (hg : s.rack.arbiter = .granted a acknowledged inside ended) (he : ended' = false → a ∉ s.rack.queue)
    (ht : acknowledged' = true → s.rack.grantTimer = none) :
    Racked (s.setArbiter (.granted a acknowledged' inside' ended')) := by
  refine { powered := h.powered, lids := h.lids, nodup := h.nodup, locked := nofun, staying := ?_, timed := ?_,
           driven := ?_, free := nofun }
  · intro b _ _ hb
    cases hb
    exact he rfl
  · intro hrun
    cases acknowledged'
    · exact ⟨a, inside', ended', rfl⟩
    · rw [State.setArbiter_rack] at hrun
      simp [ht rfl] at hrun
  · refine h.driven.of_drive ?_ fun _ hd => hd
    rw [State.granteePocket_granted (s := s.setArbiter _) rfl, State.granteePocket_granted hg]
    rfl

/-- The timer of an acknowledged grant is stopped (R129). -/
theorem Arbitrated.timer_none (h : Arbitrated s) (hg : s.rack.arbiter = .granted a true inside ended) :
    s.rack.grantTimer = none := by
  rw [← Option.not_isSome_iff_eq_none]
  intro hrun
  obtain ⟨_, _, _, hg'⟩ := h.timed hrun
  rw [hg] at hg'
  cases hg'

theorem Racked.releaseIfDone (h : Racked s) : Racked s.releaseIfDone := by
  unfold State.releaseIfDone
  split
  · exact .freeRack h.toLidded h.nodup
  · exact h

theorem Racked.rackEntry (h : Racked s) : Racked (s.rackEntry a) := by
  unfold State.rackEntry
  split
  · next b acknowledged inside ended hg =>
    split
    · subst b
      have hstays : ended = false → a ∉ s.rack.queue := fun e => h.staying a acknowledged inside (e ▸ hg)
      have hstopped : Racked (s.setGrantTimer none) :=
        { h with nodup := h.nodup, locked := h.locked, staying := h.staying, timed := nofun, driven := h.driven,
                 free := h.free, lids := h.lids }
      cases acknowledged
      · exact hstopped.regrant hg hstays fun _ => rfl
      · exact h.regrant hg hstays fun _ => h.toArbitrated.timer_none hg
    · exact h
  · exact h

theorem Racked.rackExit (h : Racked s) : Racked (s.rackExit a) := by
  unfold State.rackExit
  split
  · next b acknowledged inside ended hg =>
    split
    · subst b
      exact (h.regrant hg (fun e => h.staying a acknowledged inside (e ▸ hg))
        fun e => h.toArbitrated.timer_none (e ▸ hg)).releaseIfDone
    · exact h
  · exact h

theorem Racked.rackChangeEnded (h : Racked s) : Racked (s.rackChangeEnded a) := by
  unfold State.rackChangeEnded
  split
  · refine Racked.grantTest ⟨h.powered, h.lids⟩ ⟨h.nodup.filter _, fun hl => ?_, fun b x y hg hb => ?_, h.timed⟩
      (h.driven.of_drive rfl fun _ hd => hd)
    · exact (congrArg (List.filter (· != a)) (h.locked hl)).trans rfl
    · exact h.staying b x y hg (List.mem_of_mem_filter hb)
  · split
    · next b acknowledged inside ended hg =>
      split
      · subst b
        refine (h.regrant (ended' := true) hg nofun fun e => ?_).releaseIfDone
        subst e
        exact h.toArbitrated.timer_none hg
      · exact h
    · exact h

/-- An arm whose change goes on with the grant is refused (R128). -/
theorem State.rackRequest_staying (hg : s.rack.arbiter = .granted a acknowledged inside false) :
    (s.rackRequest a).2 = s := by
  simp [State.rackRequest, hg]

theorem Racked.rackRequest (h : Racked s) : Racked (s.rackRequest a).2 := by
  rcases s.rackRequest_cases a with e | ⟨_, _, hg, hq, e⟩ | ⟨hlock, hout, e⟩
  · rw [e]
    exact h
  · rw [e]
    refine h.regrant hg (fun _ => ?_) fun hack => ?_
    · rw [hq]
      exact List.not_mem_nil
    · subst hack
      exact h.toArbitrated.timer_none hg
  · by_cases hstays : ∃ x y, s.rack.arbiter = .granted a x y false
    · obtain ⟨x, y, hg⟩ := hstays
      rw [State.rackRequest_staying hg]
      exact h
    · rw [e]
      refine Racked.grantTest ⟨h.powered, h.lids⟩ ⟨?_, fun hl => absurd hl hlock, fun b x y hg hb => ?_, h.timed⟩
        (h.driven.of_drive rfl fun _ hd => hd)
      · exact List.nodup_append.mpr ⟨h.nodup, List.nodup_singleton a, fun b hb c hc e => hout (by simp_all)⟩
      · rcases List.mem_append.mp hb with hb | hb
        · exact h.staying b x y hg hb
        · obtain rfl := List.mem_singleton.mp hb
          exact hstays ⟨x, y, hg⟩

theorem Racked.grantExpiry (h : Racked s) : Racked s.grantExpiry := by
  unfold State.grantExpiry
  split
  · exact .ite (.freeRack h.toLidded.send h.nodup) h
  · exact h

theorem Racked.tellLockedOut {arms : List Arm} (h : Racked s) : Racked (s.tellLockedOut arms) := by
  unfold State.tellLockedOut
  induction arms generalizing s with
  | nil => exact h
  | cons b l ih => exact ih h.send

theorem Racked.doubleFault (h : Racked s) : Racked (s.doubleFault a) := by
  have hlocked : Racked (((s.setArbiter .lockedOut).setQueue []).setGrantTimer none).reexamine :=
    .of_reexamine ⟨h.powered, h.lids⟩ ⟨List.nodup_nil, fun _ => rfl, nofun, nofun⟩ fun _ => rfl
  exact .ite h (hlocked.tellLockedOut.send.congr (State.raise_racking _))

theorem Racked.rackUnlock (h : Racked s) : Racked (rackUnlockReq s).state := by
  unfold rackUnlockReq
  split
  · next hg =>
    refine { powered := h.powered, lids := h.lids, nodup := List.nodup_nil, locked := nofun, staying := nofun,
             timed := fun hrun => ?_, driven := ?_, free := fun _ => rfl }
    · obtain ⟨_, _, _, hg'⟩ := h.timed hrun
      rw [hg] at hg'
      cases hg'
    · exact Driven.of_off fun p => h.driven.off (State.granteePocket_not_granted (.inr hg)) p
  · exact h

end

end Sys2Proof.Machine
end

section
/-! SUPPORT. The zone monitor, the change sequencer and the messages between the blocks keep the laws of the rack: what
they write themselves is not of the rack, and what they say to the rack controller keeps its laws (spec 08; log 5). -/

namespace Sys2Proof.Machine

section
variable {s t : State} {a : Arm} {p : Fin 20} {r : ChangeResult}

/-! ### The zone monitor (spec 09) -/

theorem MonitorOnly.racking_eq (h : MonitorOnly s t) : t.racking = s.racking := (congrArg State.racking h :)

theorem Racked.judgeOne {j : Judgement} (h : Racked s) : Racked (s.judgeOne j) := by
  have hsets : Racked (s.judgedSets j) := h.congr State.judgedSets_monitorOnly.racking_eq
  rw [State.judgeOne_eq]
  exact .ite (.ite hsets.rackEntry (.ite hsets.rackExit hsets)) hsets

theorem Racked.judge {named : ZoneSet} {claims : Bool} (h : Racked s) : Racked (s.judge a named claims) :=
  State.judge_keeps (fun h _ => h.judgeOne) h

theorem Racked.takeGrantee {g : Option Arm} (h : Racked s) : Racked (s.takeGrantee g) := by
  have hnamed : Racked { s with zones := { s.zones with grantee := g } } := h.congr rfl
  exact State.takeGrantee_keeps (fun h _ => h.judgeOne) hnamed fun _ _ => hnamed.rackEntry

theorem Racked.judgeZone {z : Fin 16} (h : Racked s) : Racked (s.judgeZone z) := .ite h.judge.judge h

theorem Racked.form (h : Racked s) : Racked (s.form a) := by
  cases hdue : s.comp.formationDue.get a with
  | nil =>
    rw [State.form, hdue]
    exact h
  | cons cause later =>
    cases hr : s.referenced a with
    | false =>
      rw [State.form_blind hdue hr]
      exact h.congr rfl
    | true =>
      rw [State.form_referenced hdue hr rfl]
      have hjudged (q : CheckPoints) : Racked (s.judgedFormation a later q) :=
        Racked.judge (s := s.holding a later q) (h.congr rfl)
      have hhanded (u : State) (q : Point) : (u.handOn a q).racking = u.racking := rfl
      exact (hjudged _).congr (hhanded ..)

/-! ### What the change sequencer says to the rack controller (R117, R130, R146) -/

theorem Racked.sendReport {pocket : Option (Fin 20)} {suppressed stow : Bool} (h : Racked s) :
    Racked (s.sendReport a pocket suppressed stow) :=
  Racked.takeReport (s := s.setChange a { s.change a with current := pocket }) (h.congr rfl)

theorem Racked.enterStage {st : ChangeState} {timer : Timer} (h : Racked s) : Racked (s.enterStage a st timer) :=
  h.congr rfl

theorem Racked.setChange {c : Change} (h : Racked s) : Racked (s.setChange a c) := h.congr rfl

theorem Racked.closeAt (e : s.closeAt a p = some t) (h : Racked s) : Racked t := by
  have hclosed : Racked (s.closeLid p).2 := h.closeLid
  unfold State.closeAt at e
  split at e <;> rename_i he <;> rw [he] at hclosed <;> cases e
  · exact hclosed.congr State.dropOpened_racking
  · exact hclosed

theorem Racked.closeAll {lids : List (Fin 20)} (h : Racked s) : Racked (s.closeAll a lids).1 := by
  unfold State.closeAll
  generalize false = jammed
  induction lids generalizing s jammed with
  | nil => exact h
  | cons p l ih =>
    rw [List.foldl_cons]
    dsimp only
    split
    · exact ih (h.congr State.dropOpened_racking) true
    · rename_i ht
      exact ih (h.closeAt ht) jammed

/-! ### The end of a change, faults and reconciliation (R151 to R158) -/

theorem Racked.finishChange (h : Racked s) : Racked (s.finishChange a r) :=
  (h.setChange.sendReport.rackChangeEnded.setChange).congr (State.raise_racking _)

theorem Racked.endChange (h : Racked s) : Racked (s.endChange a r) := .ite h.finishChange.setChange h.finishChange

theorem Racked.faultChange (h : Racked s) : Racked (s.faultChange a r) := by
  have hresult (c : Change) : Racked ((s.setChange a c).abandonRead a) := h.congr rfl
  exact (hresult _).sendReport.enterStage

theorem Racked.resolveTransit {tip : Option (Fin 64)} (h : Racked s) : Racked (s.resolveTransit a tip) := by
  unfold State.resolveTransit
  split
  · exact h.congr (State.transitResolved_racking _)
  · exact h

theorem Racked.resolveAndEnd (h : Racked s) : Racked (s.resolveAndEnd a) :=
  h.resolveTransit.resolveTransit.sendReport.endChange

theorem Racked.identifyHead (h : Racked s) : Racked (s.identifyHead a) :=
  .ite (h.congr rfl) (Racked.resolveAndEnd (h.congr (by simp)))

theorem Racked.changeDoubleFault (h : Racked s) : Racked (s.changeDoubleFault a) :=
  h.setChange.doubleFault.identifyHead

/-! ### Acceptance (R139 to R142) -/

theorem Racked.enterFetchApproach (h : Racked s) : Racked (s.enterFetchApproach a) :=
  Racked.enterStage (.ite h h.sendReport)

theorem Racked.takeGrant (h : Racked s) : Racked (s.takeGrant a) :=
  .ite (.ite h.sendReport.enterStage h.enterFetchApproach) h

theorem Racked.acceptChange {q : ChangeRequest} (h : Racked s) : Racked (s.acceptChange a q) := by
  have hbegun (c : Change) : Racked ((s.setChange a c).disarm a) := h.congr rfl
  have hasked := (hbegun ((s.change a).accepted q (s.mountedTip a))).rackRequest (a := a)
  simp only [State.acceptChange]
  split <;> rename_i e <;> rw [e] at hasked
  · exact hasked.takeGrant
  · exact hasked
  · exact hasked.endChange

theorem Racked.completeAtOnce (h : Racked s) : Racked (s.completeAtOnce a) :=
  h.setChange.congr (State.raise_racking _)

theorem Racked.completeChange (h : Racked s) : Racked (s.completeChange a) := by
  have hdone : Racked (s.finishChange a .completed) := h.finishChange
  simp only [State.completeChange, State.startStaged]
  split
  · exact hdone
  · split
    · exact hdone.setChange
    · exact hdone.setChange.completeAtOnce
    · exact hdone.setChange.acceptChange

/-! ### The stages (R143 to R150, R154) -/

theorem Racked.openAt {next : ChangeState} (h : Racked s) : Racked (s.openAt a p next) := by
  have hopened : Racked ((s.stopTimer a).openLid a p).2 := Racked.openLid (s := s.stopTimer a) (h.congr rfl)
  unfold State.openAt
  split <;> rename_i e <;> rw [e] at hopened
  · exact hopened.faultChange
  · exact hopened.faultChange
  · exact hopened.setChange.enterStage

theorem Racked.beginStow (h : Racked s) : Racked (s.beginStow a p) := by
  unfold State.beginStow
  split
  · exact h.faultChange
  · next i _ =>
    have hbegun : Racked (s.stowReleaseBegins a i).state := h.congr State.stowReleaseBegins_racking
    exact .ite hbegun.sendReport.enterStage hbegun.faultChange

theorem Racked.completeStow (h : Racked s) : Racked (s.completeStow a p) := by
  unfold State.completeStow
  split
  · exact h.faultChange
  · next i _ =>
    have hmoved : Racked ((s.stopTimer a).stowTransferComplete a i).state := h.congr (by simp)
    have hpending (c : Change) : Racked
        ((((s.stopTimer a).stowTransferComplete a i).state.sendReport a (some p) false false).setChange a c) :=
      hmoved.sendReport.setChange
    exact .ite (.ite (hpending _).enterFetchApproach (hpending _).enterStage) hmoved.faultChange

theorem Racked.beginPick (h : Racked s) : Racked (s.beginPick a p) := by
  unfold State.beginPick
  split
  · exact h.faultChange
  · next i _ =>
    have hbegun : Racked (s.pickBegins a i).state := h.congr State.pickBegins_racking
    exact .ite hbegun.sendReport.enterStage hbegun.faultChange

theorem Racked.beginIdentify (h : Racked s) : Racked (s.beginIdentify a) := h.congr rfl

theorem Racked.closeStowLid (h : Racked s) : Racked (s.closeStowLid a p) := by
  unfold State.closeStowLid
  split
  · exact Racked.faultChange (h.congr State.dropOpened_racking)
  · next e => exact (h.setChange.closeAt e).sendReport.send

theorem Racked.clearStage (h : Racked s) : Racked (s.clearStage a p) := by
  unfold State.clearStage
  split
  · refine .ite ?_ h
    dsimp only
    split
    · exact Racked.faultChange (h.setChange.congr State.dropOpened_racking)
    · next e => exact (h.setChange.closeAt e).send
  · exact .ite h.completeChange h

theorem Racked.makeRackSafe (h : Racked s) : Racked (s.makeRackSafe a) := by
  simp only [State.makeRackSafe]
  split
  · exact .ite (.ite h.setChange.closeAll.changeDoubleFault h.setChange.closeAll.send) h
  · exact .ite h.identifyHead h
  · exact h

theorem Racked.advance (h : Racked s) : Racked (s.advance a) := by
  unfold State.advance
  dsimp only
  split
  case h_1 => exact h.makeRackSafe
  case h_2 => exact .ite h.openAt h
  case h_3 => exact .ite h.faultChange (.ite h.beginStow h)
  case h_4 => exact .ite h.faultChange (.ite h.completeStow h)
  case h_5 => exact h.clearStage
  case h_6 => exact .ite (.ite h.closeStowLid h) (.ite h.openAt h)
  case h_7 => exact .ite h.faultChange (.ite h.beginPick h)
  case h_8 => exact .ite h.faultChange (.ite h.beginIdentify h)
  case h_9 => exact h.clearStage
  case h_10 => exact h

/-! ### News from other blocks (R144 to R151) -/

theorem Racked.lidNews (h : Racked s) : Racked (s.lidNews a p) := by
  have hdrop : Racked (s.dropOpened a p) := h.congr State.dropOpened_racking
  refine .ite ?_ h
  split
  · exact hdrop.send
  · exact h.send
  · exact .ite hdrop.faultChange (.ite hdrop.changeDoubleFault hdrop)
  · exact h

theorem Racked.occupancyNews (h : Racked s) : Racked (s.occupancyNews a p) := by
  have hfault : Racked (s.pocketFault a) := .ite h.endChange h.faultChange
  simp only [State.occupancyNews]
  split
  case h_1 | h_2 | h_3 | h_4 | h_5 => exact .ite hfault h
  case h_6 | h_7 => exact h.send
  case h_8 => exact h

theorem Racked.takeLapse (h : Racked s) : Racked (s.takeLapse a) := .ite h.faultChange h

theorem Racked.takeLockout (h : Racked s) : Racked (s.takeLockout a) := .ite h.endChange (.ite h.faultChange h)

theorem Racked.stepExpiry (h : Racked s) : Racked (s.stepExpiry a) := by
  have hstopped : Racked (s.stopTimer a) := h.congr rfl
  exact .ite (.ite hstopped.changeDoubleFault (.ite hstopped.faultChange hstopped)) h

/-- A message between blocks keeps the laws. -/
theorem Racked.takeMessage (h : Racked s) (m : Message) : Racked (s.takeMessage m) := by
  cases m with
  | granted a => exact h.takeGrant
  | lapsed a => exact h.takeLapse
  | lockedOut a => exact h.takeLockout
  | grantee g => exact h.takeGrantee
  | lidChanged p => exact h.lidNews.lidNews
  | occupancyChanged p => exact h.occupancyNews.occupancyNews
  | testStage a => exact h.advance

theorem Racked.settle (h : Racked s) : Racked s.settle :=
  State.settle_keeps (fun _ _ h => h.congr rfl) (fun _ m h => h.takeMessage m) s h

/-! ### The head and the identity reader (R136, R137, R149, R158) -/

@[simp] theorem State.headEvent_racking : (s.headEvent a).racking = s.racking := by
  unfold State.headEvent
  cases (s.head a).modulePresent <;> cases (s.head a).state
  case false.tip => simp
  all_goals rfl

theorem Racked.headEvent (h : Racked s) : Racked (s.headEvent a) := h.congr State.headEvent_racking

theorem Racked.moduleChanged (h : Racked s) : Racked (s.moduleChanged a) := by
  simp only [State.moduleChanged]
  split
  case h_1 => exact h.headEvent
  case h_2 => exact .ite h.endChange.headEvent (.ite h.endChange.headEvent h)
  case h_3 | h_4 | h_5 | h_6 => exact .ite h h.faultChange
  case h_7 | h_8 => exact h.send
  case h_9 | h_10 | h_11 => exact .ite h.faultChange h
  case h_12 => exact .ite (Racked.resolveAndEnd (h.congr (by simp))) h

theorem Racked.moduleDebounced (h : Racked s) : Racked (s.moduleDebounced a) := by
  have hlevel (v : Head) : Racked (s.setHead a v) := h.congr rfl
  exact .ite h (hlevel _).moduleChanged

theorem Racked.identityRead {id : Word} (h : Racked s) : Racked (s.identityRead a id) := by
  unfold State.identityRead
  split
  · exact h.faultChange
  · next i _ =>
    have hmatched : Racked (s.identityMatched a i).state := h.congr State.identityMatched_racking
    exact .ite (.ite hmatched.sendReport.enterStage hmatched.faultChange) h.faultChange

theorem Racked.readEnds {id : Option Word} (h : Racked s) : Racked (s.readEnds a id) := by
  have hread : Racked (s.abandonRead a) := h.congr rfl
  have hreport : Racked ((s.abandonRead a).identityReport a id).state :=
    hread.congr (State.identityReport_racking _)
  simp only [State.readEnds]
  split
  · split
    · exact hread.identityRead
    · exact hread.faultChange
  · exact hreport.resolveAndEnd
  · exact hreport

theorem Racked.attemptFails {n : Nat} (h : Racked s) : Racked (s.attemptFails a n) := .ite (h.congr rfl) h.readEnds

theorem Racked.identityAnswer {id : Word} {correct : Bool} (h : Racked s) :
    Racked (s.identityAnswer a id correct) := by
  unfold State.identityAnswer
  split
  · exact h
  · exact .ite h.readEnds h.attemptFails

theorem Racked.attemptTimeout (h : Racked s) : Racked (s.attemptTimeout a) := by
  unfold State.attemptTimeout
  split
  · exact h
  · exact h.attemptFails

end

end Sys2Proof.Machine
end

section
/-! PROOF. Every command keeps the laws of the rack (O46). -/

namespace Sys2Proof.Machine

section
variable {s t : State} {a : Arm}

/-! ### The requests that reach the rack, the zones and the changes -/

theorem Racked.pocketWrite {pocket state g0 g1 : Byte} {box0 box1 : Axes Bounds} (h : Racked s) :
    Racked (pocketWriteReq pocket state g0 box0 g1 box1 s).state := by
  unfold pocketWriteReq
  split
  · split
    · unfold pocketWriteBody
      split
      · exact h
      · split
        · exact h
        · split
          · exact h
          · exact h.writePocket
    · exact h
  · exact h

theorem Racked.zoneWrite {zone kind arm : Byte} {box : Axes Bounds} {margin : Word} (h : Racked s) :
    Racked (zoneWriteReq zone kind arm box margin s).state := by
  unfold zoneWriteReq
  split
  · split
    · exact h
    · split
      · exact h
      · exact Racked.judgeZone (h.congr rfl)
  · exact h

theorem Racked.zoneResume {zone : Byte} (h : Racked s) : Racked (zoneResumeReq zone s).state := by
  have hzone (z : Fin 16) (r : Option Zone) : Racked (s.setZone z r) := h.congr rfl
  unfold zoneResumeReq
  split
  · unfold zoneResumeBody
    split
    · exact h
    · split
      · exact (hzone _ _).judgeZone
      · exact h
  · exact h

theorem Racked.holdRelease {arm : Byte} (h : Racked s) : Racked (holdReleaseReq arm s).state := by
  unfold holdReleaseReq
  split
  · exact h
  · split
    · exact h
    · unfold holdReleaseBody
      split
      · exact h
      · rw [accept_state]
        exact Racked.judge (h.congr rfl)

theorem Racked.change {arm target allow : Byte} (h : Racked s) : Racked (changeReq arm target allow s).state := by
  unfold changeReq
  split
  · split
    · exact h
    · split
      · unfold stageChange
        split
        · exact h
        · exact h.setChange
      · unfold startChange
        split
        · exact h
        · exact h.completeAtOnce
        · exact h.acceptChange
  · exact h

theorem Racked.changeAbort {arm : Byte} (h : Racked s) : Racked (changeAbortReq arm s).state := by
  unfold changeAbortReq
  split
  · exact h
  · split
    · exact h
    · unfold changeAbortBody
      split
      · exact h
      · rw [accept_state]
        exact h.endChange
      · exact h
      · rw [accept_state]
        exact h.faultChange

/-! ### RESTART (R134) -/

/-- Every lid is CLOSED or JAMMED, and a pocket whose lid becomes JAMMED is not left ENABLED. -/
theorem Pocket.restart_lawful {r : Pocket} (h : r.lid = .jammed → r.state ≠ .enabled) : r.restart.lidPart.Lawful := by
  have hlid : r.restartLid = .closed ∨ r.restartLid = .jammed := by
    unfold Pocket.restartLid lidFrom
    split
    · exact .inr rfl
    · cases r.senseInput <;> simp
  refine ⟨?_, ?_, fun hjam => ?_⟩
  · rcases hlid with e | e <;> simp [Pocket.restart, Pocket.lidPart, e]
  · rcases hlid with e | e <;> simp [Pocket.restart, Pocket.lidPart, e]
  · have hjam' : r.restartLid = .jammed := hjam
    simp only [Pocket.restart, Pocket.lidPart, hjam']
    split
    · nofun
    · next hkept =>
      intro hst
      by_cases hwas : r.lid = .jammed
      · exact h hwas hst
      · exact hkept ⟨hwas, trivial, hst⟩

theorem State.restartBlocks_pocket (p : Fin 20) : s.restartBlocks.pocket p = (s.pocket p).restart :=
  Vector.getElem_map ..

theorem Racked.restartBlocks (h : Racked s) : Racked s.restartBlocks where
  powered := h.powered
  lids p := by
    obtain ⟨-, -, hjam⟩ := h.lids p
    rw [State.restartBlocks_pocket]
    exact Pocket.restart_lawful hjam
  nodup := List.nodup_nil
  locked := nofun
  staying := nofun
  timed := nofun
  driven := Driven.of_off fun p => by rw [State.restartBlocks_pocket, Pocket.restart]
  free _ := rfl

/-! ### Every request (R198) -/

theorem Racked.requestBody {c : Instr} {body : State → Reply} (hb : requestBody c = some body) (h : Racked s) :
    Racked (body s).state := by
  cases c <;> cases hb
  case restart => exact h.restartBlocks
  case pocketWrite => exact h.pocketWrite
  case rackUnlock => exact h.rackUnlock
  case zoneWrite => exact h.zoneWrite
  case zoneResume => exact h.zoneResume
  case holdRelease => exact h.holdRelease
  case change => exact h.change
  case changeAbort => exact h.changeAbort
  case identify | scanRead | groupRead | compRead | rackRead => exact h
  all_goals exact h.congr (by simp)

theorem Racked.request {c : Instr} {body : State → Reply} (hb : Machine.requestBody c = some body)
    (h : Racked s) : Racked (s.request c body) := by
  rcases s.request_cases c body with ⟨-, e⟩ | ⟨-, -, e⟩ | ⟨-, -, -, e⟩ | ⟨-, e⟩ <;> rw [e]
  · exact h
  · exact h.congr rfl
  · exact h.congr rfl
  · exact (h.requestBody hb).congr rfl

theorem Racked.lateFrame {bytes : List Byte} (h : Racked s) : Racked (s.lateFrame bytes) := by
  have htake {u : State} (hu : Racked u) (code : Byte) (payload : List Byte) :
      Racked (u.takeExecuting code payload) := by
    rcases u.takeExecuting_cases code payload with e | ⟨_, _, -, hb, l, e⟩ <;> rw [e]
    · exact hu
    · exact Racked.settle ((hu.requestBody hb).congr (State.setLink_racking _))
  unfold State.lateFrame
  split
  · rename_i code _ _ _
    obtain ⟨l, hl⟩ := s.judgeLate_frame code bytes
    obtain ⟨t, ht, hp⟩ := (s.judgeLate code bytes).progress_cases
    have hj : Racked (s.judgeLate code bytes) := hl ▸ h.congr (State.setLink_racking _)
    have hracked : Racked t := by
      rcases ht with rfl | ⟨code, payload, -, rfl⟩
      · exact hj
      · exact htake hj code payload
    obtain ⟨m, e⟩ := t.placeAnswer_frame
    rcases hp with e' | e' <;> rw [e']
    · exact hracked
    · exact e ▸ hracked.congr (State.setLink_racking _)
  · exact h

/-! ### Every command -/

/-- The laws of the rack as the statement gives them, whether the part has power or not. -/
def RackLaws (s : State) : Prop := LidLaw s ∧ ArbiterLaw s

/-- A part without power takes no event; within one that has power the laws stand in their parts. -/
theorem RackLaws.event {f : State → State} (h : RackLaws s) (hf : Racked s → Racked (f s)) : RackLaws (s.event f) := by
  unfold State.event
  split
  · next hp =>
    have hdone := hf ((racked_iff hp).mpr h)
    exact (racked_iff hdone.powered).mp hdone
  · exact h

theorem RackLaws.armEvent {f : State → State} (h : RackLaws s) (hf : Racked s → Racked (f s)) :
    RackLaws (s.armEvent a f) := by
  unfold State.armEvent
  split
  · next hp =>
    have hdone := hf ((racked_iff hp.1).mpr h)
    exact (racked_iff hdone.powered).mp hdone
  · exact h

theorem RackLaws.request {c : Instr} {body : State → Reply} (hb : requestBody c = some body) (h : RackLaws s) :
    RackLaws (s.request c body) := by
  cases hp : s.powered with
  | false =>
    rw [s.request_unpowered c body hp]
    exact h
  | true =>
    have hdone := ((racked_iff hp).mpr h).request hb
    exact (racked_iff hdone.powered).mp hdone

/-- What leaves the racking alone keeps the laws, and so do the messages after it. -/
theorem Racked.settleSame (h : Racked s) (e : t.racking = s.racking) : Racked t.settle := (h.congr e).settle

/-- A loss of power turns the drives off and stops the lid timers (R210). -/
theorem RackLaws.powerDown (h : RackLaws s) : RackLaws s.powerDown := by
  have hpocket (p : Fin 20) : s.powerDown.pocket p = (s.pocket p).unpowered := Vector.getElem_map ..
  refine ⟨fun p => ?_, h.2⟩
  obtain ⟨-, -, -, -, hjam⟩ := h.1 p
  rw [hpocket]
  exact ⟨nofun, nofun, nofun, nofun, hjam⟩

/-- A millisecond lets timers run and neither starts nor stops one (log 8). -/
theorem RackLaws.tick (h : RackLaws s) : RackLaws s.tick := by
  have hrun (x : Timer) : (tickTimer x).isSome = x.isSome := Option.isSome_map
  have htimers : RackLaws s.tickTimers := by
    cases hf : s.frz with
    | true =>
      rw [State.tickTimers, if_pos hf]
      exact h
    | false =>
      obtain ⟨hlid, hnodup, hidle, hstaying, htimed⟩ := h
      have hpocket (p : Fin 20) : s.tickTimers.pocket p = { s.pocket p with timer := tickTimer (s.pocket p).timer } := by
        rw [State.tickTimers, if_neg (by simp [hf])]
        exact Vector.getElem_map ..
      rw [RackLaws, LidLaw]
      simp only [hpocket, hrun]
      rw [State.tickTimers, if_neg (by simp [hf])]
      exact ⟨hlid, hnodup, hidle, hstaying, fun hg => htimed ((hrun _).symm.trans hg)⟩
  unfold State.tick
  split
  · exact htimers
  · exact h

theorem exec_keepsRackLaws (c : Instr) (h : RackLaws s) (e : exec c s = .next t) : RackLaws t := by
  cases c <;> cases e
  case startUp => exact ⟨State.startUp_lidLaw _ _, State.startUp_arbiterLaw _ _⟩
  case powerOn => exact h.powerDown
  case badFrame | unknownRequestCode =>
    exact h.event fun h => .ite (.ite (h.congr rfl) (h.congr rfl)) h
  case discardedRequest => exact h.event fun h => h.lateFrame
  case collect n =>
    obtain ⟨l, e⟩ := s.collect_frame n
    exact h.event fun h => e ▸ h.congr (State.setLink_racking _)
  case restart => exact h.event fun h => .ite (h.congr rfl) (.ite (h.congr rfl) (h.restartBlocks.congr rfl))
  case attnFlags | attnConfig =>
    split
    · exact .request rfl h
    · exact h.event fun h => .ite (.ite (h.congr rfl) (h.congr rfl)) h
  case pocketWrite | change | changeAbort | zoneWrite | zoneResume | holdRelease =>
    exact h.event fun h => (h.request rfl).settle
  case checkPointFormation => exact h.armEvent fun h => h.form.settle
  case granteeNotice => exact h.event fun h => Racked.settle (.ite h.takeGrantee h)
  case grantedMessage => exact h.armEvent fun h => h.takeGrant.settle
  case lapsedMessage => exact h.armEvent fun h => h.takeLapse.settle
  case lockedOutMessage => exact h.armEvent fun h => h.takeLockout.settle
  case stepTimerExpiry => exact h.armEvent fun h => h.stepExpiry.settle
  case modulePresentChange => exact h.armEvent fun h => h.moduleDebounced.settle
  case identityReply => exact h.armEvent fun h => h.identityAnswer.settle
  case identityAttemptTimeout => exact h.armEvent fun h => h.attemptTimeout.settle
  case openCommand => exact h.armEvent fun h => h.openLid.settleSame (State.setAnswer_racking _)
  case closeCommand => exact h.armEvent fun h => h.closeLid.settleSame (State.setAnswer_racking _)
  case changePocketReport => exact h.armEvent fun h => h.takeReport.settle
  case rackRequest => exact h.armEvent fun h => h.rackRequest.settleSame (State.setAnswer_racking _)
  case entryReport => exact h.armEvent fun h => h.rackEntry
  case exitReport => exact h.armEvent fun h => h.rackExit.settle
  case changeEndedReport => exact h.armEvent fun h => h.rackChangeEnded.settle
  case doubleFaultReport => exact h.armEvent fun h => h.doubleFault.settle
  case grantTimerExpiry => exact h.event fun h => h.grantExpiry.settle
  case lidSenseChange => exact h.event fun h => h.senseChange.settle
  case lidTimerExpiry => exact h.event fun h => h.lidExpiry.settle
  case observedOccupancyChange | restartComparison => exact h.event fun h => h.settleSame (by simp)
  case quadraturePhase | referenceMark | triggerLeadingEdge | triggerRelease | qualificationTimeEnd | touchComputation |
      pointRecordReturn | holdCauseAddition => exact h.armEvent fun h => h.congr (by simp)
  case modulePresentEdge => exact h.armEvent fun h => h.congr rfl
  case stowReleaseBegins | stowTransferComplete | pickBegins | identityMatched | transitResolved | identityReport |
      moduleLost => exact h.armEvent fun h => h.congr (by simp [State.answered])
  case transactionEnd | replyTimeout | scanTimerExpiry | frzInactive | holdAgeTick | groupStale |
      restartTransactionLimitEnd | raiseReport | pocketInputEdge | registrationClaim =>
    exact h.event fun h => h.congr (by simp)
  case frzActive => exact h.event fun h => h.congr rfl
  case homePocketSeenEmpty | homePocketSeenOccupied =>
    exact h.event fun h => .ite h (h.congr (by simp [State.answered]))
  all_goals exact .request rfl h

end

/-- Settles O46: every command keeps the laws of the rack, and so does a millisecond on an empty queue. -/
theorem rackLawsAreKept : Obligations.RackLawsAreKept := by
  intro s t hlid harb e
  unfold step at e
  split at e
  · cases e
    exact RackLaws.tick ⟨hlid, harb⟩
  · rename_i rest _
    have hrest : RackLaws { s with pending := rest } := ⟨hlid, harb⟩
    exact exec_keepsRackLaws _ hrest e

end Sys2Proof.Machine
end

section
/-! SUPPORT. Messages that no block acts on: a part that stands still takes them and keeps but the grantee they name (log 5). -/

namespace Sys2Proof.Machine

/-- The grantee the zone monitor holds after a message (spec 09, R168). -/
def Message.notice (g : Option Arm) : Message → Option Arm
  | .grantee h => h
  | _ => g

/-- No block acts on the message, but that the zone monitor keeps the grantee it names. -/
def State.Ignores (s : State) : Message → Prop
  | .granted a => (s.change a).state ≠ .waitingRack
  | .lapsed a => (s.change a).state.afterGrant = false
  | .lockedOut a => (s.change a).state ≠ .waitingRack ∧ (s.change a).state.afterGrant = false
  | .grantee _ => ∀ a, s.insideRack a = false
  | .lidChanged p => ∀ a, p ∉ (s.change a).opened
  | .occupancyChanged _ => ∀ a, (s.change a).state = .idle
  | .testStage a => s.Rests a

/-- The part after messages that it ignores, with those of `rest` still to be taken. -/
def State.noticing (s : State) (l rest : List Message) : State :=
  { s with zones := { s.zones with grantee := l.foldl Message.notice s.zones.grantee }, mail := rest }

section
variable {s t : State} {a : Arm} {m : Message} {l rest : List Message}

/-! ### One message -/

theorem State.insideRack_congr (htable : t.zones.table = s.zones.table) (hhold : t.zones.hold = s.zones.hold)
    (hone : t.oneArm = s.oneArm) : t.insideRack a = s.insideRack a := by
  have hzone : t.rackZone = s.rackZone := by
    unfold State.rackZone
    congr 1
    funext z
    rw [State.zoneIsRack, State.zoneIsRack, State.zone, State.zone, htable]
  have hpresent : t.present a = s.present a := by cases a <;> simp [State.present, hone]
  rw [State.insideRack, State.insideRack, hzone, hpresent, hhold]

theorem State.insideRack_false (h : ∀ z : Fin 16, s.zoneIsRack z = true → (s.zones.hold.get a).inside[z] = false) :
    s.insideRack a = false := by
  unfold State.insideRack
  cases hz : s.rackZone with
  | none => rfl
  | some z =>
    have hout : (s.zones.hold.get a).inside[z] = false := h z (List.find?_some hz)
    rw [Option.any_some, hout, Bool.and_false]

theorem State.judgeAtRack_outside (h : s.insideRack a = false) : s.judgeAtRack a = s := by
  unfold State.judgeAtRack
  split
  · rw [if_neg (by simp [h])]
  · rfl

/-- With no arm in the RACK zone the grantee is noted and no arm is judged (R168). -/
theorem State.takeGrantee_outside (h : ∀ a, s.insideRack a = false) (g : Option Arm) :
    s.takeGrantee g = { s with zones := { s.zones with grantee := g } } := by
  have hin (a : Arm) : State.insideRack { s with zones := { s.zones with grantee := g } } a = false :=
    (State.insideRack_congr rfl rfl rfl).trans (h a)
  unfold State.takeGrantee
  dsimp only
  cases g with
  | none => rw [State.judgeAtRack_outside (hin _), State.judgeAtRack_outside (hin _)]
  | some b =>
    dsimp only
    rw [if_neg (by simp [hin]), State.judgeAtRack_outside (hin _), State.judgeAtRack_outside (hin _)]

theorem State.lidNews_unopened {p : Fin 20} (h : p ∉ (s.change a).opened) : s.lidNews a p = s := by
  simp [State.lidNews, h]

theorem State.occupancyNews_idle {p : Fin 20} (h : (s.change a).state = .idle) : s.occupancyNews a p = s := by
  rw [State.occupancyNews, h]

theorem State.takeMessage_ignored (h : s.Ignores m) :
    s.takeMessage m = { s with zones := { s.zones with grantee := m.notice s.zones.grantee } } := by
  cases m with
  | granted a => exact if_neg h
  | lapsed a => exact if_neg (Bool.eq_false_iff.mp h)
  | lockedOut a => exact (if_neg h.1).trans (if_neg (Bool.eq_false_iff.mp h.2))
  | grantee g => exact State.takeGrantee_outside h g
  | lidChanged p =>
    rw [State.takeMessage, State.tellBoth, State.lidNews_unopened (h .zero), State.lidNews_unopened (h .one)]
    rfl
  | occupancyChanged p =>
    rw [State.takeMessage, State.tellBoth, State.occupancyNews_idle (h .zero), State.occupancyNews_idle (h .one)]
    rfl
  | testStage a => exact State.advance_of_rests h

/-! ### Several messages -/

theorem State.Ignores.congr (h : s.Ignores m) (hseq : t.sequencer = s.sequencer) (hrack : t.rack = s.rack)
    (htable : t.zones.table = s.zones.table) (hhold : t.zones.hold = s.zones.hold) (hone : t.oneArm = s.oneArm) :
    t.Ignores m := by
  have hchange (a : Arm) : t.change a = s.change a := by rw [State.change, hseq, State.change]
  cases m with
  | granted a | lapsed a | lockedOut a | lidChanged p | occupancyChanged p =>
    simpa only [State.Ignores, hchange] using h
  | grantee g => exact fun a => (State.insideRack_congr htable hhold hone).trans (h a)
  | testStage a => exact State.Rests.congr h hseq hrack

/-- Messages that the part ignores are taken one after the other. -/
theorem State.settleN_ignored (n : Nat) (hm : s.mail = l ++ rest) (hl : ∀ m ∈ l, s.Ignores m) :
    s.settleN (n + l.length) = (s.noticing l rest).settleN n := by
  induction l generalizing s with
  | nil =>
    rw [List.nil_append] at hm
    subst hm
    rfl
  | cons m l ih =>
    have hfirst : State.Ignores { s with mail := l ++ rest } m := (hl m List.mem_cons_self).congr rfl rfl rfl rfl rfl
    rw [List.length_cons, ← Nat.add_assoc, State.settleN_cons _ hm]
    refine (congrArg (State.settleN _) (State.takeMessage_ignored hfirst)).trans ?_
    exact ih rfl fun k hk => (hl k (List.mem_cons_of_mem _ hk)).congr rfl rfl rfl rfl rfl

/-- A part that ignores every message that waits has settled when it has taken them. -/
theorem State.settleN_all_ignored {n : Nat} (hlen : s.mail.length ≤ n) (h : ∀ m ∈ s.mail, s.Ignores m) :
    s.settleN n = s.noticing s.mail [] := by
  obtain ⟨k, rfl⟩ := Nat.exists_eq_add_of_le' hlen
  rw [State.settleN_ignored k (List.append_nil _).symm h]
  exact State.settleN_of_quiet _ _ rfl

theorem State.settle_ignored (hlen : s.mail.length ≤ settleBound) (h : ∀ m ∈ s.mail, s.Ignores m) :
    s.settle = s.noticing s.mail [] := State.settleN_all_ignored hlen h

/-! ### A part that stands still -/

/-- No change is in progress or has a lid open, and no arm is in the RACK zone. -/
def State.Still (s : State) : Prop :=
  (∀ a, (s.change a).state = .idle ∧ (s.change a).opened = []) ∧ ∀ a, s.insideRack a = false

theorem State.calm.still (h : s.calm) : s.Still := by
  obtain ⟨-, hidle, -, hout⟩ := h
  exact ⟨hidle, fun a => State.insideRack_false (hout a)⟩

theorem State.Still.congr (h : s.Still) (hseq : t.sequencer = s.sequencer) (hzones : t.zones = s.zones)
    (hone : t.oneArm = s.oneArm) : t.Still := by
  have hchange (a : Arm) : t.change a = s.change a := by rw [State.change, hseq, State.change]
  refine ⟨fun a => hchange a ▸ h.1 a, fun a => ?_⟩
  rw [State.insideRack_congr (by rw [hzones]) (by rw [hzones]) hone]
  exact h.2 a

theorem State.Still.ignores (h : s.Still) (m : Message) : s.Ignores m := by
  obtain ⟨hidle, hout⟩ := h
  cases m with
  | granted a | lapsed a | lockedOut a => simp [State.Ignores, hidle, ChangeState.afterGrant]
  | grantee g => exact hout
  | lidChanged p => exact fun a => by simp [hidle]
  | occupancyChanged p => exact fun a => (hidle a).1
  | testStage a => exact .inl (hidle a).1

theorem State.Still.settle (h : s.Still) (hlen : s.mail.length ≤ settleBound) : s.settle = s.noticing s.mail [] :=
  State.settle_ignored hlen fun m _ => h.ignores m

end

end Sys2Proof.Machine
end

section
/-! SUPPORT. The rules of the arbiter, one for each row of its tables (spec 07, R128 to R131). -/

namespace Sys2Proof.Machine

section
variable {s : State} {a b : Arm} {rest : List Arm} {acknowledged inside ended : Bool}

/-! ### The grant test (R128) -/

theorem State.grantTest_not_free (h : s.rack.arbiter ≠ .free) : s.grantTest = s := by
  rcases s.grantTest_cases with ⟨e, -⟩ | ⟨_, _, hfree, -⟩
  · exact e
  · exact absurd hfree h

theorem State.grantTest_empty (h : s.rack.queue = []) : s.grantTest = s := by
  rcases s.grantTest_cases with ⟨e, -⟩ | ⟨_, _, -, hq, -⟩
  · exact e
  · rw [h] at hq
    cases hq

/-- A FREE rack is granted to the head of the queue. -/
theorem State.grantTest_grants (h : s.rack.arbiter = .free) (hq : s.rack.queue = b :: rest) : s.grantTest =
    { s with
      rack := { s.rack with
        arbiter := .granted b false false false, queue := rest, grantTimer := some s.rack.grantTimeout }
      mail := s.mail ++ [.granted b, .grantee (some b)] } := by
  simp [State.grantTest, h, hq, State.setArbiter, State.setQueue, State.setGrantTimer, State.send]

/-! ### A rack request (R128) -/

theorem State.rackRequest_locked (h : s.rack.arbiter = .lockedOut) : s.rackRequest a = (.lockedOut, s) := by
  simp [State.rackRequest, h]

theorem State.rackRequest_free (h : s.rack.arbiter = .free) (hq : s.rack.queue = []) :
    s.rackRequest a = (.granted, { s with
      rack := { s.rack with
        arbiter := .granted a false false false, queue := [], grantTimer := some s.rack.grantTimeout }
      mail := s.mail ++ [.granted a, .grantee (some a)] }) := by
  have hgrants := State.grantTest_grants (s := s.setQueue [a]) (b := a) (rest := []) h rfl
  simp [State.rackRequest, h, hq, hgrants, State.grantedTo]

theorem State.rackRequest_refused (h : s.rack.arbiter = .granted b acknowledged inside ended)
    (hr : a ∈ s.rack.queue ∨ b = a ∧ ended = false) : s.rackRequest a = (.refused, s) := by
  by_cases hq : a ∈ s.rack.queue
  · simp [State.rackRequest, h, hq]
  · obtain ⟨rfl, rfl⟩ := hr.resolve_left hq
    simp [State.rackRequest, h]

/-- The grantee whose change has ended asks again, and no arm waits. -/
theorem State.rackRequest_continues (h : s.rack.arbiter = .granted a acknowledged inside true)
    (hq : s.rack.queue = []) :
    s.rackRequest a = (.granted, s.setArbiter (.granted a acknowledged inside false)) := by
  simp [State.rackRequest, h, hq]

theorem State.rackRequest_queues (h : s.rack.arbiter = .granted b acknowledged inside ended) (hq : a ∉ s.rack.queue)
    (hb : b = a → ended = true ∧ s.rack.queue ≠ []) :
    s.rackRequest a = (.queued, s.setQueue (s.rack.queue ++ [a])) := by
  have hstays : (s.setQueue (s.rack.queue ++ [a])).grantTest = s.setQueue (s.rack.queue ++ [a]) :=
    State.grantTest_not_free (by simp [h])
  by_cases hba : b = a
  · obtain ⟨rfl, hne⟩ := hb hba
    simp [State.rackRequest, h, hq, hba, hne, hstays]
  · simp [State.rackRequest, h, hq, hba, hstays]

/-! ### Entry, exit and the end of a change (R129, R130) -/

/-- A rack that no lid is driven at becomes FREE, and stays so when no arm waits. -/
theorem State.freeRack_empty (hd : ∀ p : Fin 20, (s.pocket p).drive = false) (hq : s.rack.queue = []) : s.freeRack =
    { s with rack := { s.rack with arbiter := .free, grantTimer := none }, mail := s.mail ++ [.grantee none] } := by
  have hstill : ((s.setArbiter .free).setGrantTimer none).reexamine = (s.setArbiter .free).setGrantTimer none :=
    State.reexamine_of_no_drive hd
  rw [State.freeRack, hstill, State.grantTest_empty (by exact hq)]
  rfl

/-- It passes to the head of the queue. -/
theorem State.freeRack_passes (hd : ∀ p : Fin 20, (s.pocket p).drive = false) (hq : s.rack.queue = b :: rest) :
    s.freeRack = { s with
      rack := { s.rack with
        arbiter := .granted b false false false, queue := rest, grantTimer := some s.rack.grantTimeout }
      mail := s.mail ++ [.grantee none, .granted b, .grantee (some b)] } := by
  have hstill : ((s.setArbiter .free).setGrantTimer none).reexamine = (s.setArbiter .free).setGrantTimer none :=
    State.reexamine_of_no_drive hd
  rw [State.freeRack, hstill, State.grantTest_grants (b := b) (rest := rest) rfl (by exact hq)]
  simp [State.send, State.setArbiter, State.setGrantTimer]

theorem State.releaseIfDone_outside (h : s.rack.arbiter = .granted a acknowledged false true) :
    s.releaseIfDone = s.freeRack := by
  rw [State.releaseIfDone, h]

theorem State.releaseIfDone_stands (h : ∀ b x, s.rack.arbiter ≠ .granted b x false true) : s.releaseIfDone = s := by
  unfold State.releaseIfDone
  split
  · next hg => exact absurd hg (h _ _)
  · rfl

theorem State.rackEntry_not_granted (h : s.grantedTo a = false) : s.rackEntry a = s := by
  unfold State.rackEntry
  unfold State.grantedTo at h
  split
  · next hg =>
    rw [hg] at h
    exact if_neg (by simpa using h)
  · rfl

theorem State.rackExit_not_granted (h : s.grantedTo a = false) : s.rackExit a = s := by
  unfold State.rackExit
  unfold State.grantedTo at h
  split
  · next hg =>
    rw [hg] at h
    exact if_neg (by simpa using h)
  · rfl

/-- The exit of a grantee whose change has ended frees the rack. -/
theorem State.rackExit_frees (h : s.rack.arbiter = .granted a acknowledged inside true) : s.rackExit a = s.freeRack := by
  rw [State.rackExit, h]
  exact if_pos rfl

theorem State.rackChangeEnded_queued (h : s.rack.arbiter ≠ .free) (hq : a ∈ s.rack.queue) :
    s.rackChangeEnded a = s.setQueue (s.rack.queue.filter (· ≠ a)) := by
  have hfilter : s.rack.queue.filter (· != a) = s.rack.queue.filter (· ≠ a) :=
    List.filter_congr fun b _ => by cases a <;> cases b <;> rfl
  rw [State.rackChangeEnded, if_pos (by simpa using hq), hfilter]
  exact State.grantTest_not_free h

theorem State.rackChangeEnded_not_granted (h : s.grantedTo a = false) (hq : a ∉ s.rack.queue) :
    s.rackChangeEnded a = s := by
  unfold State.grantedTo at h
  rw [State.rackChangeEnded, if_neg (by simpa using hq)]
  split
  · next hg =>
    rw [hg] at h
    exact if_neg (by simpa using h)
  · rfl

theorem State.rackChangeEnded_grantee (h : s.rack.arbiter = .granted a acknowledged inside ended)
    (hq : a ∉ s.rack.queue) :
    s.rackChangeEnded a = (s.setArbiter (.granted a acknowledged inside true)).releaseIfDone := by
  rw [State.rackChangeEnded, if_neg (by simpa using hq), h]
  exact if_pos rfl

/-! ### Double faults (R131) -/

/-- Each arm is told at most once. -/
theorem State.lockedOutArms_length : (s.lockedOutArms a).length ≤ 2 := by
  have hsub : (s.lockedOutArms a) ⊆ [.zero, .one] := fun b _ => by cases b <;> simp
  exact ((List.nodup_dedup _).subperm hsub).length_le

theorem State.tellLockedOut_eq (arms : List Arm) :
    s.tellLockedOut arms = { s with mail := s.mail ++ arms.map .lockedOut } := by
  unfold State.tellLockedOut
  induction arms generalizing s with
  | nil => simp
  | cons b l ih =>
    rw [List.foldl_cons, ih]
    simp [State.send]

theorem State.doubleFault_undriven (hd : ∀ p : Fin 20, (s.pocket p).drive = false) (hl : s.rack.arbiter ≠ .lockedOut) :
    s.doubleFault a = State.raise { s with
      rack := { s.rack with arbiter := .lockedOut, queue := [], grantTimer := none }
      mail := s.mail ++ ((s.lockedOutArms a).map .lockedOut ++ [.grantee none]) } .rack := by
  have hstill : (((s.setArbiter .lockedOut).setQueue []).setGrantTimer none).reexamine =
      ((s.setArbiter .lockedOut).setQueue []).setGrantTimer none := State.reexamine_of_no_drive hd
  simp only [State.doubleFault, if_neg hl, hstill, State.tellLockedOut_eq]
  simp [State.send, State.setArbiter, State.setQueue, State.setGrantTimer]

end

end Sys2Proof.Machine
end

section
/-! PROOF. The arbiter of a rack that stands calm (O45). -/

namespace Sys2Proof.Machine

section
variable {s : State} {a : Arm}

/-- What the arbiter sends on a rack that stands still is taken, and the zone monitor keeps the last grantee named. -/
theorem State.Still.settle_sent {rack : Rack} {attention : Attention} {l : List Message} {answer : Option Answer}
    (h : s.Still) (hlen : l.length ≤ settleBound) : State.settle { s with rack, attention, mail := l, answer } =
      { s with rack, attention, answer, zones := { s.zones with grantee := l.foldl Message.notice s.zones.grantee }, mail := [] } :=
  State.Still.settle (h.congr rfl rfl rfl) hlen

/-- The rack is freed and passes to the head of the queue, if an arm waits (R128, R130). -/
def State.freed (s : State) : State :=
  match s.rack.queue with
  | [] => { s with rack := { s.rack with arbiter := .free, queue := [], grantTimer := none }
                   zones := { s.zones with grantee := none } }
  | b :: rest => { s with rack := { s.rack with arbiter := .granted b false false false, queue := rest
                                                grantTimer := some s.rack.grantTimeout }
                          zones := { s.zones with grantee := some b } }

/-- The messages sent before the rack is freed do not matter: the last grantee named stands. -/
theorem State.calm.settle_freeRack {l : List Message} (h : s.calm) (hlen : l.length ≤ 8) :
    (State.freeRack { s with mail := l }).settle = s.freed := by
  have hstill := h.still
  obtain ⟨hm, -, hd, -⟩ := h
  have hm : s.mail = [] := hm
  unfold State.freed
  split
  · next hq =>
    rw [State.freeRack_empty (by exact hd) (by exact hq)]
    refine (hstill.settle_sent (attention := s.attention) (answer := s.answer)
      (by simp only [List.length_append, List.length_singleton, settleBound]; omega)).trans ?_
    simp [hq, hm, Message.notice]
  · next b rest hq =>
    rw [State.freeRack_passes (by exact hd) (by exact hq)]
    refine (hstill.settle_sent (attention := s.attention) (answer := s.answer)
      (by simp [settleBound]; omega)).trans ?_
    simp [hm, Message.notice]

/-- What a double fault of a calm rack leaves (R131). -/
theorem State.calm.settle_doubleFault (h : s.calm) (hl : s.rack.arbiter ≠ .lockedOut) : (s.doubleFault a).settle =
    State.raise { s with rack := { s.rack with arbiter := .lockedOut, queue := [], grantTimer := none }
                         zones := { s.zones with grantee := none } } .rack := by
  have hm : s.mail = [] := h.1
  have hlen : ((s.lockedOutArms a).map Message.lockedOut ++ [Message.grantee none]).length ≤ settleBound := by
    have htwo : (s.lockedOutArms a).length ≤ 2 := State.lockedOutArms_length
    simp [settleBound]
    omega
  rw [State.doubleFault_undriven h.2.2.1 hl, hm]
  refine (h.still.settle_sent (attention := (s.raise .rack).attention) (answer := s.answer) hlen).trans ?_
  rw [List.foldl_append]
  rfl

end

/-- Settles O45: each row of the arbiter's tables, and the messages it sends, which nobody acts on in a calm rack. -/
theorem arbiterFollowsItsTables : Obligations.ArbiterFollowsItsTables := by
  intro s a hs hcalm
  have hstill := hcalm.still
  have hm : s.mail = [] := hcalm.1
  intro with_ granted request queue keep freed
  have hfreed {l : List Message} (hlen : l.length ≤ 8) : (State.freeRack { s with mail := l }).settle = freed :=
    hcalm.settle_freeRack hlen
  have hquiet {t : State} (ht : t.mail = []) : t.settle = t := State.settle_of_quiet _ ht
  have hrequest {w : Answer} {t u : State} (e : s.rackRequest a = (w, t)) (ht : (t.setAnswer w).settle = u.setAnswer w) :
      request u w := by
    refine (congrArg Host.Outcome.next (s.armEvent_on a _ hs)).trans ?_
    rw [e, ht]
  have hentry {t : State} (e : s.rackEntry a = t) : exec (.entryReport a) s = .next t :=
    (congrArg Host.Outcome.next (s.armEvent_on a _ hs)).trans (congrArg Host.Outcome.next e)
  have hexit {t : State} (e : (s.rackExit a).settle = t) : exec (.exitReport a) s = .next t :=
    (congrArg Host.Outcome.next (s.armEvent_on a _ hs)).trans (congrArg Host.Outcome.next e)
  have hend {t : State} (e : (s.rackChangeEnded a).settle = t) : exec (.changeEndedReport a) s = .next t :=
    (congrArg Host.Outcome.next (s.armEvent_on a _ hs)).trans (congrArg Host.Outcome.next e)
  have htimer {t : State} (e : s.grantExpiry.settle = t) : exec .grantTimerExpiry s = .next t :=
    (congrArg Host.Outcome.next (s.event_on _ hs.1)).trans (congrArg Host.Outcome.next e)
  have hdouble {t : State} (e : (s.doubleFault a).settle = t) : exec (.doubleFaultReport a) s = .next t :=
    (congrArg Host.Outcome.next (s.armEvent_on a _ hs)).trans (congrArg Host.Outcome.next e)
  have hstands {t : State} (e : t = s) : t.settle = s := by rw [e, hquiet hm]
  refine ⟨fun hl => ?_, fun hf => ?_, fun acknowledged inside ended hg => ?_, fun acknowledged inside ended hg => ?_,
    fun hl => hdouble (hcalm.settle_doubleFault hl)⟩
  · have hnot : s.grantedTo a = false := by simp [State.grantedTo, hl]
    exact ⟨hrequest (State.rackRequest_locked hl) (hquiet hm), hentry (State.rackEntry_not_granted hnot),
      hexit (hstands (State.rackExit_not_granted hnot)),
      fun hq => hend (hstands (State.rackChangeEnded_not_granted hnot hq)),
      htimer (hstands (by simp [State.grantExpiry, hl])), hdouble (hstands (by simp [State.doubleFault, hl]))⟩
  · have hnot : s.grantedTo a = false := by simp [State.grantedTo, hf]
    refine ⟨fun hq => hrequest (State.rackRequest_free hf hq) ?_, hentry (State.rackEntry_not_granted hnot),
      hexit (hstands (State.rackExit_not_granted hnot)),
      fun hq => hend (hstands (State.rackChangeEnded_not_granted hnot hq)),
      htimer (hstands (by simp [State.grantExpiry, hf]))⟩
    rw [hm]
    refine (hstill.settle_sent (attention := s.attention) (answer := some .granted)
      (l := [.granted a, .grantee (some a)]) (by simp [settleBound])).trans ?_
    simp only [granted, with_, hm]
    rfl
  · have hnever {s' : State} {x y : Bool} (hr : s'.rack.arbiter = .granted a x true y) : s'.releaseIfDone = s' :=
      State.releaseIfDone_stands (by simp [hr])
    refine ⟨fun h => hrequest (State.rackRequest_refused hg (h.imp_right fun e => ⟨rfl, e⟩)) (hquiet hm),
      fun he hq => ?_, fun he hne hq => ?_, fun hk => hentry ?_, fun hk => hentry ?_, fun he => hexit ?_,
      fun he => hexit ?_, fun hi hq => hend ?_, fun hi hq => hend ?_, fun ht hf => htimer ?_,
      fun h => htimer (hstands ?_)⟩
    · subst he
      have hkeep : s.setArbiter (.granted a acknowledged inside false) = keep (.granted a acknowledged inside false) [] := by
        have hq : s.rack.queue = [] := hq
        simp [State.setArbiter, keep, ← hq]
      exact hrequest (State.rackRequest_continues hg hq) (hkeep ▸ hquiet hm)
    · exact hrequest (State.rackRequest_queues hg hq fun _ => ⟨he, hne⟩) (hquiet hm)
    · simp [State.rackEntry, hg, hk, State.setArbiter, keep, queue]
    · simp [State.rackEntry, hg, hk, State.setArbiter, State.setGrantTimer, with_, queue]
    · subst he
      rw [State.rackExit_staying hg]
      exact hquiet hm
    · subst he
      rw [State.rackExit_frees hg]
      exact hfreed (l := s.mail) (by simp [hm])
    · subst hi
      rw [State.rackChangeEnded_grantee hg hq, hnever rfl]
      exact hquiet hm
    · subst hi
      rw [State.rackChangeEnded_grantee hg hq, State.releaseIfDone_outside rfl]
      exact hfreed (l := s.mail) (by simp [hm])
    · have hlapse : s.grantExpiry = State.freeRack { s with mail := s.mail ++ [.lapsed a] } := by
        simp [State.grantExpiry, hg, hf, Option.isSome_iff_ne_none, ht, State.send]
      rw [hlapse]
      exact hfreed (by simp [hm])
    · simp [State.grantExpiry, hg]
      rcases h with h | h <;> simp [h]
  · have hnot : s.grantedTo a = false := by simp [State.grantedTo, hg]
    have hne : a.other ≠ a := Side.other_ne a
    refine ⟨fun hq => ⟨hrequest (State.rackRequest_queues hg hq fun e => absurd e hne) (hquiet hm),
        hend (hstands (State.rackChangeEnded_not_granted hnot hq))⟩,
      fun hq => ⟨hrequest (State.rackRequest_refused hg (.inl hq)) (hquiet hm), hend ?_⟩,
      hentry (State.rackEntry_not_granted hnot), hexit (hstands (State.rackExit_not_granted hnot))⟩
    rw [State.rackChangeEnded_queued (by simp [hg]) hq]
    exact hquiet hm

end Sys2Proof.Machine
end

section
/-! SUPPORT. The comparison of the observed with the expected occupancy, and what it reports (spec 07, R115 to R118). -/

namespace Sys2Proof.Machine

/-- A module is expected in the pocket: the record at home there is in it, or is being stowed into it (R116). -/
def State.Awaits (s : State) (p : Fin 20) : Prop :=
  ∃ (i : Fin 64) (t : Tip), s.library.tips[i] = .active t ∧ t.home = p ∧
    (t.location = .inPocket ∨ ∃ a : Arm, t.location = .inTransit a ∧ (s.report a).pocket = some p ∧
      (s.report a).stow = true)

section
variable {s : State} {a : Arm} {p : Fin 20}

theorem State.expected_iff (h : LibraryLaw s) : s.expected p = true ↔ s.Awaits p := by
  have hfound {i : Fin 64} {t : Tip} (ht : s.library.tips[i] = .active t) (hhome : t.home = p) :
      s.tipWithHome p = some i := by
    refine State.tipWithHome_unique ht hhome fun j v hv hp => ?_
    by_contra hne
    exact (h.1 j i v t hv ht hne).2 (hp.trans hhome.symm)
  constructor
  · intro he
    unfold State.expected at he
    cases hi : s.tipWithHome p with
    | none => simp [hi] at he
    | some i =>
      obtain ⟨t, hactive, ht, hhome⟩ := State.tipWithHome_some hi
      refine ⟨i, t, ht, hhome, ?_⟩
      cases hl : t.location <;> simp_all
  · rintro ⟨i, t, ht, hhome, hl⟩
    have hactive := (s.activeTip_eq_some_iff i t).mpr ht
    rcases hl with hl | ⟨a, hl, hreport⟩
    · simp [State.expected, hfound ht hhome, hactive, hl]
    · simp [State.expected, hfound ht hhome, hactive, hl, hreport]

/-! ### What a comparison writes -/

theorem State.libraryHomeEmpty_frame : ∃ (b : Library) (r : Attention) (k : Rack),
    (s.libraryHomeEmpty p).state = { s with library := b, attention := r, rack := k } := by
  unfold State.libraryHomeEmpty
  split
  · exact ⟨_, _, _, rfl⟩
  · next i _ =>
    split
    · next t _ =>
      split
      · exact s.moveTip_frame (i := i) t .missing
      · exact ⟨_, _, _, rfl⟩
    · exact ⟨_, _, _, rfl⟩

theorem State.libraryHomeOccupied_frame : ∃ (b : Library) (r : Attention) (k : Rack),
    (s.libraryHomeOccupied p).state = { s with library := b, attention := r, rack := k } := by
  unfold State.libraryHomeOccupied
  split
  · exact ⟨_, _, _, rfl⟩
  · next i _ =>
    split
    · next t _ =>
      split
      · obtain ⟨b, r, k, hmove⟩ := s.moveTip_frame (i := i) t.suspectEntries .inPocket
        obtain ⟨r', hraise⟩ := (s.moveTip i t.suspectEntries .inPocket).raise_frame .tip
        rw [hraise, hmove]
        exact ⟨_, _, _, rfl⟩
      · exact ⟨_, _, _, rfl⟩
    · exact ⟨_, _, _, rfl⟩

theorem State.seenEmpty_frame : ∃ (b : Library) (r : Attention) (k : Rack),
    (s.seenEmpty p).state = { s with library := b, attention := r, rack := k } := by
  obtain ⟨b, r, k, hlibrary⟩ := s.libraryHomeEmpty_frame (p := p)
  unfold State.seenEmpty
  dsimp only
  split
  · obtain ⟨r', hraise⟩ := (s.libraryHomeEmpty p).state.raise_frame .pocket
    rw [hraise, hlibrary]
    exact ⟨_, _, _, rfl⟩
  · exact ⟨b, r, k, hlibrary⟩

theorem State.seenOccupied_frame : ∃ (b : Library) (r : Attention) (k : Rack),
    (s.seenOccupied p).state = { s with library := b, attention := r, rack := k } := by
  obtain ⟨b, r, k, hlibrary⟩ := s.libraryHomeOccupied_frame (p := p)
  unfold State.seenOccupied
  dsimp only
  split
  · exact ⟨b, r, k, hlibrary⟩
  · obtain ⟨r', hraise⟩ := ((s.libraryHomeOccupied p).state.setPocket p
      { (s.libraryHomeOccupied p).state.pocket p with foreignMark := true }).raise_frame .pocket
    rw [hraise, hlibrary]
    exact ⟨_, _, _, rfl⟩

theorem State.compare_frame : ∃ (b : Library) (r : Attention) (k : Rack),
    s.compare p = { s with library := b, attention := r, rack := k } := by
  unfold State.compare
  split
  · exact State.seenEmpty_frame
  · exact State.seenOccupied_frame
  · exact ⟨_, _, _, rfl⟩

/-! ### A comparison does what its report does (R118) -/

theorem homePocketSeenEmpty_compare (hs : s.powered = true) (hv : (s.pocket p).state ≠ .vacant)
    (ho : (s.pocket p).occupied = false) (he : s.expected p = true) :
    ∃ v, exec (.homePocketSeenEmpty p) s = .next v ∧ s.compare p = { v with answer := s.answer } := by
  refine ⟨_, homePocketSeenEmpty_answered hs hv rfl, ?_⟩
  obtain ⟨b, r, k, hframe⟩ := s.seenEmpty_frame (p := p)
  simp [State.compare, ho, he, State.answered, State.setAnswer, hframe]

theorem homePocketSeenOccupied_compare (hs : s.powered = true) (hv : (s.pocket p).state ≠ .vacant)
    (ho : (s.pocket p).occupied = true) (he : s.expected p = false) :
    ∃ v, exec (.homePocketSeenOccupied p) s = .next v ∧ s.compare p = { v with answer := s.answer } := by
  refine ⟨_, homePocketSeenOccupied_answered hs hv rfl, ?_⟩
  obtain ⟨b, r, k, hframe⟩ := s.seenOccupied_frame (p := p)
  simp [State.compare, ho, he, State.answered, State.setAnswer, hframe]

theorem State.compare_agrees (h : (s.pocket p).occupied = s.expected p) : s.compare p = s := by
  unfold State.compare
  rw [h]
  cases s.expected p <;> rfl

/-- The three outcomes of a comparison at a pocket that is not VACANT: the report of an EMPTY pocket, that of an OCCUPIED
one, and none. -/
theorem State.compare_outcomes (hs : s.powered = true) (hl : LibraryLaw s) :
    ((s.pocket p).state ≠ .vacant → (s.pocket p).occupied = false → s.Awaits p →
      ∃ v, exec (.homePocketSeenEmpty p) s = .next v ∧ s.compare p = { v with answer := s.answer }) ∧
    ((s.pocket p).state ≠ .vacant → (s.pocket p).occupied = true → ¬ s.Awaits p →
      ∃ v, exec (.homePocketSeenOccupied p) s = .next v ∧ s.compare p = { v with answer := s.answer }) ∧
    (((s.pocket p).occupied = true ↔ s.Awaits p) → s.compare p = s) := by
  rw [← State.expected_iff hl, Bool.not_eq_true, ← Bool.eq_iff_iff]
  exact ⟨homePocketSeenEmpty_compare hs, homePocketSeenOccupied_compare hs, State.compare_agrees⟩

theorem State.compareIfWatched_watched (hv : (s.pocket p).state ≠ .vacant) (hw : s.suppressed p = false) :
    s.compareIfWatched p = s.compare p := by
  rw [State.compareIfWatched, if_neg (by simp [hv, hw])]

theorem State.compareIfWatched_unwatched (h : (s.pocket p).state = .vacant ∨ s.suppressed p = true) :
    s.compareIfWatched p = s := by
  rw [State.compareIfWatched, if_pos h]

theorem State.compareIfWatched_frame : ∃ (b : Library) (r : Attention) (k : Rack),
    s.compareIfWatched p = { s with library := b, attention := r, rack := k } := by
  unfold State.compareIfWatched
  split
  · exact ⟨_, _, _, rfl⟩
  · exact State.compare_frame

end

end Sys2Proof.Machine
end

section
/-! PROOF. The pocket reports of a change (O44) and the observed occupancy (O42). -/

namespace Sys2Proof.Machine

section
variable {s : State} {a : Arm} {p : Fin 20} {r : PocketReport}

/-! ### The report kept, and the suppression it ends (R117) -/

/-- The rack controller keeps the arm's report. -/
def State.keeping (s : State) (a : Arm) (r : PocketReport) : State :=
  { s with rack := { s.rack with reports := s.rack.reports.set a r } }

theorem PocketReport.suppresses_iff : r.suppresses p = true ↔ r.pocket = some p ∧ r.suppressed = true := by
  simp [PocketReport.suppresses]

theorem State.suppressed_iff :
    s.suppressed p = true ↔ ∃ a : Arm, (s.report a).pocket = some p ∧ (s.report a).suppressed = true := by
  rw [State.suppressed, Bool.or_eq_true, PocketReport.suppresses_iff, PocketReport.suppresses_iff]
  constructor
  · rintro (h | h) <;> exact ⟨_, h⟩
  · rintro ⟨a, h⟩
    cases a
    · exact .inl h
    · exact .inr h

theorem State.suppressed_keeping :
    (s.keeping a r).suppressed p = (r.suppresses p || (s.report a.other).suppresses p) := by
  cases a
  · rfl
  · exact Bool.or_comm _ _

theorem State.suppressionEnds_iff : (s.keeping a r).suppressionEnds (s.report a) = some p ↔
    (s.report a).suppresses p = true ∧ r.suppresses p = false ∧ (s.report a.other).suppresses p = false := by
  have hends (q : Fin 20) : (if (s.report a).suppressed = true ∧ (!(s.keeping a r).suppressed q) = true then some q
      else none) = some p ↔
      q = p ∧ (s.report a).suppressed = true ∧ r.suppresses q = false ∧ (s.report a.other).suppresses q = false := by
    rw [Option.ite_none_right_eq_some, Option.some_inj, Bool.not_eq_true', State.suppressed_keeping, Bool.or_eq_false_iff]
    exact and_comm
  rw [State.suppressionEnds, PocketReport.suppresses_iff]
  cases (s.report a).pocket with
  | none => simp
  | some q =>
    refine (hends q).trans ⟨?_, ?_⟩
    · rintro ⟨rfl, hold, hnew⟩
      exact ⟨⟨rfl, hold⟩, hnew⟩
    · rintro ⟨⟨hq, hold⟩, hnew⟩
      cases hq
      exact ⟨rfl, hold, hnew⟩

/-! ### What becomes of the pockets at a report -/

theorem State.takeReport_eq {u : State} (hu : ((s.keeping a r).suppressionEnds (s.report a)).elim (s.keeping a r)
    (s.keeping a r).compareIfWatched = u) : s.takeReport a r =
      if u.grantedTo a ∧ r.pocket ≠ (s.report a).pocket then u.reexamine else u := by
  subst u
  have hkept : s.takeReport a r =
      let u := match (s.keeping a r).suppressionEnds (s.report a) with
        | some p => (s.keeping a r).compareIfWatched p
        | none => s.keeping a r
      if u.grantedTo a ∧ r.pocket ≠ (s.report a).pocket then u.reexamine else u := rfl
  rw [hkept]
  cases (s.keeping a r).suppressionEnds (s.report a) <;> rfl

theorem State.takeReport_noComparison (h : (s.keeping a r).suppressionEnds (s.report a) = none) :
    s.takeReport a r =
      if s.grantedTo a ∧ r.pocket ≠ (s.report a).pocket then (s.keeping a r).reexamine else s.keeping a r := by
  have hgranted : (s.keeping a r).grantedTo a = s.grantedTo a := rfl
  rw [State.takeReport_eq (u := s.keeping a r) (by rw [h]; rfl), hgranted]

theorem State.takeReport_compares (h : (s.keeping a r).suppressionEnds (s.report a) = some p)
    (hg : s.grantedTo a = false ∨ r.pocket = (s.report a).pocket) :
    s.takeReport a r = (s.keeping a r).compareIfWatched p := by
  have hgranted : ((s.keeping a r).compareIfWatched p).grantedTo a = s.grantedTo a := by
    have harb : ((s.keeping a r).compareIfWatched p).rack.arbiter = s.rack.arbiter :=
      congrArg Racking.arbiter State.compareIfWatched_racking
    rw [State.grantedTo, harb, State.grantedTo]
  have hstays : ¬ (((s.keeping a r).compareIfWatched p).grantedTo a = true ∧ r.pocket ≠ (s.report a).pocket) := by
    rw [hgranted]
    rcases hg with hg | hg <;> simp [hg]
  exact (State.takeReport_eq (by rw [h]; rfl)).trans (if_neg hstays)

/-- One message that no block acts on, and that names no grantee. -/
theorem State.settle_ignored_one {m : Message} (hm : s.mail = []) (h : s.Ignores m) (hn : ∀ g, m.notice g = g) :
    (s.send m).settle = s := by
  have hmail : (s.send m).mail = [m] := by simp [State.send, hm]
  have hall : ∀ k ∈ (s.send m).mail, (s.send m).Ignores k := by
    rw [hmail]
    exact List.forall_mem_singleton.mpr (h.congr rfl rfl rfl rfl rfl)
  rw [State.settle_ignored (by rw [hmail]; simp [settleBound]) hall, hmail, State.noticing, List.foldl_cons, hn]
  exact congrArg (fun l => { s with mail := l }) hm.symm

/-- Lids that moved where no change has one open are taken note of by nobody (R121). -/
theorem State.settle_lids {l : List (Fin 20)} (hm : s.mail = l.map .lidChanged) (hlen : l.length ≤ settleBound)
    (h : ∀ p ∈ l, ∀ b : Arm, p ∉ (s.change b).opened) : s.settle = { s with mail := [] } := by
  have hkept (g : Option Arm) : (l.map Message.lidChanged).foldl Message.notice g = g := by
    rw [List.foldl_map]
    exact List.foldl_fixed' (fun _ => rfl) l
  rw [State.settle_ignored (by simpa [hm] using hlen) (by simpa [hm, State.Ignores] using h), State.noticing, hm, hkept]

/-- A re-examination of the drives on a part where no change has a lid open (R126). -/
theorem State.settle_reexamine (hm : s.mail = []) (hopen : ∀ b : Arm, (s.change b).opened = []) :
    ∃ k : Vector Pocket 20, s.reexamine.settle = { s with rack := { s.rack with pockets := k } } ∧
      ∀ q : Fin 20, k[q] = if s.releases q then (s.pocket q).closing s.rack.lidTimeout else s.pocket q := by
  have hmail : s.reexamine.mail = ((List.finRange 20).filter s.releases).map .lidChanged := by
    rw [State.reexamine_frame, hm]
    rfl
  have hsequencer : s.reexamine.sequencer = s.sequencer := (congrArg State.sequencer s.reexamine_frame :)
  have hchange (b : Arm) : s.reexamine.change b = s.change b := by rw [State.change, hsequencer, State.change]
  have hlen : ((List.finRange 20).filter s.releases).length ≤ settleBound :=
    (List.length_filter_le ..).trans (by simp [settleBound])
  refine ⟨s.reexamine.rack.pockets, ?_, fun q => State.reexamine_pocket⟩
  rw [State.settle_lids hmail hlen fun p _ b => by simp [hchange, hopen]]
  have hframe := congrArg (fun u : State => { u with mail := s.mail }) s.reexamine_frame
  rw [hm] at hframe
  exact hframe.trans (congrArg (fun m => { s with rack := { s.rack with pockets := s.reexamine.rack.pockets }, mail := m }) hm.symm)

end

/-- Settles O44: a report that ends a suppression asks for one comparison, and a report of the grantee that names another
pocket for the release of the driven lids. -/
theorem pocketReportsAreKept : Obligations.PocketReportsAreKept := by
  intro s a pocket suppressed stow hs hm hlaw hidle c new old kept granted suppresses ends
  have hends (p : Fin 20) : kept.suppressionEnds old = some p ↔ ends p := by
    refine State.suppressionEnds_iff.trans ?_
    simp only [← Bool.not_eq_true, PocketReport.suppresses_iff]
    rfl
  have hnone (h : ∀ p, ¬ ends p) : kept.suppressionEnds old = none :=
    Option.eq_none_iff_forall_not_mem.mpr fun p hp => h p ((hends p).mp hp)
  have hgrant (h : ¬ granted ∨ pocket = old.pocket) : s.grantedTo a = false ∨ pocket = old.pocket :=
    h.imp_left fun h => Bool.eq_false_iff.mpr fun hg => h ((s.grantedTo_iff a).mp hg)
  have hexec {t : State} (e : (s.takeReport a new).settle = t) : exec c s = .next t :=
    (congrArg Host.Outcome.next (s.armEvent_on a _ hs)).trans (congrArg Host.Outcome.next e)
  have hquiet : kept.settle = kept := State.settle_of_quiet _ hm
  refine ⟨fun hnever hg => hexec ?_, fun p hp hg => ?_, fun hnever hg hne => ?_⟩
  · rw [State.takeReport_noComparison (hnone hnever), if_neg]
    · exact hquiet
    · rcases hgrant hg with h | h <;> simp [h, new, old]
  · have hcompares := State.takeReport_compares ((hends p).mpr hp) (hgrant hg)
    have hunsuppressed : kept.suppressed p = false := by
      refine State.suppressed_keeping.trans ?_
      obtain ⟨-, hnew, hother⟩ := State.suppressionEnds_iff.mp ((hends p).mpr hp)
      rw [hnew, hother]
      rfl
    have hsettled : exec c s = .next (kept.compareIfWatched p) := by
      have hmail : (kept.compareIfWatched p).mail = [] := by
        obtain ⟨b, r, k, hframe⟩ := kept.compareIfWatched_frame (p := p)
        rw [hframe]
        exact hm
      exact hexec ((congrArg State.settle hcompares).trans (State.settle_of_quiet _ hmail))
    have hwatched (hv : (s.pocket p).state ≠ .vacant) : kept.compareIfWatched p = kept.compare p :=
      State.compareIfWatched_watched hv hunsuppressed
    obtain ⟨hempty, hoccupied, hagrees⟩ := State.compare_outcomes (s := kept) (p := p) hs.1 hlaw
    refine ⟨fun hv ho he => ?_, fun hv ho he => ?_, fun h => ?_⟩
    · obtain ⟨v, hv', e⟩ := hempty hv ho he
      exact ⟨v, hv', by rw [hsettled, hwatched hv, e]⟩
    · obtain ⟨v, hv', e⟩ := hoccupied hv ho he
      exact ⟨v, hv', by rw [hsettled, hwatched hv, e]⟩
    · rw [hsettled]
      by_cases hv : (s.pocket p).state = .vacant
      · exact congrArg _ (State.compareIfWatched_unwatched (.inl hv))
      · rw [hwatched hv, hagrees (h.resolve_left hv)]
  · have hnamed : kept.granteePocket = pocket := by
      obtain ⟨_, _, _, harb⟩ := hg
      refine (State.granteePocket_granted (s := kept) harb).trans ?_
      exact congrArg PocketReport.pocket (Two.get_set_same ..)
    have hreexamines : s.takeReport a new = kept.reexamine :=
      (State.takeReport_noComparison (hnone hnever)).trans (if_pos ⟨(s.grantedTo_iff a).mpr hg, hne⟩)
    obtain ⟨k, hsettled, hpocket⟩ := State.settle_reexamine (s := kept) hm fun b => (hidle b).2
    refine ⟨_, hexec ((congrArg State.settle hreexamines).trans hsettled), Two.get_set_same .., Two.get_set_other ..,
      fun p hp => (hpocket p).trans (if_neg fun h => ?_),
      fun p hd hp hl => (hpocket p).trans (if_pos (State.releases_iff (s := kept) |>.mpr ⟨hd, fun e => hp (hnamed.symm.trans e), hl⟩)), rfl, rfl⟩
    obtain ⟨hdrive, hother, -⟩ := State.releases_iff.mp h
    rcases hp with hp | hp
    · exact Bool.false_ne_true (hp.symm.trans hdrive)
    · exact hother (hnamed.trans hp)

section
variable {s : State} {p : Fin 20}

/-! ### The observed occupancy (R115, R134) -/

/-- A compared occupancy is handed to sequencers that are idle (R115). -/
theorem State.settle_compared (hm : s.mail = []) (hidle : ∀ a : Arm, (s.change a).state = .idle) :
    ((s.compareIfWatched p).send (.occupancyChanged p)).settle = s.compareIfWatched p ∧
      (s.compareIfWatched p).settle = s.compareIfWatched p := by
  obtain ⟨b, r, k, hframe⟩ := s.compareIfWatched_frame (p := p)
  rw [hframe]
  refine ⟨?_, State.settle_of_quiet _ hm⟩
  exact State.settle_ignored_one (s := { s with library := b, attention := r, rack := k }) hm hidle fun _ => rfl

/-- A debounced occupancy other than the observed one is observed and compared (R115). -/
theorem State.settle_occupancyChange (hm : s.mail = []) (hidle : ∀ a : Arm, (s.change a).state = .idle)
    (hne : (s.pocket p).occupancyInput ≠ (s.pocket p).occupied) : (s.occupancyChange p).settle =
      (s.setPocket p { s.pocket p with occupied := (s.pocket p).occupancyInput }).compareIfWatched p := by
  rw [State.occupancyChange]
  dsimp only
  rw [if_neg hne]
  exact (State.settle_compared (s := s.setPocket p _) hm hidle).1

/-- The restart comparison observes the level and compares it, whether or not it is a new one (R134). -/
theorem State.settle_restartCompareAt (hm : s.mail = []) (hidle : ∀ a : Arm, (s.change a).state = .idle)
    (hc : (s.pocket p).restartCompare = true) : (s.restartCompareAt p).settle =
      (s.setPocket p { s.pocket p with
        occupied := (s.pocket p).occupancyInput, restartCompare := false }).compareIfWatched p := by
  rw [State.restartCompareAt]
  dsimp only
  rw [if_pos hc]
  split
  · next he =>
    rw [he]
    exact (State.settle_compared (s := s.setPocket p _) hm hidle).2
  · next hne =>
    rw [State.settle_occupancyChange (s := s.setPocket p _) hm hidle (by simpa using hne), State.setPocket_setPocket]
    simp

end

/-- Settles O42: the level debounced is observed, and the comparison does what its report does. -/
theorem occupancyIsComparedWithItsExpectation : Obligations.OccupancyIsComparedWithItsExpectation := by
  intro s p hs hm hlaw hidle r
  have hevent {f : State → State} {t : State} (e : f s = t) : done (s.event f) = .next t :=
    congrArg Host.Outcome.next ((s.event_on _ hs).trans e)
  have hstands {t : State} (e : t = s) : t.settle = s := by rw [e, State.settle_of_quiet _ hm]
  refine ⟨fun level => ⟨hevent rfl, hevent rfl⟩, fun he => hevent (hstands (if_pos he)),
    fun hc => hevent (hstands (if_neg (by simpa using hc))), fun c o ho => ?_⟩
  have hcompared : exec c s = .next (o.compareIfWatched p) ∧ LibraryLaw o ∧ o.powered = true ∧ o.answer = s.answer ∧
      o.suppressed p = s.suppressed p ∧ (o.pocket p).state = r.state ∧ (o.pocket p).occupied = r.occupancyInput := by
    rcases ho with ⟨rfl, hne, rfl⟩ | ⟨rfl, hc, rfl⟩
    · exact ⟨hevent (State.settle_occupancyChange hm hidle hne), hlaw, hs, rfl, rfl, by simp [r], by simp⟩
    · exact ⟨hevent (State.settle_restartCompareAt hm hidle hc), hlaw, hs, rfl, rfl, by simp [r], by simp⟩
  obtain ⟨hexec, holaw, hos, hanswer, hsuppressed, hstate, hoccupied⟩ := hcompared
  obtain ⟨hempty, hfull, hagrees⟩ := State.compare_outcomes (p := p) hos holaw
  intro watched expected
  have hexpected : o.Awaits p ↔ expected := by
    rcases ho with ⟨-, -, rfl⟩ | ⟨-, -, rfl⟩ <;> exact Iff.rfl
  have hwatched : watched ↔ r.state ≠ .vacant ∧ s.suppressed p = false := by
    rw [← Bool.not_eq_true, State.suppressed_iff, not_exists]
  rw [hstate, hoccupied, hexpected] at hempty hfull
  rw [hoccupied, hexpected] at hagrees
  rw [hexec, hwatched, ← hsuppressed, ← hanswer]
  refine ⟨fun ⟨hv, hu⟩ hl he => ?_, fun ⟨hv, hu⟩ hl he => ?_, fun h => ?_⟩
  · obtain ⟨v, hv', e⟩ := hempty hv hl he
    exact ⟨v, hv', by rw [State.compareIfWatched_watched (hstate ▸ hv) hu, e]⟩
  · obtain ⟨v, hv', e⟩ := hfull hv hl he
    exact ⟨v, hv', by rw [State.compareIfWatched_watched (hstate ▸ hv) hu, e]⟩
  · by_cases hw : r.state ≠ .vacant ∧ o.suppressed p = false
    · rw [State.compareIfWatched_watched (hstate ▸ hw.1) hw.2, hagrees (h.resolve_left (not_not.mpr hw))]
    · refine congrArg Host.Outcome.next (State.compareIfWatched_unwatched ?_)
      rw [hstate]
      simpa [or_iff_not_imp_left] using hw

end Sys2Proof.Machine
end

section
/-! SUPPORT. The rows of the lid tables (spec 07, R122 to R125), and what a lid that moves leaves where no change has it
open. -/

namespace Sys2Proof.Machine

section
variable {s : State} {a : Arm} {p : Fin 20} {v : Pocket} {lid : LidState} {drive : Bool} {timer : Timer}

theorem State.setLid_eq : s.setLid p lid drive timer =
    (s.setPocket p { s.pocket p with lid, drive, timer }).send (.lidChanged p) := rfl

theorem State.setLid_setPocket : (s.setPocket p v).setLid p lid drive timer =
    (s.setPocket p { v with lid, drive, timer }).send (.lidChanged p) := by
  rw [State.setLid_eq, State.setPocket_setPocket, State.pocket_setPocket, if_pos rfl]

/-! ### The open command (R122) -/

theorem State.openLid_jammed (h : (s.pocket p).lid = .jammed) : s.openLid a p = (.jammed, s) := if_pos h

theorem State.openLid_refused (hj : (s.pocket p).lid ≠ .jammed)
    (h : s.grantedTo a = false ∨ (s.report a).pocket ≠ some p ∨ (s.pocket p).state ≠ .enabled) :
    s.openLid a p = (.refused, s) := by
  rw [← Bool.not_eq_true'] at h
  simp only [State.openLid, if_neg hj, if_pos h]

theorem State.openLid_passes (hg : s.grantedTo a = true) (hr : (s.report a).pocket = some p)
    (he : (s.pocket p).state = .enabled) :
    ((s.pocket p).lid = .closed ∨ (s.pocket p).lid = .closing → s.openLid a p =
      (.opening, if (s.pocket p).sense then s.setLid p .opened true none
        else s.setLid p .opening true (some s.rack.lidTimeout))) ∧
    ((s.pocket p).lid = .opening → s.openLid a p = (.opening, s)) ∧
    ((s.pocket p).lid = .opened → s.openLid a p = (.opened, s)) := by
  refine ⟨fun h => ?_, fun h => ?_, fun h => ?_⟩
  · rcases h with h | h <;> simp [State.openLid, hg, hr, he, h, State.startLid]
  · simp [State.openLid, hg, hr, he, h]
  · simp [State.openLid, hg, hr, he, h]

/-! ### The close command (R123) -/

theorem State.closeLid_moves (h : (s.pocket p).lid = .opening ∨ (s.pocket p).lid = .opened) :
    s.closeLid p = if (s.pocket p).sense then (.closing, s.setLid p .closing false (some s.rack.lidTimeout))
      else (.closed, s.setLid p .closed false none) := by
  rcases s.closeLid_cases p with ⟨-, hno⟩ | ⟨-, e⟩
  · exact absurd h (not_or.mpr hno)
  · exact e

theorem State.closeLid_closing (h : (s.pocket p).lid = .closing) : s.closeLid p = (.closing, s) := by
  simp [State.closeLid, h]

theorem State.closeLid_closed (h : (s.pocket p).lid = .closed) : s.closeLid p = (.closed, s) := by
  simp [State.closeLid, h]

theorem State.closeLid_jammed (h : (s.pocket p).lid = .jammed) : s.closeLid p = (.jammed, s) := by
  simp [State.closeLid, h]

/-! ### The lid sense (R124) -/

theorem State.lidSense_opens (h : (s.pocket p).lid = .opening) (hs : (s.pocket p).sense = true) :
    s.lidSense p = s.setLid p .opened true none := by
  simp [State.lidSense, h, hs]

theorem State.lidSense_closes (h : (s.pocket p).lid = .closing) (hs : (s.pocket p).sense = false) :
    s.lidSense p = s.setLid p .closed false none := by
  simp [State.lidSense, h, hs]

theorem State.lidSense_jams (h : (s.pocket p).lid = .closed ∧ (s.pocket p).sense = true ∨
    (s.pocket p).lid = .opened ∧ (s.pocket p).sense = false) : s.lidSense p = s.jam p := by
  rcases h with ⟨h, hs⟩ | ⟨h, hs⟩ <;> simp [State.lidSense, h, hs]

/-- A JAMMED lid stays so, and the sense of any other agrees with the lid. -/
theorem State.lidSense_stands (h : (s.pocket p).lid = .jammed ∨
    (s.pocket p).sense = true ∧ ((s.pocket p).lid = .opened ∨ (s.pocket p).lid = .closing) ∨
    (s.pocket p).sense = false ∧ ((s.pocket p).lid = .closed ∨ (s.pocket p).lid = .opening)) :
    s.lidSense p = s := by
  rcases h with h | ⟨hs, h | h⟩ | ⟨hs, h | h⟩ <;> simp [State.lidSense, h]
  all_goals simp [hs]

theorem State.senseChange_sensed (h : (s.pocket p).senseInput ≠ (s.pocket p).sense) :
    s.senseChange p = (s.setPocket p { s.pocket p with sense := (s.pocket p).senseInput }).lidSense p :=
  if_neg h

/-! ### A lid that no change has open (R121) -/

theorem State.settle_lid (hm : s.mail = []) (hopen : ∀ b : Arm, p ∉ (s.change b).opened) :
    ((s.setPocket p v).send (.lidChanged p)).settle = s.setPocket p v :=
  State.settle_ignored_one (s := s.setPocket p v) hm hopen fun _ => rfl

theorem State.settle_jam (hm : s.mail = []) (hopen : ∀ b : Arm, p ∉ (s.change b).opened) : (s.jam p).settle =
    if (s.pocket p).state = .vacant then s.setPocket p (s.pocket p).jammed
    else (s.setPocket p (s.pocket p).jammed).raise .rack := by
  rw [State.jam_eq, apply_ite State.settle, State.settle_lid hm hopen]
  congr 1
  exact State.settle_ignored_one (s := (s.setPocket p (s.pocket p).jammed).raise .rack) hm hopen fun _ => rfl

theorem State.settle_jam_setPocket (hm : s.mail = []) (hopen : ∀ b : Arm, p ∉ (s.change b).opened) :
    ((s.setPocket p v).jam p).settle =
      if v.state = .vacant then s.setPocket p v.jammed else (s.setPocket p v.jammed).raise .rack := by
  rw [State.settle_jam (s := s.setPocket p v) hm hopen, State.pocket_setPocket, if_pos rfl, State.setPocket_setPocket]

end

end Sys2Proof.Machine
end

section
/-! PROOF. The lid commands, the lid senses and the lid timers (O43). -/

namespace Sys2Proof.Machine

/-- Settles O43: each row of the lid tables, and no change acts on the lid that moved. -/
theorem lidsFollowTheirTables : Obligations.LidsFollowTheirTables := by
  refine ⟨fun s a p hs hm hopen => ?_, fun s p hs hm hopen => ?_⟩
  · intro r lid granted open_ close passes
    have hquiet (w : Answer) : (s.setAnswer w).settle = s.setAnswer w := State.settle_of_quiet _ hm
    have hmoved (l : LidState) (drive : Bool) (timer : Timer) (w : Answer) :
        ((s.setLid p l drive timer).setAnswer w).settle = (lid l drive timer).setAnswer w :=
      State.settle_lid (s := s.setAnswer w) hm hopen
    have hopened {t u : State} {w : Answer} (e : s.openLid a p = (w, t)) (hu : (t.setAnswer w).settle = u.setAnswer w) :
        open_ u w := by
      refine (congrArg Host.Outcome.next (s.armEvent_on a _ hs)).trans ?_
      rw [e, hu]
    have hclosed {t u : State} {w : Answer} (e : s.closeLid p = (w, t)) (hu : (t.setAnswer w).settle = u.setAnswer w) :
        close u w := by
      refine (congrArg Host.Outcome.next (s.armEvent_on a _ hs)).trans ?_
      rw [e, hu]
    have hpasses (h : passes) := State.openLid_passes ((s.grantedTo_iff a).mpr h.1) h.2.1 h.2.2
    refine ⟨fun hj => ⟨hopened (State.openLid_jammed hj) (hquiet _), hclosed (State.closeLid_jammed hj) (hquiet _)⟩,
      fun hj hno => hopened (State.openLid_refused hj ?_) (hquiet _), fun h hl => ⟨fun hsense => ?_, fun hsense => ?_⟩,
      fun h hl => hopened ((hpasses h).2.1 hl) (hquiet _), fun h hl => hopened ((hpasses h).2.2 hl) (hquiet _),
      fun hl => ⟨fun hsense => ?_, fun hsense => ?_⟩, fun hl => hclosed (State.closeLid_closing hl) (hquiet _),
      fun hl => hclosed (State.closeLid_closed hl) (hquiet _)⟩
    · rw [← Bool.not_eq_true, State.grantedTo_iff]
      exact not_and_or.mp hno |>.imp_right not_and_or.mp
    · exact hopened (((hpasses h).1 hl).trans (by rw [if_pos hsense])) (hmoved ..)
    · exact hopened (((hpasses h).1 hl).trans (by simp [r, hsense])) (hmoved ..)
    · exact hclosed ((State.closeLid_moves hl).trans (if_pos hsense)) (hmoved ..)
    · exact hclosed ((State.closeLid_moves hl).trans (if_neg (by simp [r, hsense]))) (hmoved ..)
  · intro r sensed lid jams
    have hevent {c : Instr} {f : State → State} {t : State} (hc : exec c s = done (s.event f)) (e : f s = t) :
        exec c s = .next t := hc.trans (congrArg Host.Outcome.next ((s.event_on _ hs).trans e))
    have hquiet (q : Pocket) : (s.setPocket p q).settle = s.setPocket p q := State.settle_of_quiet _ hm
    have hstands {t : State} (e : t = s) : t.settle = s := by rw [e, State.settle_of_quiet _ hm]
    have hpocket : (s.setPocket p sensed).pocket p = sensed := by simp
    have hsensed (h : r.senseInput ≠ r.sense) {t : State} (e : ((s.setPocket p sensed).lidSense p).settle = t) :
        exec (.lidSenseChange p) s = .next t :=
      hevent rfl ((congrArg State.settle (State.senseChange_sensed h)).trans e)
    have hjams (h : r.senseInput ≠ r.sense) (hl : r.lid = .closed ∧ r.senseInput = true ∨
        r.lid = .opened ∧ r.senseInput = false) : jams sensed (.lidSenseChange p) := by
      refine hsensed h ?_
      rw [State.lidSense_jams (by rwa [hpocket])]
      exact State.settle_jam_setPocket hm hopen
    have hmoved (l : LidState) (drive : Bool) : ((s.setPocket p sensed).setLid p l drive none).settle = lid sensed l drive := by
      rw [State.setLid_setPocket]
      exact State.settle_lid hm hopen
    refine ⟨fun h => hevent rfl (hstands (if_pos h)), fun hin hold => ?_, fun hin hold => ?_,
      fun h => hevent rfl (hstands (if_neg ?_)), fun ht hf hl => hevent rfl ?_⟩
    · have hne : r.senseInput ≠ r.sense := by simp [hin, hold]
      refine ⟨fun hl => hjams hne (.inl ⟨hl, hin⟩), fun hl => hsensed hne ?_, fun hl => hsensed hne ?_⟩
      · rw [State.lidSense_opens (by rwa [hpocket]) (by rwa [hpocket])]
        exact hmoved ..
      · rw [State.lidSense_stands, hquiet]
        rw [hpocket]
        rcases hl with hl | hl | hl <;> simp [sensed, hl, hin]
    · have hne : r.senseInput ≠ r.sense := by simp [hin, hold]
      refine ⟨fun hl => hjams hne (.inr ⟨hl, hin⟩), fun hl => hsensed hne ?_, fun hl => hsensed hne ?_⟩
      · rw [State.lidSense_closes (by rwa [hpocket]) (by rwa [hpocket])]
        exact hmoved ..
      · rw [State.lidSense_stands, hquiet]
        rw [hpocket]
        rcases hl with hl | hl | hl <;> simp [sensed, hl, hin]
    · rcases h with h | h <;> simp [r, h]
    · rw [State.lidExpiry]
      dsimp only
      rw [if_pos ⟨Option.isSome_iff_ne_none.mpr ht, by simp [hf], hl⟩]
      exact State.settle_jam hm hopen

end Sys2Proof.Machine
end

section
/-! SUPPORT. The arguments and the effect of POCKET_WRITE (spec 07, R119; spec 11, R201). -/

namespace Sys2Proof.Machine

/-! ### A box given as an argument (R201) -/

theorem Axes.forall_iff (t : Axes Bool) : t.forall = true ↔ ∀ i, t.get i = true := by
  simp only [Axes.forall, Bool.and_eq_true]
  exact ⟨fun ⟨⟨hx, hy⟩, hz⟩ i => by cases i <;> assumption, fun h => ⟨⟨h .x, h .y⟩, h .z⟩⟩

theorem boxValid_iff (w : Axes Bounds) : boxValid w = true ↔ ∀ i : Axis, (w.get i).lo.toInt ≤ (w.get i).hi.toInt := by
  simp [boxValid, Axes.forall_iff]

theorem boxClamped_iff (w : Axes Bounds) : boxClamped w = true ↔
    ∃ i : Axis, (w.get i).lo.toInt = -2147483648 ∨ (w.get i).hi.toInt = -2147483648 := by
  simp [boxClamped, Axes.any_iff, lengthClamped_iff]

theorem DockArg.valid_iff {given : Bool} (w : Axes Bounds) : (DockArg.mk given w).valid = true ↔
    (given = true → ∀ i : Axis, (w.get i).lo.toInt ≤ (w.get i).hi.toInt) := by
  cases given <;> simp [DockArg.valid, boxValid_iff]

theorem DockArg.clamped_iff {given : Bool} (w : Axes Bounds) : (DockArg.mk given w).clamped = true ↔
    given = true ∧ ∃ i : Axis, (w.get i).lo.toInt = -2147483648 ∨ (w.get i).hi.toInt = -2147483648 := by
  simp [DockArg.clamped, boxClamped_iff]

theorem DockArg.box_given (w : Axes Bounds) : ∃ x : Box, (DockArg.mk true w).box = some x ∧
    ∀ i : Axis, x.lo.get i = max (-2147483647) (w.get i).lo.toInt ∧ x.hi.get i = max (-2147483647) (w.get i).hi.toInt :=
  ⟨_, rfl, fun i => by simp [boxArg, lengthArg_eq]⟩

theorem pocketStateArg_none {b : Byte} (h : ¬ (b = 1 ∨ b = 2)) : pocketStateArg b = none := by
  unfold pocketStateArg
  split
  · next hb => exact absurd (.inl (BitVec.eq_of_toNat_eq hb)) h
  · next hb => exact absurd (.inr (BitVec.eq_of_toNat_eq hb)) h
  · rfl

theorem pocketStateArg_some {b : Byte} (h : b = 1 ∨ b = 2) :
    pocketStateArg b = some (if b = 1 then .enabled else .disabled) := by
  rcases h with rfl | rfl <;> rfl

section
variable {s : State} {p : Fin 20} {st : PocketState} {dock : Two (Option Box)}

/-! ### A pocket named by a change (R119) -/

theorem State.pocketNamed_iff : s.pocketNamed p = true ↔ (∃ a : Arm, (s.report a).pocket = some p) ∨
    ∃ (i : Fin 64) (t : Tip), s.tipNamed i = true ∧
      (s.library.tips[i] = .active t ∨ s.library.tips[i] = .retired t) ∧ t.home = p := by
  have harm : (∃ a : Arm, (s.report a).pocket = some p) ↔
      (s.report .zero).pocket = some p ∨ (s.report .one).pocket = some p :=
    ⟨fun ⟨a, h⟩ => by cases a <;> simp [h], fun h => h.elim (⟨_, ·⟩) (⟨_, ·⟩)⟩
  have htip (slot : TipSlot) (t : Tip) : slot.tip = some t ↔ slot = .active t ∨ slot = .retired t := by
    cases slot <;> simp [TipSlot.tip]
  simp [State.pocketNamed, harm, htip, Option.any_eq_true, or_assoc]

/-! ### The pocket written (R119) -/

/-- A pocket as POCKET_WRITE writes it: a JAMMED lid of a pocket written ENABLED is CLOSED. -/
def Pocket.written (r : Pocket) (st : PocketState) (dock : Two (Option Box)) : Pocket :=
  if st = .enabled ∧ r.lid = .jammed then { r with state := st, dock, lid := .closed, drive := false, timer := none }
  else { r with state := st, dock }

section
variable (r : Pocket) (st : PocketState) (dock : Two (Option Box))

@[simp] theorem Pocket.written_state : (r.written st dock).state = st := by
  unfold Pocket.written
  split <;> rfl

@[simp] theorem Pocket.written_dock : (r.written st dock).dock = dock := by
  unfold Pocket.written
  split <;> rfl

@[simp] theorem Pocket.written_occupied : (r.written st dock).occupied = r.occupied := by
  unfold Pocket.written
  split <;> rfl

@[simp] theorem Pocket.written_sense : (r.written st dock).sense = r.sense := by
  unfold Pocket.written
  split <;> rfl

@[simp] theorem Pocket.written_foreignMark : (r.written st dock).foreignMark = r.foreignMark := by
  unfold Pocket.written
  split <;> rfl

@[simp] theorem Pocket.written_lid :
    (r.written st dock).lid = if st = .enabled ∧ r.lid = .jammed then .closed else r.lid := by
  unfold Pocket.written
  split <;> rfl

end

/-- The part with the pocket written; a module seen in it where none is at home makes it foreign. -/
def State.rewritten (s : State) (p : Fin 20) (st : PocketState) (dock : Two (Option Box)) : State :=
  let r := (s.pocket p).written st dock
  if (s.pocket p).state = .vacant ∧ (s.pocket p).occupied = true then
    (s.setPocket p { r with foreignMark := true }).raise .pocket
  else s.setPocket p r

/-- No module is awaited in a pocket that no record calls its home. -/
theorem State.expected_homeless (h : ∀ (i : Fin 64) (t : Tip), s.library.tips[i] = .active t → t.home ≠ p) :
    s.expected p = false := by
  have hnone : s.tipWithHome p = none := State.findTip_eq_none_iff.mpr fun i t ht => by simpa using h i t ht
  simp [State.expected, hnone]

theorem State.compareIfWatched_homeless (hv : (s.pocket p).state ≠ .vacant) (hw : s.suppressed p = false)
    (h : ∀ (i : Fin 64) (t : Tip), s.library.tips[i] = .active t → t.home ≠ p) : s.compareIfWatched p =
      if (s.pocket p).occupied then (s.setPocket p { s.pocket p with foreignMark := true }).raise .pocket else s := by
  have he := State.expected_homeless h
  rw [State.compareIfWatched_watched hv hw]
  split
  · next ho =>
    have hrefused := State.libraryHomeOccupied_refused fun i t ht hp => absurd hp (h i t ht)
    simp [State.compare, ho, he, State.seenOccupied_foreign hrefused he]
  · next ho => exact State.compare_agrees (by simp [ho, he])

/-- POCKET_WRITE writes the pocket; a lid that it closes is handed to the change sequencers (R119, R121). -/
theorem State.writePocket_eq (hst : st ≠ .vacant) (hw : s.suppressed p = false)
    (h : (s.pocket p).state = .vacant → ∀ (i : Fin 64) (t : Tip), s.library.tips[i] = .active t → t.home ≠ p) :
    s.writePocket p st dock = if st = .enabled ∧ (s.pocket p).lid = .jammed
      then (s.rewritten p st dock).send (.lidChanged p) else s.rewritten p st dock := by
  have hwritten : s.writePocket p st dock =
      let t := if st = .enabled ∧ (s.pocket p).lid = .jammed
        then (s.setPocket p ((s.pocket p).written st dock)).send (.lidChanged p)
        else s.setPocket p ((s.pocket p).written st dock)
      if (s.pocket p).state = .vacant then t.compareIfWatched p else t := by
    by_cases hj : st = .enabled ∧ (s.pocket p).lid = .jammed
    · simp [State.writePocket, Pocket.written, hj, State.setLid_setPocket]
    · simp [State.writePocket, Pocket.written, hj]
  have hpocket : (s.setPocket p ((s.pocket p).written st dock)).pocket p = (s.pocket p).written st dock := by simp
  have hcompared {t : State} (ht : t.pocket p = (s.pocket p).written st dock) (hsupp : t.suppressed p = s.suppressed p)
      (hlib : t.library = s.library) (hv : (s.pocket p).state = .vacant) : t.compareIfWatched p =
      if (s.pocket p).occupied then
        (t.setPocket p { (s.pocket p).written st dock with foreignMark := true }).raise .pocket else t := by
    rw [State.compareIfWatched_homeless (by rwa [ht, Pocket.written_state]) (hsupp.trans hw) (hlib ▸ h hv), ht,
      Pocket.written_occupied]
  rw [hwritten, State.rewritten]
  by_cases hv : (s.pocket p).state = .vacant
  · simp only [hv, if_true, true_and]
    split
    · rw [hcompared (t := (s.setPocket p _).send (.lidChanged p)) hpocket rfl rfl hv]
      split
      · exact congrArg (fun t : State => (t.raise .pocket).send (.lidChanged p)) (State.setPocket_setPocket ..)
      · rfl
    · rw [hcompared hpocket rfl rfl hv, State.setPocket_setPocket]
  · simp only [hv, if_false, false_and]

end

end Sys2Proof.Machine
end

section
/-! PROOF. POCKET_WRITE, POCKET_CLEAR_FOREIGN and RACK_UNLOCK (O41). -/

namespace Sys2Proof.Machine

section
variable {s : State} {p : Fin 20} {st : PocketState} {dock : Two (Option Box)}

/-! ### The part with the pocket written -/

theorem State.rewritten_pocket (q : Fin 20) : (s.rewritten p st dock).pocket q = if p = q
    then { (s.pocket p).written st dock with
      foreignMark := (s.pocket p).foreignMark || ((s.pocket p).state == .vacant && (s.pocket p).occupied) }
    else s.pocket q := by
  unfold State.rewritten
  dsimp only
  split
  · next h =>
    rw [State.pocket_congr (congrArg Rack.pockets (State.raise_rack ..)), State.pocket_setPocket]
    simp [h]
  · next h =>
    rw [State.pocket_setPocket]
    split
    · have hmark : ((s.pocket p).state == .vacant && (s.pocket p).occupied) = false := by simpa using h
      rw [hmark, Bool.or_false, ← Pocket.written_foreignMark (s.pocket p) st dock]
    · rfl

/-- What is written: the pocket, and the flag of POCKET where a foreign module is found. -/
theorem State.rewritten_spec (s : State) (p : Fin 20) (st : PocketState) (dock : Two (Option Box)) :
    (s.rewritten p st dock).pocket p = { (s.pocket p).written st dock with
      foreignMark := (s.pocket p).foreignMark || ((s.pocket p).state == .vacant && (s.pocket p).occupied) } ∧
    (∀ q : Fin 20, q ≠ p → (s.rewritten p st dock).pocket q = s.pocket q) ∧
    ((s.pocket p).state = .vacant ∧ (s.pocket p).occupied = true →
      (s.rewritten p st dock).attention.sources[9].flag = true) ∧
    (¬ ((s.pocket p).state = .vacant ∧ (s.pocket p).occupied = true) →
      (s.rewritten p st dock).attention = s.attention) ∧
    ∃ (k : Vector Pocket 20) (r : Attention),
      s.rewritten p st dock = { s with rack := { s.rack with pockets := k }, attention := r } := by
  refine ⟨(State.rewritten_pocket p).trans (if_pos rfl), fun q hq => (State.rewritten_pocket q).trans (if_neg hq.symm),
    fun h => ?_, fun h => ?_, ?_⟩
  · rw [State.rewritten, if_pos h]
    exact State.raise_flag _ .pocket rfl
  · rw [State.rewritten, if_neg h]
    rfl
  · unfold State.rewritten
    dsimp only
    split
    · obtain ⟨r, h⟩ := (s.setPocket p { (s.pocket p).written st dock with foreignMark := true }).raise_frame .pocket
      exact ⟨_, r, h⟩
    · exact ⟨_, _, rfl⟩

end

/-! ### The request -/

section
variable {s : State} {p : Fin 20} {pocket state g0 g1 : Byte} {box0 box1 : Axes Bounds}

/-- The argument list of POCKET_WRITE is legal: the state is ENABLED or DISABLED, and no box given is empty. -/
def PocketWriteLegal (state g0 : Byte) (box0 : Axes Bounds) (g1 : Byte) (box1 : Axes Bounds) : Prop :=
  (state = 1 ∨ state = 2) ∧ (g0 = 1 → ∀ i : Axis, (box0.get i).lo.toInt ≤ (box0.get i).hi.toInt) ∧
    (g1 = 1 → ∀ i : Axis, (box1.get i).lo.toInt ≤ (box1.get i).hi.toInt)

theorem yesNoArg_eq {g : Byte} (h : g.toNat ≤ 1) : yesNoArg g = some (decide (g = 1)) := by
  rw [yesNoArg_some h]
  congr 2
  exact propext (BitVec.toNat_inj (y := 1))

theorem pocketWriteReq_illegal (hp : pocket.toNat = p.val) (hg0 : g0.toNat ≤ 1) (hg1 : g1.toNat ≤ 1)
    (h : ¬ PocketWriteLegal state g0 box0 g1 box1) :
    pocketWriteReq pocket state g0 box0 g1 box1 s = refuse .badArgument s := by
  simp only [pocketWriteReq, pocketArg, indexArg_of_val hp, yesNoArg_eq hg0, yesNoArg_eq hg1]
  by_cases hst : state = 1 ∨ state = 2
  · rw [pocketStateArg_some hst]
    refine if_neg fun hvalid => h ⟨hst, ?_⟩
    simpa only [DockArg.valid_iff, decide_eq_true_eq] using hvalid
  · rw [pocketStateArg_none hst]

theorem pocketWriteReq_legal (hp : pocket.toNat = p.val) (hg0 : g0.toNat ≤ 1) (hg1 : g1.toNat ≤ 1)
    (h : PocketWriteLegal state g0 box0 g1 box1) : pocketWriteReq pocket state g0 box0 g1 box1 s =
      pocketWriteBody p (if state = 1 then .enabled else .disabled) ⟨decide (g0 = 1), box0⟩ ⟨decide (g1 = 1), box1⟩ s := by
  obtain ⟨hst, hvalid⟩ := h
  simp only [pocketWriteReq, pocketArg, indexArg_of_val hp, yesNoArg_eq hg0, yesNoArg_eq hg1, pocketStateArg_some hst]
  exact if_pos (by simpa only [DockArg.valid_iff, decide_eq_true_eq] using hvalid)

theorem pocketWriteReq_writes (hp : pocket.toNat = p.val) (hg0 : g0.toNat ≤ 1) (hg1 : g1.toNat ≤ 1)
    (h : PocketWriteLegal state g0 box0 g1 box1) (ha : ¬ (s.oneArm = true ∧ decide (g1 = 1) = true))
    (hn : ¬ s.pocketNamed p = true) (hsense : state = 1 → (s.pocket p).sense = false)
    (hhome : (s.pocket p).state = .vacant → ∀ (i : Fin 64) (t : Tip), s.library.tips[i] = .active t → t.home ≠ p) :
    let d0 : DockArg := ⟨decide (g0 = 1), box0⟩
    let d1 : DockArg := ⟨decide (g1 = 1), box1⟩
    let st : PocketState := if state = 1 then .enabled else .disabled
    let u := s.rewritten p st ⟨d0.box, d1.box⟩
    let t := if st = .enabled ∧ (s.pocket p).lid = .jammed then u.send (.lidChanged p) else u
    pocketWriteReq pocket state g0 box0 g1 box1 s =
      { status := okOr (d0.clamped || d1.clamped), payload := t.pocketBytes p, state := t } := by
  intro d0 d1 st u t
  have hst : st ≠ .vacant ∧ ¬ (st = .enabled ∧ (s.pocket p).sense = true) := by
    by_cases hs : state = 1
    · rw [show st = .enabled from if_pos hs, hsense hs]
      exact ⟨by decide, by simp⟩
    · rw [show st = .disabled from if_neg hs]
      exact ⟨by decide, by simp⟩
  have hw : s.suppressed p = false := by
    refine Bool.eq_false_iff.mpr fun hsupp => hn (State.pocketNamed_iff.mpr (.inl ?_))
    obtain ⟨a, hpocket, -⟩ := State.suppressed_iff.mp hsupp
    exact ⟨a, hpocket⟩
  have hwritten : s.writePocket p st ⟨d0.box, d1.box⟩ = t := State.writePocket_eq hst.1 hw hhome
  rw [pocketWriteReq_legal hp hg0 hg1 h]
  refine (if_neg ha).trans ((if_neg hn).trans ((if_neg hst.2).trans ?_))
  dsimp only
  rw [hwritten]

/-- A pocket written is the answer, and a lid that the write closes is news for no change. -/
theorem settle_pocketWritten {u : State} {c : Instr} {st : Status} (hm : u.mail = [])
    (hopen : ∀ b : Arm, p ∉ (u.change b).opened) (j : Prop) [Decidable j] :
    let t := if j then u.send (.lidChanged p) else u
    (s.respond c { status := st, payload := t.pocketBytes p, state := t }).settle =
      s.respond c { status := st, payload := u.pocketBytes p, state := u } := by
  intro t
  by_cases hj : j
  · have ht : t = u.send (.lidChanged p) := if_pos hj
    rw [ht]
    exact State.settle_ignored_one (s := s.respond c { status := st, payload := u.pocketBytes p, state := u }) hm hopen
      fun _ => rfl
  · have ht : t = u := if_neg hj
    rw [ht]
    exact State.settle_of_quiet _ hm

end

/-- Settles O41: the tests of POCKET_WRITE in their order, the record it writes, and the two requests that clear. -/
theorem pocketsAreWrittenAndCleared : Obligations.PocketsAreWrittenAndCleared := by
  refine ⟨fun s pocket state g0 box0 g1 box1 p ht hm hp hg0 hg1 hopen => ?_, fun s ht =>
    ⟨fun pocket p hp => ⟨fun ho => ?_, fun ho => ?_⟩, fun h => ?_, fun h => ?_⟩⟩
  · intro c good legal named absent r stored
    have hrefused {st : Status} (e : pocketWriteReq pocket state g0 box0 g1 box1 s = refuse st s) :
        exec c s = .next (s.respond c (refuse st s)) := request_settled_refused ht hm e
    have hbody (h : legal) := pocketWriteReq_legal (s := s) hp hg0 hg1 h
    have habsent : absent ↔ s.oneArm = true ∧ decide (g1 = 1) = true := by rw [decide_eq_true_eq]
    have hnamed : named ↔ s.pocketNamed p = true := State.pocketNamed_iff.symm
    refine ⟨fun h => hrefused (pocketWriteReq_illegal hp hg0 hg1 h), fun h ha => hrefused ?_, fun h ha hn => hrefused ?_,
      fun h ha hn hst hsense => hrefused ?_, fun h ha hn hsense hhome => ?_⟩
    · rw [hbody h]
      exact if_pos (habsent.mp ha)
    · rw [hbody h]
      exact (if_neg (habsent.not.mp ha)).trans (if_pos (hnamed.mp hn))
    · rw [hbody h, if_pos hst]
      exact (if_neg (habsent.not.mp ha)).trans ((if_neg (hnamed.not.mp hn)).trans (if_pos ⟨rfl, hsense⟩))
    · have hwrites := pocketWriteReq_writes hp hg0 hg1 h (habsent.not.mp ha) (hnamed.not.mp hn) hsense hhome
      generalize hst : (if state = 1 then PocketState.enabled else .disabled) = st at hwrites ⊢
      have henabled : st = .enabled ↔ state = 1 := by
        subst hst
        split <;> simp_all
      obtain ⟨hsame, hother, hforeign, hnot, k, attention, hframe⟩ := s.rewritten_spec p st
        ⟨(DockArg.mk (decide (g0 = 1)) box0).box, (DockArg.mk (decide (g1 = 1)) box1).box⟩
      generalize hu : s.rewritten p st ⟨(DockArg.mk (decide (g0 = 1)) box0).box,
        (DockArg.mk (decide (g1 = 1)) box1).box⟩ = u at hsame hother hforeign hnot hframe
      refine ⟨u, (DockArg.mk (decide (g0 = 1)) box0).clamped || (DockArg.mk (decide (g1 = 1)) box1).clamped, ?_, ?_⟩
      · refine (congrArg Host.Outcome.next (s.event_on _ ht.1)).trans ?_
        rw [State.request_taken _ _ _ ht, hwrites, hu]
        exact congrArg Host.Outcome.next (settle_pocketWritten (by rw [hframe]; exact hm) (by rw [hframe]; exact hopen) _)
      · intro q
        rw [show q = _ from hsame]
        have hstored (g : Byte) (b : Axes Bounds) : stored g b (DockArg.mk (decide (g = 1)) b).box := by
          refine ⟨fun hg => by subst hg; rfl, fun hg => ?_⟩
          subst hg
          exact DockArg.box_given b
        refine ⟨Pocket.written_state .., ?_, ?_, Pocket.written_occupied .., Pocket.written_sense .., ?_, rfl,
          fun hv ho => hforeign ⟨hv, ho⟩, hnot, hother, by rw [hframe], by rw [hframe], ?_⟩
        · rw [Pocket.written_dock]
          exact hstored g0 box0
        · rw [Pocket.written_dock]
          exact hstored g1 box1
        · simp only [Pocket.written_lid, henabled, r]
        · simp only [Bool.or_eq_true, DockArg.clamped_iff, decide_eq_true_eq]
  · refine request_answered ht ?_
    simp [pocketClearForeignReq, pocketArg, indexArg_of_val hp, ho]
  · refine request_answered ht ?_
    simp [pocketClearForeignReq, pocketArg, indexArg_of_val hp, ho, accept, State.clearForeign]
  · exact request_answered ht (if_neg h)
  · exact request_answered ht (if_pos h)

end Sys2Proof.Machine
end

section
/-! SUPPORT. The change sequencer at a rack that stands by: a report that ends no suppression and releases no lid, an
approach that is entered, and the end of a change whose arm holds no grant (spec 08, R142, R152). -/

namespace Sys2Proof.Machine

section
variable {s t : State} {a b : Arm} {p : Fin 20} {c d : Change} {r : PocketReport} {result : ChangeResult}

/-! ### Writes one after the other -/

@[simp] theorem State.setChange_setChange : (s.setChange a c).setChange a d = s.setChange a d := by
  cases a <;> rfl

@[simp] theorem State.change_setChange_same : (s.setChange a c).change a = c := by simp

@[simp] theorem State.setHead_setHead {h k : Head} : (s.setHead a h).setHead a k = s.setHead a k := by cases a <;> rfl

@[simp] theorem State.setChange_change : s.setChange a (s.change a) = s := by
  cases a <;> rfl

/-- What a raise leaves of a state, by its attention unit. -/
theorem State.raise_eq (src : AttnSource) : s.raise src = { s with attention := (s.raise src).attention } := by
  obtain ⟨r, h⟩ := s.raise_frame src
  rw [h]

theorem State.present_congr (hone : t.oneArm = s.oneArm) : t.present b = s.present b := by
  cases b <;> simp [State.present, hone]

theorem State.raise_attention_congr (src : AttnSource) (hattention : t.attention = s.attention)
    (hone : t.oneArm = s.oneArm) : (t.raise src).attention = (s.raise src).attention := by
  have hcan : t.canRaise src = s.canRaise src := by
    unfold State.canRaise
    split
    · exact State.present_congr hone
    · rfl
  unfold State.raise
  rw [hcan]
  split
  · simp [State.setSource, hattention]
  · exact hattention

theorem State.raise_eq_of {src : AttnSource} (hattention : t.attention = s.attention) (hone : t.oneArm = s.oneArm) :
    t.raise src = { t with attention := (s.raise src).attention } := by
  rw [← State.raise_attention_congr src hattention hone]
  exact State.raise_eq src

/-! ### A report that only is kept (R117, R126) -/

/-- The new report ends no suppression of the old one, and releases no lid. -/
structure State.Quietly (s : State) (a : Arm) (r : PocketReport) : Prop where
  unsuppressed : (s.report a).suppressed = false ∨ r.suppressed = true ∧ r.pocket = (s.report a).pocket
  undriven : s.grantedTo a = false ∨ r.pocket = (s.report a).pocket ∨ ∀ p : Fin 20, (s.pocket p).drive = false

theorem State.Quietly.congr (h : s.Quietly a r) (hrack : t.rack = s.rack) : t.Quietly a r := by
  obtain ⟨hsuppressed, hdrive⟩ := h
  refine ⟨?_, ?_⟩
  · simpa only [State.report, hrack] using hsuppressed
  · simpa only [State.report, State.grantedTo, State.pocket, hrack] using hdrive

theorem State.Quietly.takeReport (h : s.Quietly a r) : s.takeReport a r = s.keeping a r := by
  obtain ⟨hsuppressed, hdrive⟩ := h
  have hends : (s.keeping a r).suppressionEnds (s.report a) = none := by
    refine Option.eq_none_iff_forall_not_mem.mpr fun p hp => ?_
    obtain ⟨hold, hnew, -⟩ := State.suppressionEnds_iff.mp hp
    rw [PocketReport.suppresses_iff] at hold
    rcases hsuppressed with hu | ⟨hu, hsame⟩
    · exact Bool.false_ne_true (hu.symm.trans hold.2)
    · exact Bool.false_ne_true (hnew.symm.trans (PocketReport.suppresses_iff.mpr ⟨hsame.trans hold.1, hu⟩))
  rw [State.takeReport_noComparison hends]
  split
  · next hmoves =>
    obtain ⟨hg, hne⟩ := hmoves
    rcases hdrive with hno | hsame | hnone
    · exact absurd hg (Bool.eq_false_iff.mp hno)
    · exact absurd hsame hne
    · exact State.reexamine_of_no_drive hnone
  · rfl

@[simp] theorem State.keeping_sequencer : (s.keeping a r).sequencer = s.sequencer := rfl

@[simp] theorem State.change_keeping : (s.keeping a r).change b = s.change b := rfl

@[simp] theorem State.keeping_setChange : (s.keeping a r).setChange b c = (s.setChange b c).keeping a r := rfl

theorem State.Quietly.sendReport {pocket : Option (Fin 20)} {suppressed stow : Bool}
    (h : s.Quietly a { pocket, suppressed, stow }) : s.sendReport a pocket suppressed stow =
      (s.setChange a { s.change a with current := pocket }).keeping a { pocket, suppressed, stow } :=
  State.Quietly.takeReport (h.congr rfl)

/-! ### The home pockets of the tips of a change -/

theorem State.homeOf_active {i : Fin 64} {v : Tip} (h : s.library.tips[i] = .active v) : s.homeOf (some i) = some v.home := by
  simp only [State.homeOf, Option.bind_some]
  rw [h]
  rfl

/-! ### An approach (R142, R144, R147) -/

/-- The change record of an approach to the pocket. -/
def Change.approaching (c : Change) (p : Fin 20) (timeout : Nat) : Change :=
  { c with
    state := if c.stowing = none then .fetchApproach else .stowApproach
    current := some p, timer := some timeout, wait := .departure }

/-- The part after the change of the arm has entered an approach to the pocket. -/
def State.approaching (s : State) (a : Arm) (p : Fin 20) : State :=
  { s.setChange a ((s.change a).approaching p s.sequencer.approachTimeout) with
    rack := { s.rack with
      reports := s.rack.reports.set a { pocket := some p, suppressed := false, stow := false } } }

theorem State.approaching_eq : s.approaching a p =
    (s.setChange a ((s.change a).approaching p s.sequencer.approachTimeout)).keeping a
      { pocket := some p, suppressed := false, stow := false } := rfl

/-- The pocket a change approaches with the grant: that of the stowing tip, or else of the target. -/
def State.Approaches (s : State) (a : Arm) (p : Fin 20) : Prop :=
  ∃ (i : Fin 64) (v : Tip), ((s.change a).stowing = some i ∨
      ((s.change a).stowing = none ∧ (s.change a).target = some i ∧ (s.change a).stowClose = false)) ∧
    s.library.tips[i] = .active v ∧ v.home = p

theorem State.takeGrant_approaches (hw : (s.change a).state = .waitingRack) (hp : s.Approaches a p)
    (hq : s.Quietly a { pocket := some p, suppressed := false, stow := false }) :
    s.takeGrant a = (s.approaching a p).send (.testStage a) := by
  obtain ⟨i, v, htip, hv, rfl⟩ := hp
  rw [State.takeGrant, if_pos hw]
  rcases htip with hstow | ⟨hnone, htarget, hclose⟩
  · have hpocket : s.stowPocket a = some v.home := by rw [State.stowPocket, hstow, State.homeOf_active hv]
    rw [hpocket, hq.sendReport]
    simp [hstow, State.enterStage, State.approaching_eq, Change.approaching]
  · have hpocket : s.targetPocket a = some v.home := by rw [State.targetPocket, htarget, State.homeOf_active hv]
    simp [hnone, hclose, State.enterFetchApproach, hpocket, hq.sendReport, State.enterStage, State.approaching_eq,
      Change.approaching]

/-- The approach waits while the arm's last reference point lies outside the dock box. -/
theorem State.approaching_rests (hclose : (s.change a).stowing = none → (s.change a).stowClose = false)
    (hout : ∀ q b, (s.change a).lastReference = some q → (s.pocket p).dock.get a = some b → b.contains q = false) :
    (s.approaching a p).Rests a := by
  have hchange : (s.approaching a p).change a = (s.change a).approaching p s.sequencer.approachTimeout := by
    rw [State.approaching_eq, State.change_keeping, State.change_setChange_same]
  unfold State.Rests
  rw [hchange]
  refine .inr ⟨?_, fun i hi => ?_⟩
  · by_cases hstow : (s.change a).stowing = none
    · exact .inr ⟨if_pos hstow, hclose hstow⟩
    · exact .inl (if_neg hstow)
  · cases Option.some.inj hi
    unfold State.inDock
    rw [hchange]
    split
    · next q b hq hb => exact hout q b hq hb
    · rfl

theorem State.settle_approaching (hm : s.mail = []) (hrests : (s.approaching a p).Rests a) :
    ((s.approaching a p).send (.testStage a)).settle = s.approaching a p :=
  State.settle_ignored_one (m := .testStage a) hm hrests fun _ => rfl

/-! ### The end of a change whose arm holds no grant (R152) -/

/-- The change record as a change ends (R152). -/
def Change.finished (c : Change) (result : ChangeResult) : Change :=
  { c with
    state := .idle, timer := none, target := none, stowing := none, opened := [], faultResult := none
    current := none, last := some (result, c.double) }

/-- The change record as a change ends other than COMPLETED: a staged request is DISCARDED. -/
def Change.ended (c : Change) (result : ChangeResult) : Change :=
  { c.finished result with
    staged := none, stagedOutcome := if c.staged = none then c.stagedOutcome else .discarded }

/-- The report of an arm without a change. -/
def PocketReport.none : PocketReport := { pocket := Option.none, suppressed := false, stow := false }

/-- The part as a change of the arm leaves it that has ended and held no grant: out of the queue, its report withdrawn. -/
def State.withdrawn (s : State) (a : Arm) (c : Change) : State :=
  { s.setChange a c with
    rack := { s.rack with queue := s.rack.queue.filter (· ≠ a), reports := s.rack.reports.set a .none }
    attention := (s.raise (.change a)).attention }

theorem State.rackChangeEnded_withdraws (hg : s.grantedTo a = false) (hf : s.rack.arbiter ≠ .free) :
    s.rackChangeEnded a = s.setQueue (s.rack.queue.filter (· ≠ a)) := by
  by_cases hq : a ∈ s.rack.queue
  · exact State.rackChangeEnded_queued hf hq
  · have hsame : s.rack.queue.filter (· ≠ a) = s.rack.queue :=
      List.filter_eq_self.mpr fun b hb => decide_eq_true fun e => hq (e ▸ hb)
    rw [State.rackChangeEnded_not_granted hg hq, hsame]
    rfl

/-- The end of a change, by what the arbiter makes of it. -/
theorem State.finishChange_eq {k : Rack} {m : List Message} (hq : s.Quietly a .none)
    (hended : ∀ d : Change, ((s.setChange a d).keeping a .none).rackChangeEnded a =
      { s.setChange a d with rack := k, mail := m }) :
    s.finishChange a result = { s.setChange a ((s.change a).finished result) with
      rack := k, mail := m, attention := (s.raise (.change a)).attention } := by
  have hreport (d : Change) : (s.setChange a d).sendReport a none false false =
      (s.setChange a { d with current := none }).keeping a .none := by
    have hkeeps := State.Quietly.sendReport (s := s.setChange a d) (pocket := none) (suppressed := false) (stow := false)
      (hq.congr rfl)
    rw [hkeeps, State.change_setChange_same, State.setChange_setChange]
    rfl
  have hchange (d : Change) : State.change { s.setChange a d with rack := k, mail := m } a = d :=
    State.change_setChange_same (s := s)
  have hagain (d e : Change) : State.setChange { s.setChange a d with rack := k, mail := m } a e =
      { s.setChange a e with rack := k, mail := m } :=
    congrArg (fun t : State => { t with rack := k, mail := m }) (State.setChange_setChange (s := s))
  simp only [State.finishChange, hreport, hended, hchange, hagain]
  exact State.raise_eq_of (s := s) rfl rfl

theorem State.finishChange_withdraws (hg : s.grantedTo a = false) (hf : s.rack.arbiter ≠ .free)
    (hu : (s.report a).suppressed = false) :
    s.finishChange a result = s.withdrawn a ((s.change a).finished result) :=
  State.finishChange_eq (m := s.mail) ⟨.inl hu, .inl hg⟩ fun d =>
    State.rackChangeEnded_withdraws (s := (s.setChange a d).keeping a .none) hg hf

theorem State.endChange_withdraws (hg : s.grantedTo a = false) (hf : s.rack.arbiter ≠ .free)
    (hu : (s.report a).suppressed = false) :
    s.endChange a result = s.withdrawn a ((s.change a).ended result) := by
  have hchange : (s.withdrawn a ((s.change a).finished result)).change a = (s.change a).finished result :=
    State.change_setChange_same (s := s)
  rw [State.endChange, State.finishChange_withdraws hg hf hu, State.discardStaged, hchange]
  cases hstaged : (s.change a).staged with
  | none =>
    rw [if_neg (by simp [Change.finished, hstaged])]
    simp [Change.ended, Change.finished, hstaged]
  | some r =>
    rw [if_pos (by simp [Change.finished, hstaged])]
    have hagain (d e : Change) : (s.withdrawn a d).setChange a e = s.withdrawn a e :=
      congrArg (fun t : State => { t with
        rack := { s.rack with queue := s.rack.queue.filter (· ≠ a), reports := s.rack.reports.set a .none }
        attention := (s.raise (.change a)).attention }) (State.setChange_setChange (s := s))
    rw [hagain]
    simp [Change.ended, Change.finished, hstaged]

end

end Sys2Proof.Machine
end

section
/-! SUPPORT. What one arm's change sequencer leaves of the other arm's: its change, its head, its report, and its place out
of the queue. The walk over the sequencer is made once (spec 08, R143 to R157). -/

namespace Sys2Proof.Machine

/-- The arm's change, head and report are the same, and the arm has not come into the queue. -/
structure Apart (a : Arm) (s t : State) : Prop where
  change : t.change a = s.change a
  head : t.head a = s.head a
  report : t.report a = s.report a
  queue : a ∉ s.rack.queue → a ∉ t.rack.queue

section
variable {s t u : State} {a b : Arm} {p : Fin 20} {i : Fin 64}

theorem Apart.refl (a : Arm) (s : State) : Apart a s s := ⟨rfl, rfl, rfl, id⟩

theorem Apart.trans (h : Apart a s t) (h' : Apart a t u) : Apart a s u :=
  ⟨h'.change.trans h.change, h'.head.trans h.head, h'.report.trans h.report, h'.queue ∘ h.queue⟩

theorem Apart.ite {c : Prop} [Decidable c] (ht : Apart a s t) (hu : Apart a s u) : Apart a s (if c then t else u) := by
  split
  · exact ht
  · exact hu

/-- What leaves the sequencer, the reports and the queue leaves every arm. -/
theorem Apart.congr (h : Apart a s t) (hseq : u.sequencer = t.sequencer) (hreports : u.rack.reports = t.rack.reports)
    (hqueue : u.rack.queue = t.rack.queue) : Apart a s u := by
  refine h.trans ⟨?_, ?_, ?_, ?_⟩
  · rw [State.change, hseq, State.change]
  · rw [State.head, hseq, State.head]
  · rw [State.report, hreports, State.report]
  · rw [hqueue]
    exact id

theorem Apart.of_racking (h : Apart a s t) (hseq : u.sequencer = t.sequencer) (hracking : u.racking = t.racking) :
    Apart a s u := h.congr hseq (congrArg Racking.reports hracking :) (congrArg Racking.queue hracking :)

theorem Apart.raise {src : AttnSource} (h : Apart a s t) : Apart a s (t.raise src) :=
  h.of_racking (t.raise_sequencer src) (State.raise_racking src)

theorem Apart.send {m : Message} (h : Apart a s t) : Apart a s (t.send m) := h.of_racking rfl rfl

theorem Apart.disarm (h : Apart a s t) : Apart a s (t.disarm b) := h.of_racking rfl rfl

theorem Apart.compareIfWatched (h : Apart a s t) : Apart a s (t.compareIfWatched p) := by
  obtain ⟨_, _, _, hframe⟩ := t.compareIfWatched_frame (p := p)
  exact h.of_racking (congrArg State.sequencer hframe :) State.compareIfWatched_racking

/-! ### The rack controller -/

theorem Apart.closeLid (h : Apart a s t) : Apart a s (t.closeLid p).2 := by
  rcases t.closeLid_cases p with ⟨e, -⟩ | ⟨-, e⟩ <;> rw [e]
  · exact h
  · split <;> exact h.congr rfl rfl rfl

theorem Apart.openLid (h : Apart a s t) : Apart a s (t.openLid b p).2 := by
  rcases t.openLid_cases b p with e | ⟨-, -, -, -, e⟩ <;> rw [e]
  · exact h
  · exact .ite (h.congr rfl rfl rfl) (h.congr rfl rfl rfl)

theorem Apart.reexamine (h : Apart a s t) : Apart a s t.reexamine :=
  h.congr (congrArg State.sequencer t.reexamine_frame :) State.reexamine_reports State.reexamine_queue

/-- A grant takes the head out of the queue. -/
theorem Apart.grantTest (h : Apart a s t) : Apart a s t.grantTest := by
  rcases t.grantTest_cases with ⟨e, -⟩ | ⟨c, rest, -, hq, e⟩ <;> rw [e]
  · exact h
  · refine h.trans ⟨rfl, rfl, rfl, fun hout hin => hout ?_⟩
    rw [hq]
    exact List.mem_cons_of_mem _ hin

theorem Apart.freeRack (h : Apart a s t) : Apart a s t.freeRack :=
  .grantTest (.send (.reexamine (h.congr rfl rfl rfl)))

theorem Apart.releaseIfDone (h : Apart a s t) : Apart a s t.releaseIfDone := by
  unfold State.releaseIfDone
  split
  · exact h.freeRack
  · exact h

theorem Apart.rackEntry (h : Apart a s t) : Apart a s (t.rackEntry b) := by
  unfold State.rackEntry
  split
  · exact .ite (.ite (h.congr rfl rfl rfl) (h.congr rfl rfl rfl)) h
  · exact h

theorem Apart.rackExit (h : Apart a s t) : Apart a s (t.rackExit b) := by
  have hset (x : Arbiter) : Apart a s (t.setArbiter x) := h.congr rfl rfl rfl
  unfold State.rackExit
  split
  · exact .ite (hset _).releaseIfDone h
  · exact h

theorem Apart.rackChangeEnded (h : Apart a s t) : Apart a s (t.rackChangeEnded b) := by
  have hset (x : Arbiter) : Apart a s (t.setArbiter x) := h.congr rfl rfl rfl
  have hout : Apart a s (t.setQueue (t.rack.queue.filter (· != b))) :=
    h.trans ⟨rfl, rfl, rfl, fun hq hin => hq (List.mem_of_mem_filter hin)⟩
  refine .ite hout.grantTest ?_
  split
  · exact .ite (hset _).releaseIfDone h
  · exact h

theorem Apart.doubleFault (h : Apart a s t) : Apart a s (t.doubleFault b) := by
  have hlocked : Apart a s (((t.setArbiter .lockedOut).setQueue []).setGrantTimer none).reexamine :=
    .reexamine (h.trans ⟨rfl, rfl, rfl, fun _ => List.not_mem_nil⟩)
  have htold (arms : List Arm) {u : State} (hu : Apart a s u) : Apart a s (u.tellLockedOut arms) := by
    rw [State.tellLockedOut_eq]
    exact hu.congr rfl rfl rfl
  exact .ite h (htold _ hlocked).send.raise

/-! ### The moves of its tip that leave the heads (R18, R157) -/

theorem Apart.stowTransferComplete (h : Apart a s t) : Apart a s (t.stowTransferComplete b i).state := by
  unfold State.stowTransferComplete
  split
  · split
    · exact h.of_racking (State.moveTip_sequencer ..) (State.moveTip_racking ..)
    · exact h
  · exact h

theorem Apart.pickBegins (h : Apart a s t) : Apart a s (t.pickBegins b i).state := by
  unfold State.pickBegins
  split
  · split
    · exact h.of_racking (State.moveTip_sequencer ..) (State.moveTip_racking ..)
    · exact h
  · exact h

theorem Apart.transitResolved {occupied : Bool} (h : Apart a s t) : Apart a s (t.transitResolved b i occupied).state := by
  unfold State.transitResolved
  split
  · split
    · exact h.of_racking (State.moveTip_sequencer ..) (State.moveTip_racking ..)
    · exact h
  · exact h

theorem Apart.resolveTransit {tip : Option (Fin 64)} (h : Apart a s t) : Apart a s (t.resolveTransit b tip) := by
  unfold State.resolveTransit
  split
  · exact h.transitResolved
  · exact h

/-! ### The sequencer of another arm -/

variable (hb : b ≠ a)
include hb

theorem Apart.setChange {c : Change} (h : Apart a s t) : Apart a s (t.setChange b c) :=
  h.trans ⟨by simp [hb], rfl, rfl, id⟩

theorem Apart.setHead {v : Head} (h : Apart a s t) : Apart a s (t.setHead b v) :=
  h.trans ⟨rfl, by simp [hb], rfl, id⟩

theorem Apart.rackRequest (h : Apart a s t) : Apart a s (t.rackRequest b).2 := by
  have happended : Apart a s (t.setQueue (t.rack.queue ++ [b])) := by
    refine h.trans ⟨rfl, rfl, rfl, fun hq hin => ?_⟩
    rcases List.mem_append.mp hin with hin | hin
    · exact hq hin
    · exact hb (List.mem_singleton.mp hin).symm
  rcases t.rackRequest_cases b with e | ⟨_, _, -, -, e⟩ | ⟨-, -, e⟩ <;> rw [e]
  · exact h
  · exact h.congr rfl rfl rfl
  · exact happended.grantTest

theorem Apart.takeReport {r : PocketReport} (h : Apart a s t) : Apart a s (t.takeReport b r) := by
  have hkept : Apart a s (t.keeping b r) := h.trans ⟨rfl, rfl, Two.get_set_ne _ _ hb, id⟩
  rw [State.takeReport_eq rfl]
  cases (t.keeping b r).suppressionEnds (t.report b) with
  | none => exact .ite hkept.reexamine hkept
  | some p => exact .ite hkept.compareIfWatched.reexamine hkept.compareIfWatched

/-! ### The moves of its tip that its head follows (R18, R19) -/

theorem Apart.stowReleaseBegins (h : Apart a s t) : Apart a s (t.stowReleaseBegins b i).state := by
  unfold State.stowReleaseBegins
  split
  · split
    · exact .setHead hb (h.of_racking (State.moveTip_sequencer ..) (State.moveTip_racking ..))
    · exact h
  · exact h

theorem Apart.moduleLost (h : Apart a s t) : Apart a s (t.moduleLost b).state := by
  unfold State.moduleLost
  split
  · obtain ⟨_, _, hframe⟩ := t.loseMounted_frame (a := b) none
    exact .setHead hb (h.of_racking (congrArg State.sequencer hframe :) (State.loseMounted_racking none))
  · exact h

/-! ### The stages and the end of its change (R143 to R157) -/

theorem Apart.sendReport {pocket : Option (Fin 20)} {suppressed stow : Bool} (h : Apart a s t) :
    Apart a s (t.sendReport b pocket suppressed stow) := .takeReport hb (.setChange hb h)

theorem Apart.enterStage {st : ChangeState} {timer : Timer} (h : Apart a s t) : Apart a s (t.enterStage b st timer) :=
  .send (.setChange hb h)

theorem Apart.finishChange {r : ChangeResult} (h : Apart a s t) : Apart a s (t.finishChange b r) :=
  .raise (.setChange hb (.rackChangeEnded (.sendReport hb (.setChange hb h))))

theorem Apart.endChange {r : ChangeResult} (h : Apart a s t) : Apart a s (t.endChange b r) :=
  .ite (.setChange hb (.finishChange hb h)) (.finishChange hb h)

theorem Apart.faultChange {r : ChangeResult} (h : Apart a s t) : Apart a s (t.faultChange b r) :=
  .enterStage hb (.sendReport hb (.setHead hb (.setChange hb h)))

theorem Apart.resolveAndEnd (h : Apart a s t) : Apart a s (t.resolveAndEnd b) :=
  .endChange hb (.sendReport hb (.resolveTransit (.resolveTransit h)))

theorem Apart.identifyHead (h : Apart a s t) : Apart a s (t.identifyHead b) :=
  have hwaits {c : Change} := h.setChange hb (c := c)
  .ite (.setHead hb (.setHead hb hwaits)) (.resolveAndEnd hb (.setHead hb (.moduleLost hb hwaits)))

theorem Apart.changeDoubleFault (h : Apart a s t) : Apart a s (t.changeDoubleFault b) :=
  .identifyHead hb (.doubleFault (.setChange hb h))

theorem Apart.enterFetchApproach (h : Apart a s t) : Apart a s (t.enterFetchApproach b) :=
  .enterStage hb (.ite h (.sendReport hb h))

theorem Apart.takeGrant (h : Apart a s t) : Apart a s (t.takeGrant b) :=
  .ite (.ite (.enterStage hb (.sendReport hb h)) (.enterFetchApproach hb h)) h

theorem Apart.acceptChange {q : ChangeRequest} (h : Apart a s t) : Apart a s (t.acceptChange b q) := by
  have hasked : Apart a s (((t.setChange b ((t.change b).accepted q (t.mountedTip b))).disarm b).rackRequest b).2 :=
    .rackRequest hb (.disarm (.setChange hb h))
  simp only [State.acceptChange]
  split <;> rename_i e <;> rw [e] at hasked
  · exact hasked.takeGrant hb
  · exact hasked
  · exact hasked.endChange hb

theorem Apart.completeChange (h : Apart a s t) : Apart a s (t.completeChange b) := by
  have hdone : Apart a s (t.finishChange b .completed) := h.finishChange hb
  simp only [State.completeChange, State.startStaged]
  split
  · exact hdone
  · split
    · exact hdone.setChange hb
    · exact .raise (.setChange hb (hdone.setChange hb))
    · exact .acceptChange hb (hdone.setChange hb)

theorem Apart.openAt {next : ChangeState} (h : Apart a s t) : Apart a s (t.openAt b p next) := by
  have hopened : Apart a s ((t.stopTimer b).openLid b p).2 := .openLid (.setChange hb h)
  unfold State.openAt
  split <;> rename_i e <;> rw [e] at hopened
  · exact hopened.faultChange hb
  · exact hopened.faultChange hb
  · exact .enterStage hb (hopened.setChange hb)

theorem Apart.closeAt (e : t.closeAt b p = some u) (h : Apart a s t) : Apart a s u := by
  have hl : Apart a s (t.closeLid p).2 := h.closeLid
  unfold State.closeAt at e
  split at e <;> rename_i he <;> rw [he] at hl <;> cases e
  · exact hl.setChange hb
  · exact hl

theorem Apart.closeAll {lids : List (Fin 20)} (h : Apart a s t) : Apart a s (t.closeAll b lids).1 := by
  unfold State.closeAll
  generalize false = jammed
  induction lids generalizing t jammed with
  | nil => exact h
  | cons p l ih =>
    rw [List.foldl_cons]
    dsimp only
    split
    · exact ih (h.setChange hb) true
    · next e => exact ih (h.closeAt hb e) jammed

theorem Apart.beginStow (h : Apart a s t) : Apart a s (t.beginStow b p) := by
  unfold State.beginStow
  split
  · exact h.faultChange hb
  · next i _ =>
    have hbegun : Apart a s (t.stowReleaseBegins b i).state := h.stowReleaseBegins hb
    exact .ite (.enterStage hb (.sendReport hb hbegun)) (hbegun.faultChange hb)

theorem Apart.completeStow (h : Apart a s t) : Apart a s (t.completeStow b p) := by
  unfold State.completeStow
  split
  · exact h.faultChange hb
  · next i _ =>
    have hmoved : Apart a s ((t.stopTimer b).stowTransferComplete b i).state := .stowTransferComplete (h.setChange hb)
    have hpending (c : Change) : Apart a s
        ((((t.stopTimer b).stowTransferComplete b i).state.sendReport b (some p) false false).setChange b c) :=
      .setChange hb (hmoved.sendReport hb)
    exact .ite (.ite ((hpending _).enterFetchApproach hb) ((hpending _).enterStage hb)) (hmoved.faultChange hb)

theorem Apart.beginPick (h : Apart a s t) : Apart a s (t.beginPick b p) := by
  unfold State.beginPick
  split
  · exact h.faultChange hb
  · next i _ =>
    have hbegun : Apart a s (t.pickBegins b i).state := h.pickBegins
    exact .ite (.enterStage hb (.sendReport hb hbegun)) (hbegun.faultChange hb)

theorem Apart.closeStowLid (h : Apart a s t) : Apart a s (t.closeStowLid b p) := by
  unfold State.closeStowLid
  split
  · exact .faultChange hb (h.setChange hb)
  · next e => exact .send (.sendReport hb (.closeAt hb e (h.setChange hb)))

theorem Apart.clearStage (h : Apart a s t) : Apart a s (t.clearStage b p) := by
  unfold State.clearStage
  split
  · refine .ite ?_ h
    dsimp only
    split
    · exact .faultChange hb (.setChange hb (h.setChange hb))
    · next e => exact .send (.closeAt hb e (h.setChange hb))
  · exact .ite (h.completeChange hb) h

theorem Apart.makeRackSafe (h : Apart a s t) : Apart a s (t.makeRackSafe b) := by
  have hclosed {c : Change} := Apart.closeAll hb (h.setChange hb (c := c)) (lids := (t.change b).opened)
  simp only [State.makeRackSafe]
  split
  · exact .ite (.ite (hclosed.changeDoubleFault hb) hclosed.send) h
  · exact .ite (h.identifyHead hb) h
  · exact h

theorem Apart.advance (h : Apart a s t) : Apart a s (t.advance b) := by
  have hidentify : Apart a s (t.beginIdentify b) :=
    .enterStage hb (.setHead hb (.setHead hb (h.setChange hb)))
  unfold State.advance
  dsimp only
  split
  case h_1 => exact h.makeRackSafe hb
  case h_2 => exact .ite (h.openAt hb) h
  case h_3 => exact .ite (h.faultChange hb) (.ite (h.beginStow hb) h)
  case h_4 => exact .ite (h.faultChange hb) (.ite (h.completeStow hb) h)
  case h_5 => exact h.clearStage hb
  case h_6 => exact .ite (.ite (h.closeStowLid hb) h) (.ite (h.openAt hb) h)
  case h_7 => exact .ite (h.faultChange hb) (.ite (h.beginPick hb) h)
  case h_8 => exact .ite (h.faultChange hb) (.ite hidentify h)
  case h_9 => exact h.clearStage hb
  case h_10 => exact h

/-! ### The news it takes (R141, R144 to R151) -/

theorem Apart.lidNews (h : Apart a s t) : Apart a s (t.lidNews b p) := by
  have hdrop : Apart a s (t.dropOpened b p) := h.setChange hb
  refine .ite ?_ h
  split
  · exact hdrop.send
  · exact h.send
  · exact .ite (hdrop.faultChange hb) (.ite (hdrop.changeDoubleFault hb) hdrop)
  · exact h

theorem Apart.occupancyNews (h : Apart a s t) : Apart a s (t.occupancyNews b p) := by
  have hfault : Apart a s (t.pocketFault b) := .ite (h.endChange hb) (h.faultChange hb)
  simp only [State.occupancyNews]
  split
  case h_1 | h_2 | h_3 | h_4 | h_5 => exact .ite hfault h
  case h_6 | h_7 => exact h.send
  case h_8 => exact h

theorem Apart.takeLapse (h : Apart a s t) : Apart a s (t.takeLapse b) := .ite (h.faultChange hb) h

theorem Apart.takeLockout (h : Apart a s t) : Apart a s (t.takeLockout b) :=
  .ite (h.endChange hb) (.ite (h.faultChange hb) h)

end

section
variable {s t : State} {a b : Arm}

/-- The zone monitor takes a grantee and leaves the sequencers (R168). -/
theorem Apart.takeGrantee {g : Option Arm} (h : Apart a s t) : Apart a s (t.takeGrantee g) := by
  refine State.takeGrantee_keeps (P := Apart a s) (fun {u k} hu _ => ?_) (h.congr rfl rfl rfl) fun b _ =>
    Apart.rackEntry (h.congr rfl rfl rfl)
  have hsets : Apart a s (u.judgedSets k) :=
    hu.of_racking State.judgedSets_monitorOnly.sequencer_eq State.judgedSets_monitorOnly.racking_eq
  rw [State.judgeOne_eq]
  exact .ite (.ite hsets.rackEntry (.ite hsets.rackExit hsets)) hsets

/-- An arm without a change and without an opened lid is left as it is by every message. -/
theorem Apart.takeMessage (hidle : (s.change a).state = .idle) (hopen : (s.change a).opened = []) (h : Apart a s t)
    (m : Message) : Apart a s (t.takeMessage m) := by
  have hlid {p : Fin 20} {u : State} (hu : Apart a s u) (b : Arm) : Apart a s (u.lidNews b p) := by
    by_cases hb : b = a
    · subst hb
      rwa [State.lidNews_unopened (by rw [hu.change, hopen]; exact List.not_mem_nil)]
    · exact hu.lidNews hb
  have hoccupancy {p : Fin 20} {u : State} (hu : Apart a s u) (b : Arm) : Apart a s (u.occupancyNews b p) := by
    by_cases hb : b = a
    · subst hb
      rwa [State.occupancyNews_idle (by rw [hu.change, hidle])]
    · exact hu.occupancyNews hb
  have hchange : (t.change a).state = .idle := by rw [h.change, hidle]
  have hignored {m : Message} (hm : t.Ignores m) : Apart a s (t.takeMessage m) := by
    rw [State.takeMessage_ignored hm]
    exact h.of_racking rfl rfl
  cases m with
  | granted b =>
    by_cases hb : b = a
    · exact hignored (by simp [State.Ignores, hb, hchange])
    · exact h.takeGrant hb
  | lapsed b =>
    by_cases hb : b = a
    · exact hignored (by simp [State.Ignores, hb, hchange, ChangeState.afterGrant])
    · exact h.takeLapse hb
  | lockedOut b =>
    by_cases hb : b = a
    · exact hignored (by simp [State.Ignores, hb, hchange, ChangeState.afterGrant])
    · exact h.takeLockout hb
  | grantee g => exact h.takeGrantee
  | lidChanged p => exact hlid (hlid h .zero) .one
  | occupancyChanged p => exact hoccupancy (hoccupancy h .zero) .one
  | testStage b =>
    by_cases hb : b = a
    · exact hignored (.inl (hb ▸ hchange))
    · exact h.advance hb

/-- So is it by the settling of the part. -/
theorem Apart.settleN (hidle : (s.change a).state = .idle) (hopen : (s.change a).opened = []) (n : Nat)
    (h : Apart a s t) : Apart a s (t.settleN n) :=
  State.settleN_keeps (fun _ _ h => h.of_racking rfl rfl) (fun _ m h => h.takeMessage hidle hopen m) n t h

end

end Sys2Proof.Machine
end

section
/-! SUPPORT. A mounted module that goes (spec 08, R158; spec 01, R19), and a waiting change that ends. -/

namespace Sys2Proof.Machine

section
variable {s : State} {a : Arm} {i : Fin 64} {v : Tip} {j : Fin 14}

theorem State.addCause_keeps_flag (c : HoldCause) (h : s.attention.sources[j].flag = true) :
    (s.addCause a c).attention.sources[j].flag = true := by
  rcases s.addCause_cases a c with ⟨-, e⟩ | ⟨-, -, e⟩ | ⟨-, -, e⟩ <;> rw [e]
  · exact h
  · exact State.raise_keeps_flag _ h
  · exact h

theorem Library.eq_of_fields {b c : Library} (htips : b.tips = c.tips) (hwindow : b.driftWindow = c.driftWindow) :
    b = c := by
  cases b
  cases c
  cases htips
  cases hwindow
  rfl

/-- The loss of the one mounted record (R19). -/
theorem State.loseMounted_library (hm : Mounted s a (some i)) (hv : s.library.tips[i] = .active v) :
    (s.loseMounted a none).library = (s.setTip i (.active { v with location := .missing })).library := by
  have hmounted (k : Fin 64) : s.losesMounted a none k = true ↔ k = i := by
    rw [State.losesMounted_iff, ← hm k]
    simp [eq_comm]
  have hslot (k : Fin 64) : (s.loseMounted a none).library.tips[k] =
      (s.setTip i (.active { v with location := .missing })).library.tips[k] := by
    rw [State.loseMounted_tip]
    by_cases hk : k = i
    · subst hk
      simp [(hmounted k).mpr rfl, hv, TipSlot.toMissing]
    · rw [if_neg (fun h => hk ((hmounted k).mp h))]
      exact ((upd_get _ _ _ _).trans (if_neg (Ne.symm hk))).symm
  have hwindow : (s.loseMounted a none).library.driftWindow = s.library.driftWindow := by
    unfold State.loseMounted
    split
    · rw [State.raise_library]
    · rfl
  exact Library.eq_of_fields (Vector.ext fun k hk => hslot ⟨k, hk⟩) hwindow

theorem State.moduleLost_mounted (hm : Mounted s a (some i)) :
    (s.moduleLost a).state = (s.loseMounted a none).headBecomes a .empty := by
  rw [State.moduleLost_applied ⟨i, (hm i).mp rfl⟩]

/-- A breakaway: the tip is MISSING, the head EMPTY and the arm held, and the rack and the changes stay (R158). -/
theorem State.headEvent_breakaway (hp : s.present a = true) (hgone : (s.head a).modulePresent = false)
    (htip : (s.head a).state = .tip) (hm : Mounted s a (some i)) (hv : s.library.tips[i] = .active v) :
    (s.headEvent a).library = (s.setTip i (.active { v with location := .missing })).library ∧
    (s.headEvent a).head a = { s.head a with state := .empty, allowUnqualified := false } ∧
    ((s.headEvent a).zones.hold.get a).causes = (s.zones.hold.get a).causes.add .collision ∧
    (s.headEvent a).attention.sources[10].flag = true ∧
    (∀ j : Fin 14, s.attention.sources[j].flag = true → (s.headEvent a).attention.sources[j].flag = true) ∧
    (s.headEvent a).sequencer.change = s.sequencer.change ∧ (s.headEvent a).rack = s.rack ∧
    (s.headEvent a).mail = s.mail := by
  have hevent : s.headEvent a =
      (((s.loseMounted a none).headBecomes a .empty).headBecomes a .empty).addCause a .collision := by
    rw [← State.moduleLost_mounted hm]
    simp [State.headEvent, hgone, htip]
  obtain ⟨b, r, hlost⟩ := s.loseMounted_frame (a := a) none
  have hlibrary := State.loseMounted_library hm hv
  have hraised : (s.loseMounted a none).attention.sources[10].flag = true := by
    obtain ⟨w, hw, hl⟩ := (hm i).mp rfl
    exact State.loseMounted_raised ⟨i, w, Option.some_ne_none i, hw, hl⟩
  have hkept (j : Fin 14) (h : s.attention.sources[j].flag = true) :
      (s.loseMounted a none).attention.sources[j].flag = true := by
    unfold State.loseMounted
    split
    · exact State.raise_keeps_flag .tip h
    · exact h
  rw [hevent]
  generalize s.loseMounted a none = t at hlost hlibrary hraised hkept ⊢
  have hframe := State.addCause_frame (s := (t.headBecomes a .empty).headBecomes a .empty) (a := a) .collision
  have hpresent : ((t.headBecomes a .empty).headBecomes a .empty).present a = true := by
    rw [hlost]
    exact (State.present_congr rfl).trans hp
  have hzones := State.addCause_zones (s := (t.headBecomes a .empty).headBecomes a .empty) .collision hpresent
  have hsequencer := congrArg State.sequencer hframe
  refine ⟨(congrArg State.library hframe).trans hlibrary, ?_, ?_, ?_, ?_, ?_, (congrArg State.rack hframe).trans ?_,
    (congrArg State.mail hframe).trans ?_⟩
  · have hhead : t.head a = s.head a := by
      rw [hlost]
      rfl
    refine (congrArg (fun q : Sequencer => q.head.get a) hsequencer).trans ?_
    exact (Two.get_set_same ..).trans (by simp [hhead])
  · have hcauses : t.zones = s.zones := by
      rw [hlost]
    rw [hzones]
    exact (congrArg HoldRecord.causes (Two.get_set_same ..)).trans (by rw [← hcauses]; rfl)
  · exact State.addCause_keeps_flag (s := (t.headBecomes a .empty).headBecomes a .empty) (j := 10) .collision hraised
  · exact fun j h => State.addCause_keeps_flag (s := (t.headBecomes a .empty).headBecomes a .empty) .collision (hkept j h)
  · refine (congrArg Sequencer.change hsequencer).trans ?_
    rw [hlost]
    rfl
  · rw [hlost]
    rfl
  · rw [hlost]
    rfl

end

end Sys2Proof.Machine
end

section
/-! SUPPORT. What the end of a change and a fault leave: the home of every record and the occupancy of every pocket; and
the arm's own record, whatever the rack makes of it (spec 08, R151, R152). -/

namespace Sys2Proof.Machine

/-- The home of every record, and which pockets are observed OCCUPIED. -/
def State.housing (s : State) : (Fin 64 → Option (Fin 20)) × (Fin 20 → Bool) :=
  (fun i => s.homeOf (some i), fun p => (s.pocket p).occupied)

section
variable {s t : State} {a b : Arm} {p : Fin 20} {i : Fin 64} {v : Tip} {result : ChangeResult}

theorem State.homeOf_eq : s.homeOf (some i) = s.library.tips[i].tip.map Tip.home := rfl

theorem State.housing_homeOf (h : t.housing = s.housing) (tip : Option (Fin 64)) : t.homeOf tip = s.homeOf tip := by
  cases tip with
  | none => rfl
  | some i => exact congrFun (congrArg Prod.fst h) i

theorem State.housing_occupied (h : t.housing = s.housing) : (t.pocket p).occupied = (s.pocket p).occupied :=
  congrFun (congrArg Prod.snd h) p

theorem State.housing_ext (hhome : ∀ i, t.homeOf (some i) = s.homeOf (some i))
    (hoccupied : ∀ p : Fin 20, (t.pocket p).occupied = (s.pocket p).occupied) : t.housing = s.housing :=
  congrArg₂ Prod.mk (funext hhome) (funext hoccupied)

theorem State.housing_congr (hlibrary : t.library = s.library) (hpockets : t.rack.pockets = s.rack.pockets) :
    t.housing = s.housing := by
  unfold State.housing
  congr 1
  · funext i
    rw [State.homeOf_eq, State.homeOf_eq, hlibrary]
  · funext p
    rw [State.pocket_congr hpockets]

@[simp] theorem State.setPocket_housing {r : Pocket} (h : r.occupied = (s.pocket p).occupied) :
    (s.setPocket p r).housing = s.housing := by
  unfold State.housing
  congr 1
  funext q
  rw [State.pocket_setPocket]
  split
  · subst q
    exact h
  · rfl

@[simp] theorem State.raise_housing (src : AttnSource) : (s.raise src).housing = s.housing :=
  State.housing_congr (s.raise_library src) (congrArg Rack.pockets (s.raise_rack src))

theorem State.setTip_housing {slot : TipSlot} (h : slot.tip.map Tip.home = s.homeOf (some i)) :
    (s.setTip i slot).housing = s.housing := by
  unfold State.housing
  congr 1
  funext j
  rw [State.homeOf_eq, State.setTip_library]
  refine (congrArg (fun x : TipSlot => x.tip.map Tip.home) (upd_get _ _ _ _)).trans ?_
  split
  · subst j
    exact h
  · rfl

theorem State.moveTip_housing (hv : s.activeTip i = some v) {w : Tip} (hw : w.home = v.home) (loc : Location) :
    (s.moveTip i w loc).housing = s.housing := by
  have hset (l : Location) : (s.setTip i (.active { w with location := l })).housing = s.housing := by
    refine State.setTip_housing ?_
    rw [State.homeOf_active ((s.activeTip_eq_some_iff i v).mp hv), ← hw]
    rfl
  cases loc with
  | missing => exact (State.raise_housing _).trans (hset _)
  | inPocket =>
    refine (State.setPocket_housing ?_).trans (hset .inPocket)
    rfl
  | onArm | inTransit => exact hset _

theorem State.compareIfWatched_housing : (s.compareIfWatched p).housing = s.housing := by
  have hempty : (s.libraryHomeEmpty p).state.housing = s.housing := by
    unfold State.libraryHomeEmpty
    split
    · rfl
    · split
      · next hv =>
        split
        · exact State.moveTip_housing hv rfl _
        · rfl
      · rfl
  have hoccupied : (s.libraryHomeOccupied p).state.housing = s.housing := by
    unfold State.libraryHomeOccupied
    split
    · rfl
    · split
      · next hv =>
        split
        · exact (State.raise_housing _).trans (State.moveTip_housing hv (by rfl) _)
        · rfl
      · rfl
  unfold State.compareIfWatched State.compare
  split
  · rfl
  · split
    · simp only [State.seenEmpty]
      split
      · exact (State.raise_housing _).trans hempty
      · exact hempty
    · simp only [State.seenOccupied]
      split
      · exact hoccupied
      · refine (State.raise_housing _).trans ((State.setPocket_housing ?_).trans hoccupied)
        rfl
    · rfl

theorem State.reexamine_housing : s.reexamine.housing = s.housing := by
  refine State.housing_ext (fun i => ?_) fun p => ?_
  · rw [State.homeOf_eq, State.reexamine_library, State.homeOf_eq]
  · rw [State.reexamine_pocket, apply_ite Pocket.occupied]
    exact ite_self _

theorem State.takeReport_housing {r : PocketReport} : (s.takeReport a r).housing = s.housing := by
  have hkept : (s.keeping a r).housing = s.housing := State.housing_congr rfl rfl
  have helim : (((s.keeping a r).suppressionEnds (s.report a)).elim (s.keeping a r)
      (s.keeping a r).compareIfWatched).housing = s.housing := by
    cases (s.keeping a r).suppressionEnds (s.report a) with
    | none => exact hkept
    | some p => exact State.compareIfWatched_housing.trans hkept
  rw [State.takeReport_eq rfl]
  split
  · exact State.reexamine_housing.trans helim
  · exact helim

theorem State.grantTest_housing : s.grantTest.housing = s.housing := by
  rcases s.grantTest_cases with ⟨e, -⟩ | ⟨_, _, -, -, e⟩ <;> rw [e]
  exact State.housing_congr rfl rfl

theorem State.freeRack_housing : s.freeRack.housing = s.housing := by
  have hsend (u : State) (m : Message) : (u.send m).housing = u.housing := State.housing_congr rfl rfl
  have hstart : ((s.setArbiter .free).setGrantTimer none).housing = s.housing := State.housing_congr rfl rfl
  rw [State.freeRack, State.grantTest_housing, hsend, State.reexamine_housing, hstart]

theorem State.rackChangeEnded_housing : (s.rackChangeEnded a).housing = s.housing := by
  have hset (x : Arbiter) : (s.setArbiter x).releaseIfDone.housing = s.housing := by
    unfold State.releaseIfDone
    split
    · exact State.freeRack_housing.trans (State.housing_congr rfl rfl)
    · exact State.housing_congr rfl rfl
  unfold State.rackChangeEnded
  split
  · exact State.grantTest_housing.trans (State.housing_congr rfl rfl)
  · split
    · split
      · exact hset _
      · rfl
    · rfl

theorem State.endChange_housing : (s.endChange a result).housing = s.housing := by
  have hset {u : State} {c : Change} : (u.setChange a c).housing = u.housing := State.housing_congr rfl rfl
  have hfinish : (s.finishChange a result).housing = s.housing := by
    unfold State.finishChange State.sendReport
    rw [State.raise_housing, hset, State.rackChangeEnded_housing, State.takeReport_housing, hset, hset]
  unfold State.endChange State.discardStaged
  dsimp only
  split
  · exact hset.trans hfinish
  · exact hfinish

theorem State.faultChange_housing : (s.faultChange a result).housing = s.housing := by
  unfold State.faultChange State.enterStage State.sendReport
  refine (State.housing_congr rfl rfl).trans (State.takeReport_housing.trans ?_)
  exact State.housing_congr rfl rfl

theorem State.occupancyNews_housing : (s.occupancyNews a p).housing = s.housing := by
  have hfault : (s.pocketFault a).housing = s.housing := by
    unfold State.pocketFault
    split
    · exact State.endChange_housing
    · exact State.faultChange_housing
  simp only [State.occupancyNews]
  split
  case h_1 | h_2 | h_3 | h_4 | h_5 =>
    split
    · exact hfault
    · rfl
  case h_6 | h_7 => exact State.housing_congr rfl rfl
  case h_8 => rfl

/-! ### The arm's own record at the end of its change (R152) -/

theorem State.takeReport_sequencer {r : PocketReport} : (s.takeReport a r).sequencer = s.sequencer := by
  have hkept : (s.keeping a r).sequencer = s.sequencer := rfl
  have hreexamine (u : State) : u.reexamine.sequencer = u.sequencer := (congrArg State.sequencer u.reexamine_frame :)
  have helim : (((s.keeping a r).suppressionEnds (s.report a)).elim (s.keeping a r)
      (s.keeping a r).compareIfWatched).sequencer = s.sequencer := by
    cases (s.keeping a r).suppressionEnds (s.report a) with
    | none => exact hkept
    | some p =>
      obtain ⟨_, _, _, hframe⟩ := (s.keeping a r).compareIfWatched_frame (p := p)
      exact (congrArg State.sequencer hframe :).trans hkept
  rw [State.takeReport_eq rfl]
  split
  · exact (hreexamine _).trans helim
  · exact helim

theorem State.takeReport_report {r : PocketReport} : (s.takeReport a r).report a = r := by
  have hkept : (s.keeping a r).rack.reports = s.rack.reports.set a r := rfl
  have helim : (((s.keeping a r).suppressionEnds (s.report a)).elim (s.keeping a r)
      (s.keeping a r).compareIfWatched).rack.reports = s.rack.reports.set a r := by
    cases (s.keeping a r).suppressionEnds (s.report a) with
    | none => exact hkept
    | some p => exact (congrArg Racking.reports State.compareIfWatched_racking :).trans hkept
  have hreports : (s.takeReport a r).rack.reports = s.rack.reports.set a r := by
    rw [State.takeReport_eq rfl]
    split
    · exact State.reexamine_reports.trans helim
    · exact helim
  rw [State.report, hreports, Two.get_set_same]

theorem State.not_mem_rackChangeEnded_queue : a ∉ (s.rackChangeEnded a).rack.queue := by
  by_cases hq : a ∈ s.rack.queue
  · rw [State.rackChangeEnded, if_pos (by simpa using hq)]
    exact (Apart.refl a (s.setQueue (s.rack.queue.filter (· != a)))).grantTest.queue (by simp)
  · exact (Apart.refl a s).rackChangeEnded.queue hq

theorem State.rackChangeEnded_keeps :
    (s.rackChangeEnded a).sequencer = s.sequencer ∧ (s.rackChangeEnded a).report b = s.report b :=
  ⟨(RackOnly.rackChangeEnded (.refl s)).sequencer_eq, (Apart.refl b s).rackChangeEnded.report⟩

/-- Whatever the rack makes of it, the change has ended, its report is withdrawn, and the arm is out of the queue. -/
theorem State.finishChange_own : (s.finishChange a result).change a = (s.change a).finished result ∧
    (s.finishChange a result).report a = .none ∧ a ∉ (s.finishChange a result).rack.queue ∧
    (s.finishChange a result).head a = s.head a := by
  obtain ⟨t, ht⟩ : ∃ t, t = s.setChange a { s.change a with
    state := .idle, timer := none, target := none, stowing := none, opened := [], faultResult := none } := ⟨_, rfl⟩
  obtain ⟨u, hu⟩ : ∃ u, u = (t.sendReport a none false false).rackChangeEnded a := ⟨_, rfl⟩
  have hsequencer : u.sequencer = (t.setChange a { t.change a with current := none }).sequencer := by
    rw [hu, (State.rackChangeEnded_keeps (b := a)).1]
    exact State.takeReport_sequencer
  have hchange : u.change a = { t.change a with current := none } := by
    rw [State.change, hsequencer]
    exact State.change_setChange_same (s := t)
  have hhead : u.head a = s.head a := by
    rw [State.head, hsequencer, ht]
    rfl
  have hreport : u.report a = .none := by
    rw [hu, (State.rackChangeEnded_keeps (b := a)).2]
    exact State.takeReport_report
  have hqueue : a ∉ u.rack.queue := by
    rw [hu]
    exact State.not_mem_rackChangeEnded_queue
  have hfinish : s.finishChange a result =
      (u.setChange a { u.change a with last := some (result, (s.change a).double) }).raise (.change a) := by
    subst hu ht
    rfl
  have hraised : Apart a (u.setChange a { u.change a with last := some (result, (s.change a).double) })
      (s.finishChange a result) := hfinish ▸ (Apart.refl a _).raise
  refine ⟨hraised.change.trans ?_, hraised.report.trans hreport, hraised.queue hqueue, hraised.head.trans hhead⟩
  rw [State.change_setChange_same, hchange, ht, State.change_setChange_same]
  rfl

theorem State.endChange_own : (s.endChange a result).change a = (s.change a).ended result ∧
    (s.endChange a result).report a = .none ∧ a ∉ (s.endChange a result).rack.queue ∧
    (s.endChange a result).head a = s.head a := by
  obtain ⟨hchange, hreport, hqueue, hhead⟩ := State.finishChange_own (s := s) (a := a) (result := result)
  unfold State.endChange State.discardStaged
  dsimp only
  rw [hchange]
  split
  · next hstaged =>
    have hsome : (s.change a).staged ≠ none := Option.isSome_iff_ne_none.mp hstaged
    refine ⟨?_, hreport, hqueue, hhead⟩
    rw [State.change_setChange_same]
    simp [Change.ended, Change.finished, hsome]
  · next hstaged =>
    have hnone : (s.change a).staged = none := Option.not_isSome_iff_eq_none.mp hstaged
    refine ⟨hchange.trans ?_, hreport, hqueue, hhead⟩
    simp [Change.ended, Change.finished, hnone]

end

end Sys2Proof.Machine
end

section
/-! PROOF. CHANGE_ABORT, the messages of the arbiter, and the ends of a change that waits for the rack (O49). -/

namespace Sys2Proof.Machine

section
variable {s t u : State} {a : Arm} {p : Fin 20} {i : Fin 64} {v : Tip} {c : Instr} {body : State → Reply}

/-- A request taken whose block sends no message. -/
theorem request_settled (ht : s.takesRequests) {r : Reply} (hb : body s = r) (hm : r.state.mail = []) :
    done (s.event fun s => (s.request c body).settle) = .next (s.respond c r) := by
  have hquiet : (s.respond c r).quiet := hm
  rw [State.event_on _ _ ht.1, State.request_taken _ _ _ ht, hb, State.settle_of_quiet _ hquiet]
  rfl

theorem changeAbortReq_eq {arm : Byte} (hp : s.present a = true) (ha : arm.toNat = a.toNat) :
    changeAbortReq arm s = changeAbortBody a s := by
  simp [changeAbortReq, sideArg_of_toNat ha, State.absentArm, hp]

theorem Change.ended_single {c : Change} {result : ChangeResult} (h : c.double = false) : c.ended result =
    { c with
      state := .idle, timer := none, target := none, stowing := none, opened := [], faultResult := none
      current := none, last := some (result, false), staged := none
      stagedOutcome := if c.staged = none then c.stagedOutcome else .discarded } :=
  congrArg (fun d => { c.finished result with
    last := some (result, d), staged := none, stagedOutcome := if c.staged = none then c.stagedOutcome else .discarded }) h

/-- What a withdrawn change leaves. -/
theorem State.withdrawn_change {d : Change} : (s.withdrawn a d).change a = d := State.change_setChange_same (s := s)

theorem State.withdrawn_change_other {d : Change} : (s.withdrawn a d).change a.other = s.change a.other :=
  Two.get_set_other ..

theorem State.withdrawn_report {d : Change} : (s.withdrawn a d).report a = .none := Two.get_set_same ..

theorem State.not_mem_withdrawn_queue {d : Change} : a ∉ (s.withdrawn a d).rack.queue := by
  simp [State.withdrawn]

theorem State.grantedTo_other {acknowledged inside ended : Bool}
    (h : s.rack.arbiter = .granted a.other acknowledged inside ended) : s.grantedTo a = false := by
  simp [State.grantedTo, h]

/-- CHANGE_ABORT of a change that waits. -/
theorem changeAbort_waiting (hw : (s.change a).state = .waitingRack) {acknowledged inside ended : Bool}
    (harb : s.rack.arbiter = .granted a.other acknowledged inside ended) (hu : (s.report a).suppressed = false) :
    changeAbortBody a s = accept [] (s.withdrawn a ((s.change a).ended .aborted)) := by
  simp only [changeAbortBody, hw]
  rw [State.endChange_withdraws (State.grantedTo_other harb) (by simp [harb]) hu]

/-- The rack passes to a change that waits (R128, R130, R142). -/
theorem State.settle_passes (hm : s.mail = []) (hd : ∀ q : Fin 20, (s.pocket q).drive = false)
    (hout : ∀ b : Arm, s.insideRack b = false) (hq : s.rack.queue = [a]) (hw : (s.change a).state = .waitingRack)
    (hu : (s.report a).suppressed = false) (hp : s.Approaches a p)
    (hdock : ∀ q b, (s.change a).lastReference = some q → (s.pocket p).dock.get a = some b → b.contains q = false) :
    s.freeRack.settle = { s.approaching a p with
      rack := { s.rack with
        arbiter := .granted a false false false, queue := [], grantTimer := some s.rack.grantTimeout
        reports := s.rack.reports.set a { pocket := some p, suppressed := false, stow := false } }
      zones := { s.zones with grantee := some a } } := by
  obtain ⟨x, hx⟩ : ∃ x : State, x = { s with
      rack := { s.rack with
        arbiter := .granted a false false false, queue := [], grantTimer := some s.rack.grantTimeout }
      zones := { s.zones with grantee := none }, mail := [.grantee (some a)] } := ⟨_, rfl⟩
  have hfirst : s.freeRack.settle = State.settleN 254 (x.takeGrant a) := by
    rw [State.freeRack_passes hd hq, hm]
    refine (State.settleN_ignored (l := [.grantee none]) 255 rfl ?_).trans ?_
    · exact List.forall_mem_singleton.mpr hout
    · rw [State.settleN_cons (m := .granted a) (rest := [.grantee (some a)]) 254 rfl, hx]
      rfl
  have happroaches : x.takeGrant a = (x.approaching a p).send (.testStage a) := by
    subst x
    exact State.takeGrant_approaches hw hp ⟨.inl hu, .inr (.inr hd)⟩
  have hrests : (x.approaching a p).Rests a := by
    obtain ⟨i, v, htip, -⟩ := hp
    subst x
    refine State.approaching_rests (fun hnone => ?_) hdock
    rcases htip with hstow | ⟨-, -, hclose⟩
    · exact absurd (hstow.symm.trans hnone) (Option.some_ne_none i)
    · exact hclose
  have hmail : ((x.approaching a p).send (.testStage a)).mail = [.grantee (some a), .testStage a] := by
    subst x
    rfl
  have hignores : ∀ m ∈ ((x.approaching a p).send (.testStage a)).mail,
      ((x.approaching a p).send (.testStage a)).Ignores m := by
    have houtside (b : Arm) : ((x.approaching a p).send (.testStage a)).insideRack b = false := by
      subst x
      exact hout b
    rw [hmail]
    simp only [List.forall_mem_cons, List.not_mem_nil, false_implies, implies_true, and_true]
    exact ⟨houtside, hrests.congr rfl rfl⟩
  rw [hfirst, happroaches, State.settleN_all_ignored (by rw [hmail]; exact Nat.le_add_left 2 252) hignores, hmail]
  subst x
  exact congrArg (fun m => { s.approaching a p with
    rack := { s.rack with
      arbiter := .granted a false false false, queue := [], grantTimer := some s.rack.grantTimeout
      reports := s.rack.reports.set a { pocket := some p, suppressed := false, stow := false } }
    zones := { s.zones with grantee := some a }, mail := m }) hm.symm

/-! ### The module of a change that waits (R151, R158) -/

/-- The module-present input is the debounced level (R136). -/
def State.debounced (s : State) (a : Arm) : State :=
  s.setHead a { s.head a with modulePresent := (s.head a).moduleInput }

@[simp] theorem State.debounced_head : (s.debounced a).head a = { s.head a with modulePresent := (s.head a).moduleInput } :=
  Two.get_set_same ..

theorem State.moduleDebounced_new (h : (s.head a).moduleInput ≠ (s.head a).modulePresent) :
    s.moduleDebounced a = (s.debounced a).moduleChanged a := if_neg h

theorem State.moduleChanged_gone (hw : (s.change a).state = .waitingRack) (hgone : (s.head a).modulePresent = false)
    (hstow : (s.change a).stowing ≠ none) : s.moduleChanged a = (s.endChange a .noModule).headEvent a := by
  simp [State.moduleChanged, hw, hgone, Option.isSome_iff_ne_none, hstow]

theorem State.moduleChanged_come (hw : (s.change a).state = .waitingRack) (hcome : (s.head a).modulePresent = true)
    (hstow : (s.change a).stowing = none) : s.moduleChanged a = (s.endChange a .extraModule).headEvent a := by
  simp [State.moduleChanged, hw, hcome, hstow]

/-- A module that comes to an EMPTY head is read (R158). -/
theorem State.headEvent_read (hcome : (s.head a).modulePresent = true) (hempty : (s.head a).state = .empty) :
    s.headEvent a = s.setHead a { s.head a with state := .identifying, allowUnqualified := false, attempt := some 1 } := by
  simp [State.headEvent, hcome, hempty, State.headBecomes]

/-! ### The pocket of a change that waits (R151) -/

/-- The first arm's news and then the second's: the arm's own is taken as it would be alone, but for what the other's
changes elsewhere. -/
theorem State.tellBoth_pocketFault
    (hnews : ∀ t : State, t.housing = s.housing → Apart a s t → t.occupancyNews a p = t.endChange a .pocketChanged) :
    (((s.tellBoth fun t b => t.occupancyNews b p)).change a = (s.change a).ended .pocketChanged) ∧
    a ∉ (s.tellBoth fun t b => t.occupancyNews b p).rack.queue := by
  unfold State.tellBoth
  dsimp only
  cases a with
  | zero =>
    rw [hnews s rfl (.refl _ _)]
    have hother : Apart .zero (s.endChange .zero .pocketChanged) ((s.endChange .zero .pocketChanged).occupancyNews .one p) :=
      .occupancyNews (by decide) (.refl _ _)
    obtain ⟨hchange, -, hqueue, -⟩ := State.endChange_own (s := s) (a := .zero) (result := .pocketChanged)
    exact ⟨hother.change.trans hchange, hother.queue hqueue⟩
  | one =>
    have hother : Apart .one s (s.occupancyNews .zero p) := .occupancyNews (by decide) (.refl _ _)
    rw [hnews _ State.occupancyNews_housing hother]
    obtain ⟨hchange, -, hqueue, -⟩ :=
      State.endChange_own (s := s.occupancyNews .zero p) (a := .one) (result := .pocketChanged)
    exact ⟨hchange.trans (by rw [hother.change]), hqueue⟩

theorem State.occupancyNews_waiting (hw : (s.change a).state = .waitingRack)
    (hpocket : (s.pocket p).occupied = true ∧ s.stowPocket a = some p ∨
      (s.pocket p).occupied = false ∧ s.targetPocket a = some p) :
    s.occupancyNews a p = s.endChange a .pocketChanged := by
  simp only [State.occupancyNews, hw]
  rw [if_pos (by simpa using hpocket), State.pocketFault, if_pos hw]

/-- A pocket of a waiting change that changes ends it POCKET_CHANGED. -/
theorem State.settle_occupancyChange_waiting (hm : s.mail = []) (hw : (s.change a).state = .waitingRack)
    (hv : s.library.tips[i] = .active v) (hp : v.home = p)
    (hchanged : (s.change a).stowing = some i ∧ (s.pocket p).occupied = false ∧ (s.pocket p).occupancyInput = true ∨
      (s.change a).target = some i ∧ (s.pocket p).occupied = true ∧ (s.pocket p).occupancyInput = false) :
    (s.occupancyChange p).settle.change a = (s.change a).ended .pocketChanged ∧
      a ∉ (s.occupancyChange p).settle.rack.queue := by
  subst hp
  obtain ⟨t, ht⟩ : ∃ t, t = s.setPocket v.home { s.pocket v.home with occupied := (s.pocket v.home).occupancyInput } :=
    ⟨_, rfl⟩
  have hne : (s.pocket v.home).occupancyInput ≠ (s.pocket v.home).occupied := by
    rcases hchanged with ⟨-, h1, h2⟩ | ⟨-, h1, h2⟩ <;> simp [h1, h2]
  have hsends : s.occupancyChange v.home = (t.compareIfWatched v.home).send (.occupancyChanged v.home) := by
    rw [ht]
    exact if_neg hne
  obtain ⟨b, r, k, hframe⟩ := t.compareIfWatched_frame (p := v.home)
  have hhousing : (t.compareIfWatched v.home).housing = t.housing := State.compareIfWatched_housing
  rw [hsends]
  generalize t.compareIfWatched v.home = w at hframe hhousing
  have hmail : (w.send (.occupancyChanged v.home)).mail = .occupancyChanged v.home :: [] := by
    rw [hframe, ht]
    exact congrArg (· ++ _) hm
  have hchange : w.change a = s.change a := by
    rw [hframe, ht]
    rfl
  rw [State.settle, settleBound, State.settleN_cons 255 hmail]
  have htaken := State.tellBoth_pocketFault (s := { w with mail := [] }) (a := a) (p := v.home) (fun u hu hapart => by
    have hsame : u.change a = s.change a := hapart.change.trans hchange
    have hhome (tip : Option (Fin 64)) : u.homeOf tip = s.homeOf tip := by
      rw [State.housing_homeOf (hu.trans hhousing), ht]
      rfl
    have hoccupied : (u.pocket v.home).occupied = (s.pocket v.home).occupancyInput := by
      rw [State.housing_occupied (hu.trans hhousing), ht]
      simp
    refine State.occupancyNews_waiting (by rw [hsame, hw]) ?_
    rw [hoccupied, State.stowPocket, State.targetPocket, hsame, hhome, hhome]
    refine hchanged.imp (fun ⟨hstow, _, hin⟩ => ⟨hin, ?_⟩) fun ⟨htarget, _, hin⟩ => ⟨hin, ?_⟩
    · rw [hstow, State.homeOf_active hv]
    · rw [htarget, State.homeOf_active hv])
  obtain ⟨htakenChange, htakenQueue⟩ := htaken
  have hended : (State.takeMessage { w with mail := [] } (.occupancyChanged v.home)).change a =
      (s.change a).ended .pocketChanged := htakenChange.trans (congrArg (fun c : Change => c.ended .pocketChanged) hchange)
  have hsettled := Apart.settleN (by rw [hended]; rfl) (by rw [hended]; rfl) 255
    (.refl a (State.takeMessage { w with mail := [] } (.occupancyChanged v.home)))
  exact ⟨hsettled.change.trans hended, hsettled.queue htakenQueue⟩

end

/-- Settles O49: a change that waits ends by leaving the queue, one that is granted approaches, and every other message
of the arbiter passes it by. -/
theorem changesAreAbortedAndAnswered : Obligations.ChangesAreAbortedAndAnswered := by
  refine ⟨fun s arm a ht hm hp ha => ?_, fun s a hs hm => ?_⟩
  · intro c
    have hexec {r : Reply} (e : changeAbortBody a s = r) (hr : r.state.mail = []) : exec c s = .next (s.respond c r) :=
      request_settled ht ((changeAbortReq_eq hp ha).trans e) hr
    refine ⟨fun h => hexec (by simp [changeAbortBody, h]) hm, fun h => hexec (by simp [changeAbortBody, h]) hm,
      fun hw _ ⟨acknowledged, inside, ended, harb⟩ hu hd => ?_⟩
    refine ⟨s.withdrawn a ((s.change a).ended .aborted), hexec (changeAbort_waiting hw harb hu) hm, ?_,
      State.withdrawn_change_other, rfl, rfl, State.withdrawn_report, rfl, rfl⟩
    exact State.withdrawn_change.trans (Change.ended_single hd)
  · intro st
    have hexec {c : Instr} {f : State → State} {t : State} (hc : exec c s = done (s.armEvent a f)) (e : f s = t) :
        exec c s = .next t := hc.trans (congrArg Host.Outcome.next ((s.armEvent_on a _ hs).trans e))
    have hstands {t : State} (e : t = s) : t.settle = s := by rw [e, State.settle_of_quiet _ hm]
    refine ⟨fun h => hexec rfl (hstands (if_neg h)), fun h => hexec rfl (hstands (if_neg ?_)),
      fun h => hexec rfl (hstands ?_), fun h => hexec rfl (hstands (if_neg ?_)), fun hw hu => ⟨?_, ?_, ?_⟩⟩
    · rcases h with h | h | h <;> simp [show (s.change a).state = _ from h, ChangeState.afterGrant]
    · rcases h with h | h <;> simp [State.takeLockout, show (s.change a).state = _ from h, ChangeState.afterGrant]
    · rcases h with h | h <;> simp [h]
    · intro p i t htip ht hhome hdock approach reports
      have hp : s.Approaches a p := ⟨i, t, htip, ht, hhome⟩
      have hrests : (s.approaching a p).Rests a := by
        refine State.approaching_rests (fun hnone => ?_) hdock
        rcases htip with hstow | ⟨-, -, hclose⟩
        · exact absurd (hstow.symm.trans hnone) (Option.some_ne_none i)
        · exact hclose
      refine ⟨fun hquiet => hexec rfl ?_, fun hd hq hother hout acknowledged inside harb => ?_⟩
      · rw [State.takeGrant_approaches hw hp ⟨.inl hu, hquiet.imp_right .inr⟩]
        exact State.settle_approaching hm hrests
      · refine (congrArg Host.Outcome.next (s.armEvent_on a.other _ ⟨hs.1, hother⟩)).trans ?_
        rw [State.rackExit_frees harb]
        exact congrArg Host.Outcome.next
          (State.settle_passes hm hd (fun b => State.insideRack_false (hout b)) hq hw hu hp hdock)
    · intro acknowledged inside ended harb hd ended
      have hended (r : ChangeResult) : (s.change a).ended r = ended r := Change.ended_single hd
      have hnot : s.grantedTo a = false := State.grantedTo_other harb
      have hfree : s.rack.arbiter ≠ .free := by simp [harb]
      refine ⟨fun hin hpresent htip hstow i t hmounted ht => ?_, fun hin hpresent hempty hstow => ?_,
        fun p i t ht hhome hchanged => ?_⟩
      · have hne : (s.head a).moduleInput ≠ (s.head a).modulePresent := by simp [hin, hpresent]
        obtain ⟨u, hu'⟩ : ∃ u, u = (s.debounced a).withdrawn a (ended .noModule) := ⟨_, rfl⟩
        have hmodule : s.moduleDebounced a = u.headEvent a := by
          rw [State.moduleDebounced_new hne, State.moduleChanged_gone (s := s.debounced a) hw (by simp [hin]) hstow,
            State.endChange_withdraws (s := s.debounced a) hnot hfree hu, hu']
          exact congrArg (fun c => ((s.debounced a).withdrawn a c).headEvent a) (hended _)
        have hhead : u.head a = { s.head a with modulePresent := false } := by
          rw [hu', ← hin]
          exact State.debounced_head
        obtain ⟨hlibrary, hafter, hcauses, htipFlag, hflags, hchange, hrack, hmail⟩ :=
          State.headEvent_breakaway (s := u) (a := a) (i := i) (v := t) (by rw [hu']; exact hs.2) (by rw [hhead])
            (by rw [hhead]; exact htip) (by rw [hu']; exact hmounted) (by rw [hu']; exact ht)
        refine ⟨u.headEvent a, hexec rfl ?_, ?_, ?_, ?_, ?_, ?_, ?_, ?_, htipFlag⟩
        · rw [hmodule]
          exact State.settle_of_quiet _ (hmail.trans (by rw [hu']; exact hm))
        · rw [State.change, hchange, hu']
          exact State.withdrawn_change
        · rw [hrack, hu']
          exact State.not_mem_withdrawn_queue
        · rw [hrack, hu']
          rfl
        · rw [hlibrary, hu']
          rfl
        · rw [hafter, hhead]
        · rw [hcauses, hu']
          rfl
        · refine hflags _ ?_
          rw [hu']
          exact State.raise_flag _ _ (by cases a <;> exact hs.2)
      · have hne : (s.head a).moduleInput ≠ (s.head a).modulePresent := by simp [hin, hpresent]
        obtain ⟨u, hu'⟩ : ∃ u, u = (s.debounced a).withdrawn a (ended .extraModule) := ⟨_, rfl⟩
        have hhead : u.head a = { s.head a with modulePresent := true } := by
          rw [hu', ← hin]
          exact State.debounced_head
        have hmodule : s.moduleDebounced a = u.setHead a { s.head a with
            state := .identifying, allowUnqualified := false, modulePresent := true, attempt := some 1 } := by
          rw [State.moduleDebounced_new hne, State.moduleChanged_come (s := s.debounced a) hw (by simp [hin]) hstow,
            State.endChange_withdraws (s := s.debounced a) hnot hfree hu]
          have hread : u.headEvent a = _ := State.headEvent_read (by rw [hhead]) (by rw [hhead]; exact hempty)
          rw [hhead, hu'] at hread
          rw [hu', ← hread]
          exact congrArg (fun c => ((s.debounced a).withdrawn a c).headEvent a) (hended _)
        refine ⟨_, hexec rfl ((congrArg State.settle hmodule).trans (State.settle_of_quiet _ (by rw [hu']; exact hm))),
          ?_, ?_, ?_, ?_, ?_, Two.get_set_same ..⟩
        · rw [hu']
          exact State.withdrawn_change
        · rw [hu']
          exact State.not_mem_withdrawn_queue (d := ended .extraModule)
        all_goals
          rw [hu']
          rfl
      · obtain ⟨hchange, hqueue⟩ := State.settle_occupancyChange_waiting hm hw ht hhome hchanged
        exact ⟨_, congrArg Host.Outcome.next (s.event_on _ hs.1), hchange.trans (hended _), hqueue⟩
    · intro hlocked hq hd hstaged
      have hnot : s.grantedTo a = false := by simp [State.grantedTo, hlocked]
      have hends : s.takeLockout a = s.withdrawn a ((s.change a).ended .rackLocked) :=
        (if_pos hw).trans (State.endChange_withdraws hnot (by simp [hlocked]) hu)
      refine hexec rfl ?_
      rw [hends, State.settle_of_quiet (s.withdrawn a _) hm, Change.ended_single hd]
      refine Eq.trans ?_ (State.raise_eq_of (s := s) (by rfl) (by rfl)).symm
      simp [State.withdrawn, hq, hstaged, PocketReport.none]

end Sys2Proof.Machine
end

section
/-! SUPPORT. A fault after the grant, and the step of reconciliation that waits for the departure (spec 08, R151, R154). -/

namespace Sys2Proof.Machine

section
variable {s t : State} {a : Arm} {p p' : Fin 20} {r : ChangeResult}

theorem ChangeState.afterGrant_iff {st : ChangeState} :
    st.afterGrant = true ↔ st ≠ .idle ∧ st ≠ .waitingRack ∧ st ≠ .reconciling := by
  cases st <;> simp [ChangeState.afterGrant]

/-- The change record of a change that has met a fault (R151, R154). -/
def Change.faulted (c : Change) (r : ChangeResult) (timeout : Nat) : Change :=
  { c with state := .reconciling, faultResult := some r, timer := some timeout, wait := .departure }

/-- The part after a fault at the pocket: suppression is set with the stow transfer kept, and a read is abandoned. -/
def State.faulted (s : State) (a : Arm) (p : Fin 20) (r : ChangeResult) : State :=
  { (s.setChange a ((s.change a).faulted r s.sequencer.approachTimeout)).setHead a { s.head a with attempt := none } with
    rack := { s.rack with
      reports := s.rack.reports.set a { pocket := some p, suppressed := true, stow := (s.report a).stow } } }

theorem State.keeping_enterStage {c : Change} {q : PocketReport} {st : ChangeState} {timer : Timer} :
    ((s.setChange a c).keeping a q).enterStage a st timer =
      ((s.setChange a { c with state := st, timer, wait := .departure }).keeping a q).send (.testStage a) := by
  rw [State.enterStage, State.change_keeping, State.change_setChange_same, State.keeping_setChange,
    State.setChange_setChange]

theorem State.faultChange_eq (hcurrent : (s.change a).current = some p) (hreport : (s.report a).pocket = some p) :
    s.faultChange a r = (s.faulted a p r).send (.testStage a) := by
  obtain ⟨t, ht⟩ : ∃ t, t = (s.setChange a { s.change a with faultResult := some r }).abandonRead a := ⟨_, rfl⟩
  have hfault : s.faultChange a r = (t.sendReport a (t.change a).current true (t.report a).stow).enterStage a
      .reconciling (some (t.sendReport a (t.change a).current true (t.report a).stow).sequencer.approachTimeout) := by
    subst ht
    rfl
  have hchange : t.change a = { s.change a with faultResult := some r } := by
    subst ht
    exact State.change_setChange_same (s := s)
  have hquiet : t.Quietly a { pocket := (s.change a).current, suppressed := true, stow := (s.report a).stow } := by
    subst ht
    rw [hcurrent]
    exact ⟨.inr ⟨rfl, hreport.symm⟩, .inr (.inl hreport.symm)⟩
  have hstow : (t.report a).stow = (s.report a).stow := by
    subst ht
    rfl
  have hset (d : Change) : t.setChange a d = (s.setChange a d).setHead a { s.head a with attempt := none } := by
    subst ht
    exact congrArg (·.setHead a { s.head a with attempt := none }) (State.setChange_setChange (s := s))
  have htimeout : t.sequencer.approachTimeout = s.sequencer.approachTimeout := by
    subst ht
    rfl
  rw [hfault, hchange, hstow, hquiet.sendReport, hchange, State.faulted, ← hcurrent, State.keeping_enterStage, hset]
  exact congrArg (fun n => (((s.setChange a ((s.change a).faulted r n)).setHead a _).keeping a _).send (.testStage a))
    htimeout

/-! ### Step 1 waits (R154) -/

theorem State.advance_waits (hst : (s.change a).state = .reconciling) (hw : (s.change a).wait = .departure)
    (hp : p' ∈ (s.change a).opened) (hin : s.outDock a p' = false) : s.advance a = s := by
  have hall : (s.change a).opened.all (s.outDock a) = false := List.all_eq_false.mpr ⟨p', hp, by simp [hin]⟩
  simp [State.advance, hst, State.makeRackSafe, hw, hall]

/-- A stage whose test changes nothing stands. -/
theorem State.settle_stands (hm : s.mail = []) (h : s.advance a = s) : (s.send (.testStage a)).settle = s := by
  have hmail : (s.send (.testStage a)).mail = .testStage a :: [] := congrArg (· ++ _) hm
  have hback : ({ s.send (.testStage a) with mail := [] } : State) = s :=
    congrArg (fun m => { s with mail := m }) hm.symm
  rw [State.settle, settleBound, State.settleN_cons 255 hmail, hback, State.takeMessage, h]
  exact State.settleN_of_quiet _ _ hm


/-! ### A fault whose step 1 waits (R151, R154) -/

theorem State.faulted_change : (s.faulted a p r).change a = (s.change a).faulted r s.sequencer.approachTimeout :=
  State.change_setChange_same (s := s)

theorem State.outDock_congr (hchange : (t.change a).lastReference = (s.change a).lastReference)
    (hpockets : t.rack.pockets = s.rack.pockets) : t.outDock a p' = s.outDock a p' := by
  unfold State.outDock
  rw [hchange]
  have hbox : t.dockBox a p' = s.dockBox a p' := congrArg (fun k : Pocket => k.dock.get a) (State.pocket_congr hpockets)
  rw [hbox]

theorem State.faulted_waits (hp : p' ∈ (s.change a).opened) (hin : s.outDock a p' = false)
    (hseq : t.sequencer = (s.faulted a p r).sequencer) (hpockets : t.rack.pockets = s.rack.pockets) :
    t.advance a = t := by
  have hchange : t.change a = (s.change a).faulted r s.sequencer.approachTimeout := by
    rw [State.change, hseq]
    exact State.faulted_change
  refine State.advance_waits (p' := p') ?_ ?_ ?_ ?_
  · rw [hchange]
    rfl
  · rw [hchange]
    rfl
  · rw [hchange]
    exact hp
  · rw [State.outDock_congr (s := s) (by rw [hchange]; rfl) hpockets]
    exact hin

theorem State.settle_faultChange (hm : s.mail = []) (hcurrent : (s.change a).current = some p)
    (hreport : (s.report a).pocket = some p) (hp : p' ∈ (s.change a).opened) (hin : s.outDock a p' = false) :
    (s.faultChange a r).settle = s.faulted a p r := by
  rw [State.faultChange_eq hcurrent hreport]
  exact State.settle_stands hm (State.faulted_waits hp hin rfl rfl)

theorem State.faulted_stopTimer : (s.stopTimer a).faulted a p r = s.faulted a p r := by
  have hset (d : Change) : (s.stopTimer a).setChange a d = s.setChange a d := State.setChange_setChange
  have hchange : ((s.stopTimer a).change a).faulted r s.sequencer.approachTimeout =
      (s.change a).faulted r s.sequencer.approachTimeout := by
    rw [State.stopTimer, State.change_setChange_same]
    rfl
  rw [State.faulted, hset]
  exact congrArg (fun c : Change => State.keeping ((s.setChange a c).setHead a { s.head a with attempt := none }) a _) hchange

theorem State.faulted_abandonRead : (s.abandonRead a).faulted a p r = s.faulted a p r := by
  have hset (d : Change) (h : Head) : ((s.abandonRead a).setChange a d).setHead a h = (s.setChange a d).setHead a h :=
    State.setHead_setHead (s := s.setChange a d)
  have hhead : { (s.abandonRead a).head a with attempt := none } = { s.head a with attempt := none } :=
    congrArg (fun h : Head => { h with attempt := none }) (Two.get_set_same ..)
  rw [State.faulted, hset, hhead]
  rfl

/-- A read that gives no ID faults FETCH_IDENTIFY (R149). -/
theorem State.readEnds_noId (hst : (s.change a).state = .fetchIdentify) :
    s.readEnds a none = (s.abandonRead a).faultChange a .noId := by
  have hst' : ((s.abandonRead a).change a).state = .fetchIdentify := hst
  simp only [State.readEnds, hst']

/-- So does a read that gives an ID other than the target's (R149). -/
theorem State.readEnds_wrongId {i : Fin 64} {v : Tip} {id : Word} (hst : (s.change a).state = .fetchIdentify)
    (htarget : (s.change a).target = some i) (hv : s.library.tips[i] = .active v) (hne : v.moduleId ≠ id) :
    s.readEnds a (some id) = (s.abandonRead a).faultChange a .wrongModule := by
  have hst' : ((s.abandonRead a).change a).state = .fetchIdentify := hst
  have htarget' : ((s.abandonRead a).change a).target = some i := htarget
  have hactive : (s.abandonRead a).activeTip i = some v := ((s.abandonRead a).activeTip_eq_some_iff i v).mpr hv
  simp [State.readEnds, State.identityRead, hst', htarget', hactive, hne]

/-! ### What meets a fault (R151, R153) -/

theorem changeAbortBody_afterGrant (h : (s.change a).state.afterGrant = true) :
    changeAbortBody a s = accept [] (s.faultChange a .aborted) := by
  unfold changeAbortBody
  split <;> rename_i hst
  case h_4 => rfl
  all_goals
    rw [hst] at h
    cases h

theorem State.moduleChanged_leaves (hgone : (s.head a).modulePresent = false)
    (hst : (s.change a).state = .stowApproach ∨ (s.change a).state = .stowOpen ∨ (s.change a).state = .fetchClear ∨
      (s.change a).state = .fetchIdentify) : s.moduleChanged a = s.faultChange a .noModule := by
  rcases hst with h | h | h | h <;> simp [State.moduleChanged, h, hgone]

theorem State.moduleChanged_arrives (hcome : (s.head a).modulePresent = true)
    (hst : (s.change a).state = .stowClear ∨ (s.change a).state = .fetchApproach ∨ (s.change a).state = .fetchOpen) :
    s.moduleChanged a = s.faultChange a .extraModule := by
  rcases hst with h | h | h <;> simp [State.moduleChanged, h, hcome]

theorem State.stepExpiry_afterGrant (htimer : (s.change a).timer ≠ none) (hfrz : s.frz = false)
    (h : (s.change a).state.afterGrant = true) : s.stepExpiry a = (s.stopTimer a).faultChange a .timeout := by
  have hst : ((s.stopTimer a).change a).state = (s.change a).state := by
    rw [State.stopTimer, State.change_setChange_same]
  obtain ⟨-, -, hrec⟩ := ChangeState.afterGrant_iff.mp h
  rw [State.stepExpiry, if_pos (by simp [Option.isSome_iff_ne_none, htimer, hfrz])]
  dsimp only
  rw [hst, if_neg hrec, if_pos h]

end

end Sys2Proof.Machine
end

section
/-! SUPPORT. Step 1 of reconciliation at the departure: the lid is closed and waited for (spec 08, R154). -/

namespace Sys2Proof.Machine

/-- The message, when it comes, changes nothing. -/
def State.Passes (s : State) (m : Message) : Prop :=
  ∀ l, State.takeMessage { s with mail := l } m = { s with mail := l }

section
variable {s t : State} {a b : Arm} {p : Fin 20} {m : Message}

theorem State.settleN_passing {n : Nat} (hlen : s.mail.length ≤ n) (h : ∀ m ∈ s.mail, s.Passes m) :
    s.settleN n = { s with mail := [] } := by
  induction n generalizing s with
  | zero => rfl
  | succ n ih =>
    cases hm : s.mail with
    | nil => exact (State.settleN_of_quiet _ _ hm).trans (congrArg (fun l => { s with mail := l }) hm)
    | cons m rest =>
      rw [hm] at hlen h
      rw [State.settleN_cons n hm, h m List.mem_cons_self rest]
      exact ih (Nat.le_of_succ_le_succ hlen) fun k hk => h k (List.mem_cons_of_mem _ hk)

/-- A lid on its way is no news to a change (R151). -/
theorem State.lidNews_moving (h : (s.pocket p).lid = .opening ∨ (s.pocket p).lid = .closing) : s.lidNews a p = s := by
  rcases h with h | h <;> simp [State.lidNews, h]

theorem State.passes_lidChanged (h : (s.pocket p).lid = .opening ∨ (s.pocket p).lid = .closing) :
    s.Passes (.lidChanged p) := fun l => by
  have hmoving (b : Arm) : State.lidNews { s with mail := l } b p = { s with mail := l } := State.lidNews_moving h
  rw [State.takeMessage, State.tellBoth, hmoving, hmoving]

/-- Step 1 waits while a lid of the change is not CLOSED. -/
theorem State.advance_lids (hst : (s.change a).state = .reconciling) (hw : (s.change a).wait = .lids)
    (hopen : (s.change a).opened ≠ []) : s.advance a = s := by
  simp [State.advance, hst, State.makeRackSafe, hw, hopen]

theorem State.advance_reconciling (hst : (s.change a).state = .reconciling) : s.advance a = s.makeRackSafe a := by
  simp [State.advance, hst]

theorem State.makeRackSafe_departs (hw : (s.change a).wait = .departure)
    (hall : (s.change a).opened.all (s.outDock a) = true) : s.makeRackSafe a =
      let (t, jammed) := (s.setChange a { s.change a with timer := none, wait := .lids }).closeAll a (s.change a).opened
      if jammed then t.changeDoubleFault a else t.send (.testStage a) := by
  simp only [State.makeRackSafe, hw]
  exact if_pos hall

theorem State.closeAll_single (h : s.closeAt a p = some t) : s.closeAll a [p] = (t, false) := by
  simp [State.closeAll, h]

/-- The arm has left the dock box of its one open lid: the lid is closed. -/
def State.departing (s : State) (a : Arm) (p : Fin 20) : State :=
  (s.setChange a { s.change a with timer := none, wait := .lids }).setPocket p
    ((s.pocket p).closing s.rack.lidTimeout)

theorem State.departing_change :
    (s.departing a p).change a = { s.change a with timer := none, wait := .lids } :=
  State.change_setChange_same (s := s)

theorem State.departing_pocket : (s.departing a p).pocket p = (s.pocket p).closing s.rack.lidTimeout := by
  refine (State.pocket_setPocket ..).trans (if_pos rfl)

theorem State.departing_pocket_ne {p' : Fin 20} (h : p' ≠ p) : (s.departing a p).pocket p' = s.pocket p' := by
  refine (State.pocket_setPocket ..).trans (if_neg h.symm)

theorem State.advance_departs (hst : (s.change a).state = .reconciling) (hw : (s.change a).wait = .departure)
    (hopen : (s.change a).opened = [p]) (hout : s.outDock a p = true)
    (hlid : (s.pocket p).lid = .opening ∨ (s.pocket p).lid = .opened) (hsense : (s.pocket p).sense = true) :
    s.advance a = ((s.departing a p).send (.lidChanged p)).send (.testStage a) := by
  have hclose : State.closeAt (s.setChange a { s.change a with timer := none, wait := .lids }) a p =
      some ((s.departing a p).send (.lidChanged p)) := by
    rw [State.closeAt, State.closeLid_open (by exact hlid), if_pos (by exact hsense)]
    rfl
  have hall : (s.change a).opened.all (s.outDock a) = true := by rw [hopen, List.all_cons, hout, List.all_nil]; rfl
  rw [State.advance_reconciling hst, State.makeRackSafe_departs hw hall, hopen, State.closeAll_single hclose]
  rfl

theorem State.settle_departs (hm : s.mail = []) (hst : (s.change a).state = .reconciling)
    (hw : (s.change a).wait = .departure)
    (hopen : (s.change a).opened = [p]) (hout : s.outDock a p = true)
    (hlid : (s.pocket p).lid = .opening ∨ (s.pocket p).lid = .opened) (hsense : (s.pocket p).sense = true) (n : Nat) :
    (s.send (.testStage a)).settleN (n + 3) = s.departing a p := by
  have hmail : (s.send (.testStage a)).mail = .testStage a :: [] := congrArg (· ++ _) hm
  have hback : ({ s.send (.testStage a) with mail := [] } : State) = s :=
    congrArg (fun m => { s with mail := m }) hm.symm
  have hsent : (((s.departing a p).send (.lidChanged p)).send (.testStage a)).mail = [.lidChanged p, .testStage a] :=
    congrArg (· ++ [Message.lidChanged p] ++ [Message.testStage a]) hm
  have hlids : (((s.departing a p).send (.lidChanged p)).send (.testStage a)).Passes (.lidChanged p) := by
    refine State.passes_lidChanged (.inr ?_)
    refine (congrArg Pocket.lid State.departing_pocket).trans ?_
    exact if_pos hsense
  have hstage : (((s.departing a p).send (.lidChanged p)).send (.testStage a)).Passes (.testStage a) := fun l => by
    have hchange : State.change { s.departing a p with mail := l } a = { s.change a with timer := none, wait := .lids } :=
      State.departing_change (p := p)
    refine State.advance_lids (s := { s.departing a p with mail := l }) ?_ ?_ ?_
    · rw [hchange]
      exact hst
    · rw [hchange]
    · rw [hchange]
      exact List.ne_nil_of_mem (hopen ▸ List.mem_singleton_self p)
  rw [State.settleN_cons (n + 2) hmail, hback, State.takeMessage, State.advance_departs hst hw hopen hout hlid hsense,
    State.settleN_passing (by rw [hsent]; exact Nat.le_add_left 2 n)
      (by rw [hsent]; exact List.forall_mem_cons.mpr ⟨hlids, List.forall_mem_singleton.mpr hstage⟩)]
  exact congrArg (fun l => { s.departing a p with mail := l }) hm.symm

/-! ### The judgement of a formation leaves the change and the pockets (R129, R166) -/

/-- The part but for the zones, the touch unit, the attention unit, and the grant. -/
structure Unmoved (s t : State) : Prop where
  sequencer : t.sequencer = s.sequencer
  library : t.library = s.library
  mail : t.mail = s.mail
  pockets : t.rack.pockets = s.rack.pockets
  reports : t.rack.reports = s.rack.reports
  lidTimeout : t.rack.lidTimeout = s.rack.lidTimeout

theorem Unmoved.refl (s : State) : Unmoved s s := ⟨rfl, rfl, rfl, rfl, rfl, rfl⟩

theorem Unmoved.trans {u : State} (h : Unmoved s t) (h' : Unmoved t u) : Unmoved s u :=
  ⟨h'.sequencer.trans h.sequencer, h'.library.trans h.library, h'.mail.trans h.mail, h'.pockets.trans h.pockets,
    h'.reports.trans h.reports, h'.lidTimeout.trans h.lidTimeout⟩

theorem MonitorOnly.unmoved (h : MonitorOnly s t) : Unmoved s t :=
  ⟨h.sequencer_eq, (congrArg State.library h :), h.mail_eq, (congrArg (fun u : State => u.rack.pockets) h :),
    (congrArg (fun u : State => u.rack.reports) h :), (congrArg (fun u : State => u.rack.lidTimeout) h :)⟩

theorem Unmoved.rackEntry : Unmoved s (s.rackEntry a) := by
  unfold State.rackEntry
  split
  · split
    · split <;> exact ⟨rfl, rfl, rfl, rfl, rfl, rfl⟩
    · exact .refl s
  · exact .refl s

/-- The exit of an arm whose change goes on. -/
theorem Unmoved.rackExit (h : ∀ acknowledged inside, s.rack.arbiter ≠ .granted a acknowledged inside true) :
    Unmoved s (s.rackExit a) := by
  cases hg : s.grantedTo a with
  | false =>
    rw [State.rackExit_not_granted hg]
    exact .refl s
  | true =>
    unfold State.grantedTo at hg
    split at hg
    · next b acknowledged inside ended harb =>
      obtain rfl : b = a := eq_of_beq hg
      cases ended with
      | true => exact absurd harb (h _ _)
      | false =>
        rw [State.rackExit_staying harb]
        exact ⟨rfl, rfl, rfl, rfl, rfl, rfl⟩
    · cases hg

theorem Unmoved.reportRack {entered left : Bool}
    (h : ∀ acknowledged inside, s.rack.arbiter ≠ .granted a acknowledged inside true) :
    Unmoved s (s.reportRack a entered left) := by
  unfold State.reportRack
  split
  · split
    · exact .rackEntry
    · split
      · exact .rackExit h
      · exact .refl s
  · exact .refl s

theorem Unmoved.judgeOne {j : Judgement}
    (h : ∀ acknowledged inside, s.rack.arbiter ≠ .granted j.arm acknowledged inside true) :
    Unmoved s (s.judgeOne j) := by
  have hsets : MonitorOnly s (s.judgedSets j) := State.judgedSets_monitorOnly
  rw [State.judgeOne_eq]
  refine hsets.unmoved.trans (.reportRack ?_)
  rw [hsets.rack_eq]
  exact h

/-- A judgement that concerns no RACK zone reports nothing. -/
theorem State.judgeOne_elsewhere {j : Judgement} (h : ∀ z, j.named[z] = true → s.zoneIsRack z = false) :
    MonitorOnly s (s.judgeOne j) := by
  have hconcerned (z : Fin 16) (hz : s.concerns j z = true) : s.zoneIsRack z = false :=
    h z (Bool.and_eq_true_iff.mp hz).1
  have henters : s.entersRack j = false := by
    refine Bool.eq_false_iff.mpr fun hin => ?_
    obtain ⟨z, hz⟩ := (anyZone_iff _).mp hin
    simp only [Bool.and_eq_true, State.findsInside] at hz
    obtain ⟨⟨hrack, hfound, -⟩, -⟩ := hz
    exact Bool.false_ne_true ((hconcerned z hfound).symm.trans hrack)
  have hleaves : s.leavesRack j = false := by
    refine Bool.eq_false_iff.mpr fun hin => ?_
    obtain ⟨z, hz⟩ := (anyZone_iff _).mp hin
    simp only [Bool.and_eq_true] at hz
    obtain ⟨⟨⟨hrack, hfound⟩, -⟩, -⟩ := hz
    exact Bool.false_ne_true ((hconcerned z hfound).symm.trans hrack)
  have hsilent : (s.judgedSets j).reportRack j.arm false false = s.judgedSets j := by simp [State.reportRack]
  rw [State.judgeOne_eq, henters, hleaves, hsilent]
  exact State.judgedSets_monitorOnly

/-- A zone whose claim ends is SHARED, and stays so. -/
theorem State.judgeOne_claimEnds_not_rack {j : Judgement} {z : Fin 16} (h : s.claimEnds j z = true) :
    (s.judgeOne j).zoneIsRack z = false := by
  have hconcerned : s.concerns j z = true := by
    simp only [State.claimEnds, Bool.and_eq_true] at h
    exact h.1.1
  obtain ⟨r, hr, hkind⟩ : ∃ r, s.zone z = some r ∧ r.kind = .shared (some j.arm) := by
    simpa [State.claimEnds, Option.any_eq_true] using (Bool.and_eq_true_iff.mp h).2
  rw [State.zoneIsRack, State.zone_judgeOne, State.zone_judgedSets, if_pos hconcerned, hr, Option.map_some,
    Option.any_some, hkind]
  unfold ZoneKind.judged
  split
  · split <;> rfl
  · split <;> rfl
  · next hno => exact absurd rfl (hno _)

/-- The judgement of an arm whose grant it does not release. -/
theorem Unmoved.judge {named : ZoneSet} {claims : Bool}
    (h : ∀ acknowledged inside, s.rack.arbiter ≠ .granted a acknowledged inside true) :
    Unmoved s (s.judge a named claims) := by
  cases hj : s.judgement a named claims with
  | none =>
    have hnone (z : Fin 16) : (s.claimsEnded none)[z] = false := by simp [State.claimsEnded]
    simp only [State.judge, hj, hnone, State.judgeIf]
    simp [anyZone, Unmoved.refl]
  | some j =>
    obtain ⟨harm, -, -⟩ := State.judgement_points hj
    have hfirst : Unmoved s (s.judgeOne j) := .judgeOne (by rw [harm]; exact h)
    rw [State.judge_eq hj]
    split
    · cases hk : (s.judgeOne j).judgement a.other (s.claimsEnded (some j)) true with
      | none => exact hfirst
      | some k =>
        obtain ⟨-, hnamed, -⟩ := State.judgement_points hk
        refine hfirst.trans (MonitorOnly.unmoved (State.judgeOne_elsewhere fun z hz => ?_))
        rw [hnamed, State.claimsEnded_getElem] at hz
        exact State.judgeOne_claimEnds_not_rack hz
    · exact hfirst

/-! ### The reference point handed on (R92, R143) -/

/-- A formation that is asked for hands on its reference point, and leaves the change and the pockets as they are. -/
theorem FormsReference.form {q : Point} (hpresent : s.present a = true) (h : FormsReference s a q)
    (hgrant : ∀ acknowledged inside, s.rack.arbiter ≠ .granted a acknowledged inside true) :
    ∃ t, Unmoved s t ∧ s.form a = t.handOn a q := by
  obtain ⟨hdue, hall, hq⟩ := h
  obtain ⟨cause, later, hdue⟩ := List.exists_cons_of_ne_nil hdue
  have hpoint : ((s.gather a).checkPoints (s.arms.get a).counts).reference = q := Axes.ext_get fun i =>
    ((Axes.get_map ..).trans (Gathered.referenceRoom_holds _ i).value_eq).trans (hq i).symm
  have hholding (k : CheckPoints) : Unmoved s (s.holding a later k) := ⟨rfl, rfl, rfl, rfl, rfl, rfl⟩
  refine ⟨s.judgedFormation a later ((s.gather a).checkPoints (s.arms.get a).counts), (hholding _).trans (.judge hgrant),
    ?_⟩
  rw [State.form_referenced hdue (State.referenced_iff.mpr ⟨hpresent, hall⟩) rfl, hpoint]

/-- The arm's change with the reference point. -/
def State.sighting (s : State) (a : Arm) (q : Point) : State :=
  s.setChange a { s.change a with lastReference := some q }

theorem State.sighting_change {q : Point} : (s.sighting a q).change a = { s.change a with lastReference := some q } :=
  State.change_setChange_same

theorem State.advance_dockLeft (hst : (s.change a).state = .stowOpen ∨ (s.change a).state = .stowRelease ∨
    (s.change a).state = .fetchOpen ∨ (s.change a).state = .fetchPick) (hcurrent : (s.change a).current = some p)
    (hout : s.outDock a p = true) : s.advance a = s.faultChange a .dockLeft := by
  rcases hst with h | h | h | h <;> simp [State.advance, h, hcurrent, hout]

/-- A stage that must stay in the dock box and leaves it: DOCK_LEFT, and its lid is closed at once (R144 to R148). -/
theorem State.settle_dockLeft (hm : s.mail = []) (hst : (s.change a).state = .stowOpen ∨
      (s.change a).state = .stowRelease ∨ (s.change a).state = .fetchOpen ∨ (s.change a).state = .fetchPick)
    (hcurrent : (s.change a).current = some p) (hreport : (s.report a).pocket = some p)
    (hopen : (s.change a).opened = [p]) (hout : s.outDock a p = true)
    (hlid : (s.pocket p).lid = .opening ∨ (s.pocket p).lid = .opened) (hsense : (s.pocket p).sense = true) :
    (s.send (.testStage a)).settle = (s.faulted a p .dockLeft).departing a p := by
  have hmail : (s.send (.testStage a)).mail = .testStage a :: [] := congrArg (· ++ _) hm
  have hback : ({ s.send (.testStage a) with mail := [] } : State) = s :=
    congrArg (fun m => { s with mail := m }) hm.symm
  have hchange : (s.faulted a p .dockLeft).change a = (s.change a).faulted .dockLeft s.sequencer.approachTimeout :=
    State.faulted_change
  have hout' : (s.faulted a p .dockLeft).outDock a p = true :=
    (State.outDock_congr (t := s.faulted a p .dockLeft) (congrArg Change.lastReference hchange :) rfl).trans hout
  rw [State.settle, settleBound, State.settleN_cons 255 hmail, hback, State.takeMessage,
    State.advance_dockLeft hst hcurrent hout, State.faultChange_eq hcurrent hreport]
  exact State.settle_departs (s := s.faulted a p .dockLeft) hm (by rw [hchange]; rfl) (by rw [hchange]; rfl)
    (by rw [hchange]; exact hopen) hout' hlid hsense 252

end

end Sys2Proof.Machine
end

section
/-! SUPPORT. A double fault of a change: the rack is locked out and its driven lids closed, whatever the other arm's
change waits for (spec 07, R131; spec 08, R155). -/

namespace Sys2Proof.Machine

section
variable {s t u : State} {a b : Arm} {p : Fin 20} {r : ChangeResult} {m : Message}

theorem Side.eq_other {a b : Arm} (h : b ≠ a) : b = a.other := by cases a <;> cases b <;> trivial

/-! ### A flag that is set stays set -/

theorem Flagged.messageInvariant (k : Fin 14) :
    MessageInvariant fun s : State => s.attention.sources[k].flag = true where
  frame h := h
  setChange _ h := h
  raise h := State.raise_keeps_flag _ h
  disarm h := h
  takeGrantee {s g} h := by
    refine State.takeGrantee_keeps (P := fun s : State => s.attention.sources[k].flag = true) (fun {u j} hu _ => ?_) h
      fun b _ => ?_
    · rw [(State.judgeOne_rackOnly (s := u) (j := j)).eq]
      exact State.judgedSets_flag hu
    · rw [(RackOnly.rackEntry (a := b) (.refl { s with zones := { s.zones with grantee := g } })).eq]
      exact h

theorem MessageInvariant.settleN {P : State → Prop} (hP : MessageInvariant P) (n : Nat) (h : P s) : P (s.settleN n) :=
  State.settleN_keeps (fun _ _ h => hP.frame h) (fun _ m h => hP.takeMessage h m) n s h

/-! ### What leaves the arbiter and the lids -/

/-- The arbiter, the lids, the zones and the messages are the same. -/
structure Tranquil (s t : State) : Prop where
  zones : t.zones = s.zones
  mail : t.mail = s.mail
  arbiter : t.rack.arbiter = s.rack.arbiter
  queue : t.rack.queue = s.rack.queue
  grantTimer : t.rack.grantTimer = s.rack.grantTimer
  lid : ∀ p : Fin 20, (t.pocket p).lid = (s.pocket p).lid
  drive : ∀ p : Fin 20, (t.pocket p).drive = (s.pocket p).drive

theorem Tranquil.refl (s : State) : Tranquil s s := ⟨rfl, rfl, rfl, rfl, rfl, fun _ => rfl, fun _ => rfl⟩

theorem Tranquil.trans (h : Tranquil s t) (h' : Tranquil t u) : Tranquil s u :=
  ⟨h'.zones.trans h.zones, h'.mail.trans h.mail, h'.arbiter.trans h.arbiter, h'.queue.trans h.queue,
    h'.grantTimer.trans h.grantTimer, fun p => (h'.lid p).trans (h.lid p), fun p => (h'.drive p).trans (h.drive p)⟩

theorem Tranquil.of_racking (hzones : t.zones = s.zones) (hmail : t.mail = s.mail) (h : t.racking = s.racking) :
    Tranquil s t := by
  obtain ⟨-, hlid, -, harb, hqueue, htimer⟩ := State.racking_parts h
  exact ⟨hzones, hmail, harb, hqueue, htimer, fun p => congrArg LidPart.lid (hlid p),
    fun p => congrArg LidPart.drive (hlid p)⟩

theorem Tranquil.raise (src : AttnSource) : Tranquil s (s.raise src) :=
  .of_racking (s.raise_zones src) (congrArg State.mail (s.raise_eq src) :) (State.raise_racking src)

theorem Tranquil.setChange {c : Change} : Tranquil s (s.setChange b c) := ⟨rfl, rfl, rfl, rfl, rfl, fun _ => rfl, fun _ => rfl⟩

theorem Tranquil.compareIfWatched : Tranquil s (s.compareIfWatched p) := by
  obtain ⟨_, _, _, hframe⟩ := s.compareIfWatched_frame (p := p)
  exact .of_racking (congrArg State.zones hframe :) (congrArg State.mail hframe :) State.compareIfWatched_racking

/-- A report of an arm that holds no grant is kept, and ends a suppression at most. -/
theorem State.takeReport_ungranted {k : PocketReport} (hg : s.grantedTo b = false) : s.takeReport b k =
    ((s.keeping b k).suppressionEnds (s.report b)).elim (s.keeping b k) (s.keeping b k).compareIfWatched := by
  have hnot : State.grantedTo (((s.keeping b k).suppressionEnds (s.report b)).elim (s.keeping b k)
      (s.keeping b k).compareIfWatched) b = false := by
    cases (s.keeping b k).suppressionEnds (s.report b) with
    | none => exact hg
    | some p =>
      have harb : ((s.keeping b k).compareIfWatched p).rack.arbiter = s.rack.arbiter := Tranquil.compareIfWatched.arbiter
      rw [Option.elim_some, State.grantedTo, harb]
      exact hg
  rw [State.takeReport_eq rfl, if_neg (by simp [hnot])]

theorem Tranquil.takeReport {k : PocketReport} (hg : s.grantedTo b = false) : Tranquil s (s.takeReport b k) := by
  have hkept : Tranquil s (s.keeping b k) := ⟨rfl, rfl, rfl, rfl, rfl, fun _ => rfl, fun _ => rfl⟩
  rw [State.takeReport_ungranted hg]
  cases (s.keeping b k).suppressionEnds (s.report b) with
  | none => exact hkept
  | some p => exact hkept.trans .compareIfWatched

/-- The end of a change of an arm that neither holds the rack nor waits for it. -/
theorem Tranquil.endChange (hg : s.grantedTo b = false) (hq : b ∉ s.rack.queue) : Tranquil s (s.endChange b r) := by
  have hfinish : Tranquil s (s.finishChange b r) := by
    obtain ⟨t, ht⟩ : ∃ t, t = s.setChange b { s.change b with
      state := .idle, timer := none, target := none, stowing := none, opened := [], faultResult := none } := ⟨_, rfl⟩
    have hst : Tranquil s t := ht ▸ .setChange
    have hreported : Tranquil t (t.sendReport b none false false) :=
      Tranquil.setChange.trans (.takeReport (by rw [ht]; exact hg))
    have hended : (t.sendReport b none false false).rackChangeEnded b = t.sendReport b none false false := by
      refine State.rackChangeEnded_not_granted ?_ ?_
      · rw [State.grantedTo, (hst.trans hreported).arbiter]
        exact hg
      · rw [(hst.trans hreported).queue]
        exact hq
    have hfinished : s.finishChange b r = ((t.sendReport b none false false).setChange b
        { (t.sendReport b none false false).change b with last := some (r, (s.change b).double) }).raise (.change b) := by
      rw [← hended, ht]
      rfl
    rw [hfinished]
    exact ((hst.trans hreported).trans .setChange).trans (.raise _)
  unfold State.endChange State.discardStaged
  dsimp only
  split
  · exact hfinish.trans .setChange
  · exact hfinish

/-! ### The rack locked out with the change of the arm in step 2 (R131, R155) -/

/-- The rack is locked out, no lid is driven, the arm's change and head are as given, and what waits to be taken are the
messages of the double fault. -/
structure LockedDown (a : Arm) (c : Change) (h : Head) (s : State) : Prop where
  change : s.change a = c
  head : s.head a = h
  waits : (s.change a.other).state = .idle ∨ (s.change a.other).state = .waitingRack
  arbiter : s.rack.arbiter = .lockedOut
  queue : s.rack.queue = []
  grantTimer : s.rack.grantTimer = none
  undriven : ∀ p : Fin 20, (s.pocket p).drive = false
  mail : ∀ m ∈ s.mail, m = .grantee none ∨ (∃ b, m = .lockedOut b) ∨ ∃ p, m = .lidChanged p ∧ (s.pocket p).lid = .closing
  grantee : s.zones.grantee = none ∨ .grantee none ∈ s.mail

variable {c : Change} {h : Head}

theorem LockedDown.tranquil (hs : LockedDown a c h s) (ht : Tranquil s t) (hchange : t.change a = s.change a)
    (hhead : t.head a = s.head a)
    (hwaits : (t.change a.other).state = .idle ∨ (t.change a.other).state = .waitingRack) : LockedDown a c h t where
  change := hchange.trans hs.change
  head := hhead.trans hs.head
  waits := hwaits
  arbiter := ht.arbiter.trans hs.arbiter
  queue := ht.queue.trans hs.queue
  grantTimer := ht.grantTimer.trans hs.grantTimer
  undriven p := (ht.drive p).trans (hs.undriven p)
  mail m hm := by
    refine (hs.mail m (ht.mail ▸ hm)).imp_right (.imp_right fun ⟨p, hp, hl⟩ => ⟨p, hp, (ht.lid p).trans hl⟩)
  grantee := by
    rw [ht.zones, ht.mail]
    exact hs.grantee

/-- The other arm's change ends when it is told, if it waits. -/
theorem LockedDown.takeLockout (hc : c.state = .reconciling) (hs : LockedDown a c h s) :
    LockedDown a c h (s.takeLockout b) ∧ (s.takeLockout b).mail = s.mail := by
  have hstands (hidle : (s.change b).state ≠ .waitingRack) (hnot : (s.change b).state.afterGrant = false) :
      LockedDown a c h (s.takeLockout b) ∧ (s.takeLockout b).mail = s.mail := by
    have he : s.takeLockout b = s := (if_neg hidle).trans (if_neg (Bool.eq_false_iff.mp hnot))
    rw [he]
    exact ⟨hs, rfl⟩
  by_cases hb : b = a
  · subst hb
    exact hstands (by simp [hs.change, hc]) (by simp [hs.change, hc, ChangeState.afterGrant])
  · obtain rfl : b = a.other := Side.eq_other hb
    rcases hs.waits with hidle | hwait
    · exact hstands (by simp [hidle]) (by simp [hidle, ChangeState.afterGrant])
    · have hends : s.takeLockout a.other = s.endChange a.other .rackLocked := if_pos hwait
      have hapart : Apart a s (s.endChange a.other .rackLocked) := .endChange hb (.refl _ _)
      have htranquil : Tranquil s (s.endChange a.other .rackLocked) :=
        .endChange (by simp [State.grantedTo, hs.arbiter]) (by simp [hs.queue])
      rw [hends]
      refine ⟨hs.tranquil htranquil hapart.change hapart.head (.inl ?_), htranquil.mail⟩
      rw [State.endChange_own.1]
      rfl

theorem LockedDown.takeMessage {rest : List Message} (hc : c.state = .reconciling) (hs : LockedDown a c h s)
    (hm : s.mail = m :: rest) : LockedDown a c h (State.takeMessage { s with mail := rest } m) ∧
      (State.takeMessage { s with mail := rest } m).mail = rest := by
  have hmail : ∀ k ∈ rest, k = .grantee none ∨ (∃ b, k = .lockedOut b) ∨
      ∃ p, k = .lidChanged p ∧ (s.pocket p).lid = .closing := fun k hk => hs.mail k (hm ▸ List.mem_cons_of_mem _ hk)
  have hrest (hg : m ≠ .grantee none) : LockedDown a c h { s with mail := rest } :=
    { hs with
      mail := hmail
      grantee := hs.grantee.imp_right fun hin => (List.mem_cons.mp (hm ▸ hin)).resolve_left hg.symm }
  rcases hs.mail m (hm ▸ List.mem_cons_self) with rfl | ⟨b, rfl⟩ | ⟨p, rfl, hl⟩
  · obtain ⟨hframe, hnone⟩ := State.takeGrantee_none (s := { s with mail := rest })
    have hrack := hframe.rack_eq
    have hpocket (p : Fin 20) : (State.takeGrantee { s with mail := rest } none).pocket p = s.pocket p :=
      State.pocket_congr (congrArg Rack.pockets hrack :)
    have hchange (b : Arm) : (State.takeGrantee { s with mail := rest } none).change b = s.change b :=
      (congrArg (fun q : Sequencer => q.change.get b) hframe.sequencer_eq :)
    refine ⟨?_, hframe.mail_eq⟩
    exact
      { change := (hchange a).trans hs.change
        head := (congrArg (fun q : Sequencer => q.head.get a) hframe.sequencer_eq :).trans hs.head
        waits := by
          rw [State.takeMessage, hchange]
          exact hs.waits
        arbiter := (congrArg Rack.arbiter hrack :).trans hs.arbiter
        queue := (congrArg Rack.queue hrack :).trans hs.queue
        grantTimer := (congrArg Rack.grantTimer hrack :).trans hs.grantTimer
        undriven := fun p => (congrArg Pocket.drive (hpocket p)).trans (hs.undriven p)
        mail := fun k hk => by
          have hin : k ∈ rest := (congrArg (k ∈ ·) hframe.mail_eq).mp hk
          refine (hmail k hin).imp_right (.imp_right fun ⟨p, hp, hl⟩ => ⟨p, hp, ?_⟩)
          exact (congrArg Pocket.lid (hpocket p)).trans hl
        grantee := .inl hnone }
  · exact (hrest nofun).takeLockout hc
  · have hpasses : s.Passes (.lidChanged p) := State.passes_lidChanged (.inr hl)
    rw [hpasses rest]
    exact ⟨hrest nofun, rfl⟩

/-- The messages of the double fault taken. -/
theorem LockedDown.settleN (hc : c.state = .reconciling) {n : Nat} (hs : LockedDown a c h s) (hlen : s.mail.length ≤ n) :
    LockedDown a c h (s.settleN n) ∧ (s.settleN n).zones.grantee = none := by
  induction n generalizing s with
  | zero =>
    have hm : s.mail = [] := List.eq_nil_of_length_eq_zero (Nat.le_zero.mp hlen)
    rw [State.settleN_of_quiet _ _ hm]
    exact ⟨hs, hs.grantee.resolve_right (by simp [hm])⟩
  | succ n ih =>
    cases hm : s.mail with
    | nil =>
      rw [State.settleN_of_quiet _ _ hm]
      exact ⟨hs, hs.grantee.resolve_right (by simp [hm])⟩
    | cons m rest =>
      obtain ⟨hnext, hmail⟩ := hs.takeMessage hc hm
      rw [State.settleN_cons n hm]
      rw [hm] at hlen
      exact ih hnext ((congrArg List.length hmail).trans_le (Nat.le_of_succ_le_succ hlen))

/-! ### The double fault (R131, R155, R156) -/

/-- The head as the read of step 2 begins (R156). -/
def Head.read (h : Head) : Head := { h with state := .identifying, allowUnqualified := false, attempt := some 1 }

theorem State.identifyHead_reads (hp : (s.head a).modulePresent = true) : s.identifyHead a =
    (s.setChange a { s.change a with wait := .identity }).setHead a (s.head a).read := by
  obtain ⟨t, ht⟩ : ∃ t, t = s.setChange a { s.change a with wait := .identity } := ⟨_, rfl⟩
  have hhead : t.head a = s.head a := by rw [ht]; rfl
  have hreads : s.identifyHead a =
      (t.headBecomes a .identifying).setHead a { (t.headBecomes a .identifying).head a with attempt := some 1 } := by
    subst ht
    exact if_pos hp
  have hbecomes : (t.headBecomes a .identifying).head a =
      { t.head a with state := .identifying, allowUnqualified := false } := Two.get_set_same ..
  rw [hreads, hbecomes, hhead]
  unfold State.headBecomes
  rw [State.setHead_setHead, ht]
  rfl

/-- A double fault of the rack whose driven lids stand open (R131). -/
theorem State.doubleFault_locksDown (hl : s.rack.arbiter ≠ .lockedOut) (hm : s.mail = [])
    (hdriven : ∀ p : Fin 20, (s.pocket p).drive = true →
      ((s.pocket p).lid = .opening ∨ (s.pocket p).lid = .opened) ∧ (s.pocket p).sense = true)
    (hwaits : (s.change a.other).state = .idle ∨ (s.change a.other).state = .waitingRack) :
    LockedDown a (s.change a) (s.head a) (s.doubleFault a) ∧
      (s.doubleFault a).attention.sources[sourceIndex .rack].flag = true ∧ (s.doubleFault a).mail.length ≤ 23 ∧
      ∀ p, (s.pocket p).drive = false → (s.doubleFault a).pocket p = s.pocket p := by
  obtain ⟨z, hz⟩ : ∃ z, z = ((s.setArbiter .lockedOut).setQueue []).setGrantTimer none := ⟨_, rfl⟩
  obtain ⟨y, hy⟩ : ∃ y, y = (z.reexamine.tellLockedOut (s.lockedOutArms a)).send (.grantee none) := ⟨_, rfl⟩
  obtain ⟨k, hk⟩ : ∃ k, k = z.reexamine.rack.pockets := ⟨_, rfl⟩
  have hfault : s.doubleFault a = y.raise .rack := by
    subst hy hz
    exact if_neg hl
  have hframe : y = { s with
      rack := { z.rack with pockets := k }
      mail := ((List.finRange 20).filter z.releases).map .lidChanged ++ (s.lockedOutArms a).map .lockedOut ++
        [.grantee none] } := by
    rw [hy, State.tellLockedOut_eq, State.reexamine_frame, ← hk]
    subst hz
    simp only [State.send, State.setArbiter, State.setQueue, State.setGrantTimer, hm, List.nil_append]
  have hpocket (p : Fin 20) : y.pocket p = if z.releases p then (s.pocket p).closing z.rack.lidTimeout else s.pocket p := by
    have hsame : y.pocket p = k[p] := by rw [hframe]; rfl
    have hreexamined : k[p] = z.reexamine.pocket p := congrArg (·[p]) hk
    rw [hsame, hreexamined, State.reexamine_pocket, hz]
    rfl
  have hreleases (p : Fin 20) : z.releases p = (s.pocket p).drive := by
    refine Bool.eq_iff_iff.mpr (State.releases_iff.trans ⟨fun h => ?_, fun h => ⟨?_, ?_, ?_⟩⟩)
    · rw [hz] at h
      exact h.1
    · rw [hz]
      exact h
    · rw [State.granteePocket_not_granted (.inr (by rw [hz]; rfl))]
      exact nofun
    · rw [hz]
      exact (hdriven p h).1
  have hlocked : LockedDown a (s.change a) (s.head a) y :=
    { change := by rw [hframe]; rfl
      head := by rw [hframe]; rfl
      waits := by rw [hframe]; exact hwaits
      arbiter := by rw [hframe, hz]; rfl
      queue := by rw [hframe, hz]; rfl
      grantTimer := by rw [hframe, hz]; rfl
      undriven := fun p => by
        rw [hpocket, hreleases]
        split
        · rfl
        · next hd => exact Bool.eq_false_iff.mpr hd
      mail := fun m hin => by
        have hmail : y.mail = ((List.finRange 20).filter z.releases).map .lidChanged ++
          (s.lockedOutArms a).map .lockedOut ++ [.grantee none] := by rw [hframe]
        rw [hmail, List.mem_append, List.mem_append, List.mem_map, List.mem_map, List.mem_singleton] at hin
        rcases hin with (⟨p, hp, rfl⟩ | ⟨b, -, rfl⟩) | rfl
        · have hr : z.releases p = true := (List.mem_filter.mp hp).2
          refine .inr (.inr ⟨p, rfl, ?_⟩)
          rw [hpocket, if_pos hr]
          exact if_pos (hdriven p (hreleases p ▸ hr)).2
        · exact .inr (.inl ⟨b, rfl⟩)
        · exact .inl rfl
      grantee := .inr (by rw [hframe]; exact List.mem_append_right _ (List.mem_singleton_self _)) }
  have hlength : (y.raise .rack).mail.length ≤ 23 := by
    have hlids : ((List.finRange 20).filter z.releases).length ≤ 20 :=
      (List.length_filter_le ..).trans_eq (List.length_finRange)
    have harms : (s.lockedOutArms a).length ≤ 2 := State.lockedOutArms_length
    rw [(Tranquil.raise (s := y) .rack).mail, hframe]
    simp only [List.length_append, List.length_map, List.length_singleton]
    omega
  have hraised : Apart a y (y.raise .rack) := (Apart.refl a y).raise
  have hother : Apart a.other y (y.raise .rack) := (Apart.refl a.other y).raise
  rw [hfault]
  refine ⟨hlocked.tranquil (.raise _) hraised.change hraised.head (by rw [hother.change]; exact hlocked.waits),
    State.raise_flag _ _ rfl, hlength, fun p hd => ?_⟩
  have hsame : (y.raise .rack).pocket p = y.pocket p := State.pocket_congr (congrArg Rack.pockets (y.raise_rack .rack))
  rw [hsame, hpocket, hreleases, hd]
  exact if_neg Bool.false_ne_true

theorem LockedDown.own {d : Change} {k : Head} (hs : LockedDown a c h s) :
    LockedDown a d k ((s.setChange a d).setHead a k) where
  change := State.change_setChange_same (s := s)
  head := Two.get_set_same ..
  waits := by
    have hother : ((s.setChange a d).setHead a k).change a.other = s.change a.other := Two.get_set_other ..
    rw [hother]
    exact hs.waits
  arbiter := hs.arbiter
  queue := hs.queue
  grantTimer := hs.grantTimer
  undriven := hs.undriven
  mail := hs.mail
  grantee := hs.grantee

/-- The double fault of a change goes on to step 2 (R155, R156). -/
theorem State.changeDoubleFault_locksDown (hl : s.rack.arbiter ≠ .lockedOut) (hm : s.mail = [])
    (hdriven : ∀ p : Fin 20, (s.pocket p).drive = true →
      ((s.pocket p).lid = .opening ∨ (s.pocket p).lid = .opened) ∧ (s.pocket p).sense = true)
    (hwaits : (s.change a.other).state = .idle ∨ (s.change a.other).state = .waitingRack)
    (hp : (s.head a).modulePresent = true) :
    LockedDown a { s.change a with double := true, timer := none, wait := .identity } (s.head a).read
        (s.changeDoubleFault a) ∧
      (s.changeDoubleFault a).attention.sources[sourceIndex .rack].flag = true ∧
      (s.changeDoubleFault a).mail.length ≤ 23 ∧
      ∀ p, (s.pocket p).drive = false → (s.changeDoubleFault a).pocket p = s.pocket p := by
  obtain ⟨t, ht⟩ : ∃ t, t = s.setChange a { s.change a with double := true, timer := none } := ⟨_, rfl⟩
  have hchange : t.change a = { s.change a with double := true, timer := none } := by
    rw [ht]
    exact State.change_setChange_same
  have hother : t.change a.other = s.change a.other := by
    rw [ht]
    exact Two.get_set_other ..
  obtain ⟨hlocked, hflag, hlength, hpocket⟩ := State.doubleFault_locksDown (s := t) (a := a) (by rw [ht]; exact hl) (by rw [ht]; exact hm)
    (by rw [ht]; exact hdriven) (by rw [hother]; exact hwaits)
  have hhead : (t.doubleFault a).head a = s.head a := by
    rw [hlocked.head, ht]
    rfl
  have hgoes : s.changeDoubleFault a = (t.doubleFault a).identifyHead a := by rw [ht]; rfl
  rw [hgoes, State.identifyHead_reads (by rw [hhead]; exact hp), hhead, hlocked.change, hchange]
  refine ⟨hlocked.own, hflag, hlength, fun p hd => (hpocket p (by rw [ht]; exact hd)).trans ?_⟩
  rw [ht]
  rfl

end

end Sys2Proof.Machine
end

section
/-! SUPPORT. A lid of a change that jams, and step 1 without an open lid (spec 08, R151, R154, R155). -/

namespace Sys2Proof.Machine

section
variable {s t : State} {a b : Arm} {p : Fin 20} {c : Change} {h : Head}

/-! ### Step 1 without an open lid (R154, R156) -/

theorem State.closeAll_none : s.closeAll a [] = (s, false) := rfl

theorem State.makeRackSafe_empty (hw : (s.change a).wait = .lids) (hopen : (s.change a).opened = []) :
    s.makeRackSafe a = s.identifyHead a := by
  simp [State.makeRackSafe, hw, hopen]

/-- With no lid open the departure is not waited for. -/
theorem State.advance_departs_empty (hst : (s.change a).state = .reconciling) (hw : (s.change a).wait = .departure)
    (hopen : (s.change a).opened = []) :
    s.advance a = (s.setChange a { s.change a with timer := none, wait := .lids }).send (.testStage a) := by
  have hall : (s.change a).opened.all (s.outDock a) = true := by rw [hopen]; rfl
  rw [State.advance_reconciling hst, State.makeRackSafe_departs hw hall, hopen, State.closeAll_none]
  rfl

/-- When the lids are CLOSED, or none was open, a module on the head is read. -/
theorem State.advance_identifies (hst : (s.change a).state = .reconciling) (hw : (s.change a).wait = .lids)
    (hopen : (s.change a).opened = []) (hp : (s.head a).modulePresent = true) :
    s.advance a = (s.setChange a { s.change a with wait := .identity }).setHead a (s.head a).read := by
  rw [State.advance_reconciling hst, State.makeRackSafe_empty hw hopen, State.identifyHead_reads hp]

/-- With no lid open step 1 is done at once, and a module on the head is read. -/
theorem State.settle_identifies (hm : s.mail = []) (hst : (s.change a).state = .reconciling)
    (hw : (s.change a).wait = .departure) (hopen : (s.change a).opened = [])
    (hp : (s.head a).modulePresent = true) (n : Nat) : (s.send (.testStage a)).settleN (n + 2) =
      (s.setChange a { s.change a with timer := none, wait := .identity }).setHead a (s.head a).read := by
  obtain ⟨t, ht⟩ : ∃ t, t = s.setChange a { s.change a with timer := none, wait := .lids } := ⟨_, rfl⟩
  have hmail : (s.send (.testStage a)).mail = .testStage a :: [] := congrArg (· ++ _) hm
  have hback : ({ s.send (.testStage a) with mail := [] } : State) = s :=
    congrArg (fun m => { s with mail := m }) hm.symm
  have htmail : t.mail = [] := by rw [ht]; exact hm
  have hmail' : (t.send (.testStage a)).mail = .testStage a :: [] := congrArg (· ++ _) htmail
  have hback' : ({ t.send (.testStage a) with mail := [] } : State) = t :=
    congrArg (fun m => { t with mail := m }) htmail.symm
  have hchange : t.change a = { s.change a with timer := none, wait := .lids } := by
    rw [ht]
    exact State.change_setChange_same
  have hhead : t.head a = s.head a := by rw [ht]; rfl
  have hsecond : t.advance a =
      (s.setChange a { s.change a with timer := none, wait := .identity }).setHead a (s.head a).read := by
    rw [State.advance_identifies (by rw [hchange]; exact hst) (by rw [hchange]) (by rw [hchange]; exact hopen)
      (by rw [hhead]; exact hp), hhead, hchange, ht, State.setChange_setChange]
  rw [State.settleN_cons (n + 1) hmail, hback, State.takeMessage, State.advance_departs_empty hst hw hopen, ← ht,
    State.settleN_cons n hmail', hback', State.takeMessage, hsecond]
  exact State.settleN_of_quiet _ _ hm

theorem State.stepExpiry_reconciling (htimer : (s.change a).timer ≠ none) (hfrz : s.frz = false)
    (hst : (s.change a).state = .reconciling) : s.stepExpiry a = (s.stopTimer a).changeDoubleFault a := by
  have hst' : ((s.stopTimer a).change a).state = .reconciling := by
    rw [State.stopTimer, State.change_setChange_same]
    exact hst
  rw [State.stepExpiry, if_pos (by simp [Option.isSome_iff_ne_none, htimer, hfrz])]
  exact if_pos hst'

/-! ### A jam (R125, R151, R155) -/

/-- The news of both arms in either order. -/
theorem State.tellBoth_order (f : State → Arm → State) (a : Arm) :
    s.tellBoth f = f (f s a) a.other ∨ s.tellBoth f = f (f s a.other) a := by
  cases a
  · exact .inl rfl
  · exact .inr rfl

/-- A change that has nothing at the rack yet only drops a lid that jams. -/
theorem State.lidNews_waiting (hl : (s.pocket p).lid = .jammed)
    (hw : (s.change b).state = .idle ∨ (s.change b).state = .waitingRack) :
    s.lidNews b p = s ∨ s.lidNews b p = s.dropOpened b p := by
  unfold State.lidNews
  dsimp only
  split
  · rw [hl]
    rcases hw with hw | hw <;> simp [hw, ChangeState.afterGrant]
  · exact .inl rfl

theorem State.lidNews_jamFaults (hl : (s.pocket p).lid = .jammed) (hp : p ∈ (s.change a).opened)
    (hst : (s.change a).state.afterGrant = true) : s.lidNews a p = (s.dropOpened a p).faultChange a .lidJammed := by
  simp [State.lidNews, hl, hp, hst]

theorem State.lidNews_doubleFault (hl : (s.pocket p).lid = .jammed) (hp : p ∈ (s.change a).opened)
    (hst : (s.change a).state = .reconciling) (hw : (s.change a).wait ≠ .identity) :
    s.lidNews a p = (s.dropOpened a p).changeDoubleFault a := by
  simp [State.lidNews, hl, hp, hst, hw, ChangeState.afterGrant]

theorem LockedDown.lidNews_other (hs : LockedDown a c h s) (hl : (s.pocket p).lid = .jammed) :
    LockedDown a c h (s.lidNews a.other p) ∧ (s.lidNews a.other p).mail = s.mail := by
  rcases State.lidNews_waiting hl hs.waits with e | e <;> rw [e]
  · exact ⟨hs, rfl⟩
  · have hchange : (s.dropOpened a.other p).change a.other = _ := State.change_setChange_same
    refine ⟨hs.tranquil .setChange (Two.get_set_ne _ _ (Side.other_ne a)) rfl ?_, rfl⟩
    rw [hchange]
    exact hs.waits

/-- The pocket of a lid that jams, with what the sense was, and the message of it. -/
theorem State.jam_jams : ∃ k, s.jam p = { (s.setPocket p (s.pocket p).jammed).send (.lidChanged p) with attention := k } := by
  rw [State.jam_eq]
  split
  · exact ⟨_, rfl⟩
  · exact ⟨_, State.raise_eq _⟩

/-- A lid that jams is told to the change sequencers, and has its drive off. -/
theorem State.settle_jam_told (hm : s.mail = []) : ∃ k, (s.jam p).settle =
    (State.tellBoth { s.setPocket p (s.pocket p).jammed with attention := k } fun t b => t.lidNews b p).settleN 255 := by
  obtain ⟨k, hk⟩ := s.jam_jams (p := p)
  obtain ⟨w, hw⟩ : ∃ w : State, w = { s.setPocket p (s.pocket p).jammed with attention := k } := ⟨_, rfl⟩
  have hjam : s.jam p = w.send (.lidChanged p) := by rw [hk, hw]; rfl
  have hwm : w.mail = [] := by rw [hw]; exact hm
  have hmail : (w.send (.lidChanged p)).mail = .lidChanged p :: [] := congrArg (· ++ _) hwm
  have hback : ({ w.send (.lidChanged p) with mail := [] } : State) = w :=
    congrArg (fun m => { w with mail := m }) hwm.symm
  refine ⟨k, ?_⟩
  rw [hjam, State.settle, settleBound, State.settleN_cons 255 hmail, hback, hw]
  rfl

theorem Pocket.jammed_lid (r : Pocket) : r.jammed.lid = .jammed ∧ r.jammed.drive = false := ⟨rfl, rfl⟩

/-- What the change of the arm makes of its one open lid's jam in step 1 (R155). -/
theorem State.lidNews_locksDown (hl : s.rack.arbiter ≠ .lockedOut) (hm : s.mail = [])
    (hdriven : ∀ q : Fin 20, (s.pocket q).drive = true →
      ((s.pocket q).lid = .opening ∨ (s.pocket q).lid = .opened) ∧ (s.pocket q).sense = true)
    (hwaits : (s.change a.other).state = .idle ∨ (s.change a.other).state = .waitingRack)
    (hp : (s.head a).modulePresent = true) (hopen : (s.change a).opened = [p])
    (hst : (s.change a).state = .reconciling) (hw : (s.change a).wait ≠ .identity)
    (hjammed : (s.pocket p).lid = .jammed ∧ (s.pocket p).drive = false) :
    LockedDown a { s.change a with double := true, opened := [], timer := none, wait := .identity } (s.head a).read
        (s.lidNews a p) ∧
      (s.lidNews a p).attention.sources[sourceIndex .rack].flag = true ∧ (s.lidNews a p).mail.length ≤ 23 ∧
      (s.lidNews a p).pocket p = s.pocket p := by
  obtain ⟨t, ht⟩ : ∃ t, t = s.dropOpened a p := ⟨_, rfl⟩
  have hchange : t.change a = { s.change a with opened := [] } := by
    rw [ht, State.dropOpened, State.change_setChange_same, hopen]
    simp
  have hother : t.change a.other = s.change a.other := by
    rw [ht]
    exact Two.get_set_other ..
  obtain ⟨hlocked, hflag, hlength, hpocket⟩ := State.changeDoubleFault_locksDown (s := t) (a := a) (by rw [ht]; exact hl)
    (by rw [ht]; exact hm) (by rw [ht]; exact hdriven) (by rw [hother]; exact hwaits) (by rw [ht]; exact hp)
  have hhead : t.head a = s.head a := by rw [ht]; rfl
  rw [State.lidNews_doubleFault hjammed.1 (hopen ▸ List.mem_singleton_self p) hst hw, ← ht]
  rw [hchange, hhead] at hlocked
  refine ⟨hlocked, hflag, hlength, (hpocket p (by rw [ht]; exact hjammed.2)).trans ?_⟩
  rw [ht]
  rfl

/-- A lid that jams while step 1 waits is a double fault. -/
theorem State.settle_jam_doubleFault (hl : s.rack.arbiter ≠ .lockedOut) (hm : s.mail = [])
    (hdriven : ∀ q : Fin 20, q ≠ p → (s.pocket q).drive = true →
      ((s.pocket q).lid = .opening ∨ (s.pocket q).lid = .opened) ∧ (s.pocket q).sense = true)
    (hwaits : (s.change a.other).state = .idle ∨ (s.change a.other).state = .waitingRack)
    (hp : (s.head a).modulePresent = true) (hopen : (s.change a).opened = [p])
    (hst : (s.change a).state = .reconciling) (hw : (s.change a).wait ≠ .identity) :
    LockedDown a { s.change a with double := true, opened := [], timer := none, wait := .identity } (s.head a).read
        (s.jam p).settle ∧ (s.jam p).settle.zones.grantee = none ∧
      (s.jam p).settle.attention.sources[sourceIndex .rack].flag = true := by
  obtain ⟨k, hsettle⟩ := s.settle_jam_told (p := p) hm
  obtain ⟨w, hw'⟩ : ∃ w : State, w = { s.setPocket p (s.pocket p).jammed with attention := k } := ⟨_, rfl⟩
  have hpocket (q : Fin 20) : w.pocket q = if p = q then (s.pocket p).jammed else s.pocket q := by
    rw [hw']
    exact State.pocket_setPocket ..
  have hjammed : (w.pocket p).lid = .jammed ∧ (w.pocket p).drive = false := by
    rw [hpocket, if_pos rfl]
    exact (s.pocket p).jammed_lid
  have hwdriven (q : Fin 20) (hd : (w.pocket q).drive = true) :
      ((w.pocket q).lid = .opening ∨ (w.pocket q).lid = .opened) ∧ (w.pocket q).sense = true := by
    rw [hpocket] at hd ⊢
    split at hd
    · cases hd
    · next hne =>
      rw [if_neg hne]
      exact hdriven q (Ne.symm hne) hd
  have hchange (b : Arm) : w.change b = s.change b := by rw [hw']; rfl
  have hhead : w.head a = s.head a := by rw [hw']; rfl
  have hwm : w.mail = [] := by rw [hw']; exact hm
  have hwl : w.rack.arbiter ≠ .lockedOut := by rw [hw']; exact hl
  have htold : LockedDown a { s.change a with double := true, opened := [], timer := none, wait := .identity }
      (s.head a).read (w.tellBoth fun t b => t.lidNews b p) ∧
      (w.tellBoth fun t b => t.lidNews b p).attention.sources[sourceIndex .rack].flag = true ∧
      (w.tellBoth fun t b => t.lidNews b p).mail.length ≤ 23 := by
    rcases State.tellBoth_order (s := w) (fun t b => t.lidNews b p) a with e | e <;> rw [e]
    · obtain ⟨hlocked, hflag, hlength, hsame⟩ := State.lidNews_locksDown (s := w) hwl hwm hwdriven
        (by rw [hchange]; exact hwaits) (by rw [hhead]; exact hp) (by rw [hchange]; exact hopen)
        (by rw [hchange]; exact hst) (by rw [hchange]; exact hw) hjammed
      rw [hchange, hhead] at hlocked
      obtain ⟨hlocked', hmail⟩ := hlocked.lidNews_other (p := p) (by rw [hsame]; exact hjammed.1)
      exact ⟨hlocked', (Flagged.messageInvariant _).lidNews hflag, hmail ▸ hlength⟩
    · obtain ⟨x, hx⟩ : ∃ x, x = w.lidNews a.other p := ⟨_, rfl⟩
      have hcases : x = w ∨ x = w.dropOpened a.other p := by
        rw [hx]
        exact State.lidNews_waiting hjammed.1 (by rw [hchange]; exact hwaits)
      have hxchange : x.change a = s.change a := by
        rcases hcases with e | e <;> rw [e]
        · exact hchange a
        · exact (Two.get_set_ne _ _ (Side.other_ne a)).trans (hchange a)
      have hxwaits : (x.change a.other).state = .idle ∨ (x.change a.other).state = .waitingRack := by
        rcases hcases with e | e <;> rw [e]
        · rw [hchange]
          exact hwaits
        · rw [State.dropOpened, State.change_setChange_same, hchange]
          exact hwaits
      have hxrack : x.rack = w.rack ∧ x.mail = w.mail ∧ x.head a = w.head a := by
        rcases hcases with e | e <;> rw [e] <;> exact ⟨rfl, rfl, rfl⟩
      obtain ⟨hrack, hmail, hxhead⟩ := hxrack
      have hxpocket (q : Fin 20) : x.pocket q = w.pocket q := State.pocket_congr (congrArg Rack.pockets hrack)
      obtain ⟨hlocked, hflag, hlength, -⟩ := State.lidNews_locksDown (s := x) (a := a) (p := p) (by rw [hrack]; exact hwl)
        (hmail.trans hwm) (by simpa only [hxpocket] using hwdriven) hxwaits (by rw [hxhead, hhead]; exact hp)
        (by rw [hxchange]; exact hopen) (by rw [hxchange]; exact hst) (by rw [hxchange]; exact hw)
        (by rw [hxpocket]; exact hjammed)
      rw [hxchange, hxhead, hhead, hx] at hlocked
      exact ⟨hlocked, hx ▸ hflag, hx ▸ hlength⟩
  obtain ⟨hlocked, hflag, hlength⟩ := htold
  rw [hsettle, ← hw']
  obtain ⟨hsettled, hnone⟩ := hlocked.settleN (n := 255) (by exact hst) (Nat.le_trans hlength (by decide))
  exact ⟨hsettled, hnone, (Flagged.messageInvariant _).settleN _ hflag⟩

/-- A part at rest in which the arm's change, head and report, and the pocket, are as given. -/
structure Standing (a : Arm) (p : Fin 20) (c : Change) (h : Head) (k : PocketReport) (j : Pocket) (s : State) : Prop where
  change : s.change a = c
  head : s.head a = h
  report : s.report a = k
  pocket : s.pocket p = j
  mail : s.mail = []

variable {k : PocketReport} {j : Pocket} {p₀ : Fin 20}

theorem Standing.setChange_other {d : Change} (hs : Standing a p c h k j s) :
    Standing a p c h k j (s.setChange a.other d) where
  change := (Two.get_set_ne _ _ (Side.other_ne a)).trans hs.change
  head := hs.head
  report := hs.report
  pocket := hs.pocket
  mail := hs.mail

theorem Standing.faulted {r : ChangeResult} {n : Nat} (hs : Standing a p c h k j s)
    (hn : s.sequencer.approachTimeout = n) : Standing a p (c.faulted r n) { h with attempt := none }
      { pocket := some p₀, suppressed := true, stow := k.stow } j (s.faulted a p₀ r) where
  change := by rw [State.faulted_change, hs.change, hn]
  head := by
    rw [← hs.head]
    exact Two.get_set_same ..
  report := by
    rw [← hs.report]
    exact Two.get_set_same ..
  pocket := hs.pocket
  mail := hs.mail

/-- The news of its jammed lid is the fault of the change of the arm. -/
theorem Standing.lidNews (hs : Standing a p c h k j s) (hl : j.lid = .jammed) (hopen : c.opened = [p])
    (hst : c.state.afterGrant = true) (hcurrent : c.current = some p₀) (hreport : k.pocket = some p₀) :
    ∃ z n, s.lidNews a p = z.send (.testStage a) ∧
      Standing a p (Change.faulted { c with opened := [] } .lidJammed n) { h with attempt := none }
        { pocket := some p₀, suppressed := true, stow := k.stow } j z := by
  have hdropped : Standing a p { c with opened := [] } h k j (s.dropOpened a p) :=
    { hs with
      change := by
        rw [State.dropOpened, State.change_setChange_same, hs.change, hopen]
        simp }
  refine ⟨_, _, ?_, hdropped.faulted rfl⟩
  rw [State.lidNews_jamFaults (by rw [hs.pocket]; exact hl) (by rw [hs.change, hopen]; exact List.mem_singleton_self p)
    (by rw [hs.change]; exact hst)]
  exact State.faultChange_eq (by rw [hdropped.change]; exact hcurrent) (by rw [hdropped.report]; exact hreport)

theorem Standing.lidNews_other (hs : Standing a p c h k j s) (hl : j.lid = .jammed)
    (hwaits : (s.change a.other).state = .idle ∨ (s.change a.other).state = .waitingRack) {m : List Message} :
    ∃ z, State.lidNews { s with mail := m } a.other p = { z with mail := m } ∧ Standing a p c h k j z := by
  rcases State.lidNews_waiting (s := { s with mail := m }) (b := a.other) (p := p)
    (by exact (congrArg Pocket.lid hs.pocket).trans hl) hwaits with e | e <;> rw [e]
  · exact ⟨s, rfl, hs⟩
  · exact ⟨s.dropOpened a.other p, rfl, hs.setChange_other⟩

/-- A lid that jams in a stage after the grant is the fault LID_JAMMED, and step 1 has no lid left to close. -/
theorem State.settle_jam_faults (hm : s.mail = [])
    (hwaits : (s.change a.other).state = .idle ∨ (s.change a.other).state = .waitingRack)
    (hp : (s.head a).modulePresent = true) (hopen : (s.change a).opened = [p])
    (hst : (s.change a).state.afterGrant = true) (hcurrent : (s.change a).current = some p₀)
    (hreport : (s.report a).pocket = some p₀) :
    Standing a p { s.change a with
        state := .reconciling, faultResult := some .lidJammed, opened := [], timer := none, wait := .identity }
      (s.head a).read { pocket := some p₀, suppressed := true, stow := (s.report a).stow } (s.pocket p).jammed
      (s.jam p).settle := by
  obtain ⟨k, hsettle⟩ := s.settle_jam_told (p := p) hm
  obtain ⟨w, hw⟩ : ∃ w : State, w = { s.setPocket p (s.pocket p).jammed with attention := k } := ⟨_, rfl⟩
  have hstands : Standing a p (s.change a) (s.head a) (s.report a) (s.pocket p).jammed w :=
    { change := by rw [hw]; rfl
      head := by rw [hw]; rfl
      report := by rw [hw]; rfl
      pocket := by
        rw [hw]
        exact (State.pocket_setPocket ..).trans (if_pos rfl)
      mail := by rw [hw]; exact hm }
  have hwwaits : (w.change a.other).state = .idle ∨ (w.change a.other).state = .waitingRack := by
    rw [hw]
    exact hwaits
  obtain ⟨z, n, htold, hz⟩ : ∃ z n, (w.tellBoth fun t b => t.lidNews b p) = z.send (.testStage a) ∧
      Standing a p (Change.faulted { s.change a with opened := [] } .lidJammed n) { s.head a with attempt := none }
        { pocket := some p₀, suppressed := true, stow := (s.report a).stow } (s.pocket p).jammed z := by
    rcases State.tellBoth_order (s := w) (fun t b => t.lidNews b p) a with e | e <;> rw [e]
    · obtain ⟨z, n, hnews, hz⟩ := hstands.lidNews rfl hopen hst hcurrent hreport
      have hother : Apart a.other w (w.lidNews a p) := .lidNews (Side.other_ne a).symm (.refl _ _)
      have hzwaits : (z.change a.other).state = .idle ∨ (z.change a.other).state = .waitingRack := by
        rw [hnews] at hother
        exact hother.change.symm ▸ hwwaits
      obtain ⟨y, hy, hystands⟩ := hz.lidNews_other rfl hzwaits (m := z.mail ++ [.testStage a])
      refine ⟨y, n, ?_, hystands⟩
      rw [hnews]
      have hmails : z.mail = y.mail := hz.mail.trans hystands.mail.symm
      exact hy.trans (congrArg (fun m => ({ y with mail := m ++ [.testStage a] } : State)) hmails)
    · obtain ⟨y, hy, hystands⟩ := hstands.lidNews_other rfl hwwaits (m := w.mail)
      have hmails : w.mail = y.mail := hstands.mail.trans hystands.mail.symm
      have hy' : w.lidNews a.other p = y := hy.trans (congrArg (fun m => ({ y with mail := m } : State)) hmails)
      rw [hy']
      exact hystands.lidNews rfl hopen hst hcurrent hreport
  have hsettled := State.settle_identifies (s := z) hz.mail (by rw [hz.change]; rfl) (by rw [hz.change]; rfl)
    (by rw [hz.change]; rfl) (by rw [hz.head]; exact hp) 253
  rw [hsettle, ← hw, htold, hsettled, hz.change, hz.head]
  exact
    { change := State.change_setChange_same (s := z)
      head := Two.get_set_same ..
      report := hz.report
      pocket := hz.pocket
      mail := hz.mail }

end

end Sys2Proof.Machine
end

section
/-! SUPPORT. What the end of the other arm's waiting change leaves of a change: it passes the rack on at most, and a grant
told to a change that does not wait passes it by (spec 07, R128; spec 08, R151). -/

namespace Sys2Proof.Machine

section
variable {s t u : State} {a b d : Arm} {p q : Fin 20} {r : ChangeResult} {m : Message} {l rest : List Message}

/-! ### The dock boxes (R143) -/

theorem State.setPocket_dock {v : Pocket} (h : v.dock = (s.pocket q).dock) :
    ((s.setPocket q v).pocket p).dock = (s.pocket p).dock := by
  rw [State.pocket_setPocket]
  split
  · subst q
    exact h
  · rfl

theorem State.raise_dock (src : AttnSource) : ((s.raise src).pocket p).dock = (s.pocket p).dock :=
  congrArg Pocket.dock (State.pocket_congr (congrArg Rack.pockets (s.raise_rack src)))

theorem State.moveTip_dock {i : Fin 64} {v : Tip} {loc : Location} :
    ((s.moveTip i v loc).pocket p).dock = (s.pocket p).dock := by
  cases loc with
  | missing => exact State.raise_dock _
  | inPocket =>
    refine State.setPocket_dock ?_
    rfl
  | onArm | inTransit => rfl

theorem State.compareIfWatched_dock : ((s.compareIfWatched q).pocket p).dock = (s.pocket p).dock := by
  have hempty : ((s.libraryHomeEmpty q).state.pocket p).dock = (s.pocket p).dock := by
    unfold State.libraryHomeEmpty
    split
    · rfl
    · split
      · split
        · exact State.moveTip_dock
        · rfl
      · rfl
  have hoccupied : ((s.libraryHomeOccupied q).state.pocket p).dock = (s.pocket p).dock := by
    unfold State.libraryHomeOccupied
    split
    · rfl
    · split
      · split
        · exact (State.raise_dock _).trans State.moveTip_dock
        · rfl
      · rfl
  unfold State.compareIfWatched State.compare
  split
  · rfl
  · split
    · simp only [State.seenEmpty]
      split
      · exact (State.raise_dock _).trans hempty
      · exact hempty
    · simp only [State.seenOccupied]
      split
      · exact hoccupied
      · refine (State.raise_dock _).trans ((State.setPocket_dock ?_).trans hoccupied)
        rfl
    · rfl

/-! ### A grant that goes on (R127, R130) -/

/-- No grant is held by an arm whose change has ended. -/
def State.Unended (s : State) : Prop := ∀ b acknowledged inside, s.rack.arbiter ≠ .granted b acknowledged inside true

theorem State.Unended.congr (h : s.Unended) (harb : t.rack.arbiter = s.rack.arbiter) : t.Unended := fun b x y => by
  rw [harb]
  exact h b x y

theorem State.Unended.rackEntry (h : s.Unended) : (s.rackEntry b).Unended := by
  unfold State.rackEntry
  split
  · next c x y ended harb =>
    have hended : ended = false := Bool.eq_false_iff.mpr fun e => h c x y (e ▸ harb)
    subst hended
    split
    · split <;> exact fun _ _ _ => nofun
    · exact h
  · exact h

theorem State.Unended.rackExit (h : s.Unended) : (s.rackExit b).Unended := by
  cases hg : s.grantedTo b with
  | false =>
    rw [State.rackExit_not_granted hg]
    exact h
  | true =>
    unfold State.grantedTo at hg
    split at hg
    · next c x y ended harb =>
      obtain rfl : c = b := eq_of_beq hg
      have hended : ended = false := Bool.eq_false_iff.mpr fun e => h c x y (e ▸ harb)
      subst hended
      rw [State.rackExit_staying harb]
      exact fun _ _ _ => nofun
    · cases hg

theorem State.Unended.judgeOne {j : Judgement} (h : s.Unended) : (s.judgeOne j).Unended := by
  have hsets : (s.judgedSets j).Unended := h.congr (congrArg Rack.arbiter State.judgedSets_monitorOnly.rack_eq)
  rw [State.judgeOne_eq, State.reportRack]
  split
  · split
    · exact hsets.rackEntry
    · split
      · exact hsets.rackExit
      · exact hsets
  · exact hsets

/-- The zone monitor told of such a grant leaves the change and the pockets. -/
theorem State.Unended.takeGrantee (h : s.Unended) (g : Option Arm) :
    Unmoved s (s.takeGrantee g) ∧ (s.takeGrantee g).Unended := by
  have hstart : Unmoved s { s with zones := { s.zones with grantee := g } } := ⟨rfl, rfl, rfl, rfl, rfl, rfl⟩
  refine State.takeGrantee_keeps (P := fun u => Unmoved s u ∧ u.Unended) (fun {u k} hu _ => ?_)
    ⟨hstart, h.congr rfl⟩ fun b _ => ⟨hstart.trans .rackEntry, State.Unended.rackEntry (h.congr rfl)⟩
  obtain ⟨hunmoved, hunended⟩ := hu
  exact ⟨hunmoved.trans (.judgeOne fun x y => hunended _ x y), hunended.judgeOne⟩

/-! ### Messages that leave a change (R141) -/

/-- A grant for an arm whose change does not wait, or the name of the grantee. -/
def State.Minor (s : State) : Message → Prop
  | .granted d => (s.change d).state ≠ .waitingRack
  | .grantee _ => True
  | _ => False

theorem State.Minor.congr (h : s.Minor m) (hseq : t.sequencer = s.sequencer) : t.Minor m := by
  cases m with
  | granted d =>
    have hchange : t.change d = s.change d := by rw [State.change, hseq, State.change]
    exact fun e => h ((congrArg Change.state hchange).symm.trans e)
  | grantee | lapsed | lockedOut | lidChanged | occupancyChanged | testStage => exact h

theorem State.settleN_minor (n : Nat) (hm : s.mail = l ++ rest) (hl : ∀ m ∈ l, s.Minor m) (h : l ≠ [] → s.Unended) :
    ∃ t, s.settleN (n + l.length) = t.settleN n ∧ Unmoved { s with mail := rest } t := by
  induction l generalizing s with
  | nil => exact ⟨s, rfl, rfl, rfl, hm, rfl, rfl, rfl⟩
  | cons m l ih =>
    have hend : s.Unended := h (List.cons_ne_nil m l)
    obtain ⟨t, ht, htaken, htended⟩ : ∃ t, t = State.takeMessage { s with mail := l ++ rest } m ∧
        Unmoved { s with mail := l ++ rest } t ∧ t.Unended := by
      have hminor : s.Minor m := hl m List.mem_cons_self
      refine ⟨_, rfl, ?_⟩
      cases m with
      | granted d =>
        have hstands : State.takeGrant { s with mail := l ++ rest } d = { s with mail := l ++ rest } := if_neg hminor
        rw [State.takeMessage, hstands]
        exact ⟨.refl _, hend.congr rfl⟩
      | grantee g => exact State.Unended.takeGrantee (s := { s with mail := l ++ rest }) (hend.congr rfl) g
      | lapsed | lockedOut | lidChanged | occupancyChanged | testStage => exact hminor.elim
    obtain ⟨u, hsettled, hu⟩ := ih (s := t) htaken.mail
      (fun k hk => (hl k (List.mem_cons_of_mem _ hk)).congr htaken.sequencer) fun _ => htended
    refine ⟨u, ?_, ?_⟩
    · rw [List.length_cons, ← Nat.add_assoc, State.settleN_cons _ hm]
      exact (congrArg (State.settleN _) ht.symm).trans hsettled
    · exact ⟨hu.sequencer.trans htaken.sequencer, hu.library.trans htaken.library, hu.mail,
        hu.pockets.trans htaken.pockets, hu.reports.trans htaken.reports, hu.lidTimeout.trans htaken.lidTimeout⟩

/-! ### The end of a change whose arm holds no grant -/

/-- Beside the arms' own records, and the rack's grant, the part keeps its pockets' dock boxes; the messages of a grant to
an arm other than `b` are all that is sent. -/
structure Aside (b : Arm) (s t : State) : Prop where
  dock : ∀ p : Fin 20, (t.pocket p).dock = (s.pocket p).dock
  sent : (t.mail = s.mail ∧ t.rack.arbiter = s.rack.arbiter ∧ ∀ d ∈ t.rack.queue, d ∈ s.rack.queue) ∨
    ∃ d, d ≠ b ∧ t.mail = s.mail ++ [.granted d, .grantee (some d)] ∧ t.rack.arbiter = .granted d false false false

theorem Aside.refl (b : Arm) (s : State) : Aside b s s := ⟨fun _ => rfl, .inl ⟨rfl, rfl, fun _ => id⟩⟩

/-- A step that sends nothing and leaves the arbiter. -/
theorem Aside.before (hdock : ∀ p : Fin 20, (t.pocket p).dock = (s.pocket p).dock) (hmail : t.mail = s.mail)
    (harb : t.rack.arbiter = s.rack.arbiter) (hqueue : ∀ d ∈ t.rack.queue, d ∈ s.rack.queue) (h : Aside b t u) :
    Aside b s u where
  dock p := (h.dock p).trans (hdock p)
  sent := by
    rcases h.sent with ⟨hm, ha, hq⟩ | ⟨d, hd, hm, ha⟩
    · exact .inl ⟨hm.trans hmail, ha.trans harb, fun d hd => hqueue d (hq d hd)⟩
    · exact .inr ⟨d, hd, by rw [hm, hmail], ha⟩

theorem Aside.after (h : Aside b s t) (hdock : ∀ p : Fin 20, (u.pocket p).dock = (t.pocket p).dock)
    (hmail : u.mail = t.mail) (harb : u.rack.arbiter = t.rack.arbiter) (hqueue : u.rack.queue = t.rack.queue) :
    Aside b s u where
  dock p := (hdock p).trans (h.dock p)
  sent := by
    rw [hmail, harb, hqueue]
    exact h.sent

theorem Aside.rackChangeEnded (hg : s.grantedTo b = false) : Aside b s (s.rackChangeEnded b) := by
  by_cases hq : b ∈ s.rack.queue
  · have hended : s.rackChangeEnded b = (s.setQueue (s.rack.queue.filter (· != b))).grantTest :=
      if_pos (by simpa using hq)
    rw [hended]
    obtain ⟨t, ht⟩ : ∃ t, t = s.setQueue (s.rack.queue.filter (· != b)) := ⟨_, rfl⟩
    have hqueue (d : Arm) (hd : d ∈ t.rack.queue) : d ∈ s.rack.queue ∧ d ≠ b := by
      rw [ht] at hd
      have hin : d ∈ s.rack.queue.filter (· != b) := hd
      exact ⟨List.mem_of_mem_filter hin, by simpa using (List.mem_filter.mp hin).2⟩
    have hdock (p : Fin 20) : (t.pocket p).dock = (s.pocket p).dock := by
      rw [ht]
      rfl
    have hmail : t.mail = s.mail ∧ t.rack.arbiter = s.rack.arbiter := by
      rw [ht]
      exact ⟨rfl, rfl⟩
    obtain ⟨hmail, harb⟩ := hmail
    rw [← ht]
    rcases t.grantTest_cases with ⟨e, -⟩ | ⟨d, rest, -, hhead, e⟩
    · rw [e]
      exact ⟨hdock, .inl ⟨hmail, harb, fun d hd => (hqueue d hd).1⟩⟩
    · refine ⟨fun p => ?_, .inr ⟨d, (hqueue d (hhead ▸ List.mem_cons_self)).2, ?_, ?_⟩⟩ <;> rw [e]
      · exact hdock p
      · rw [← hmail]
        simp [State.send, State.setArbiter, State.setQueue, State.setGrantTimer]
      · rfl
  · rw [State.rackChangeEnded_not_granted hg hq]
    exact .refl b s

theorem Aside.takeReport {k : PocketReport} (hg : s.grantedTo b = false) : Aside b s (s.takeReport b k) := by
  have htranquil : Tranquil s (s.takeReport b k) := .takeReport hg
  refine ⟨fun p => ?_, .inl ⟨htranquil.mail, htranquil.arbiter, fun d hd => htranquil.queue ▸ hd⟩⟩
  rw [State.takeReport_ungranted hg]
  cases (s.keeping b k).suppressionEnds (s.report b) with
  | none => rfl
  | some q => exact State.compareIfWatched_dock

theorem Aside.finishChange (hg : s.grantedTo b = false) : Aside b s (s.finishChange b r) := by
  obtain ⟨t, ht⟩ : ∃ t, t = s.setChange b { s.change b with
    state := .idle, timer := none, target := none, stowing := none, opened := [], faultResult := none } := ⟨_, rfl⟩
  obtain ⟨u, hu⟩ : ∃ u, u = t.setChange b { t.change b with current := none } := ⟨_, rfl⟩
  have hgranted : u.grantedTo b = false := by
    rw [hu, ht]
    exact hg
  have hreported : Aside b u (u.takeReport b .none) := .takeReport hgranted
  have htranquil : Tranquil u (u.takeReport b .none) := .takeReport hgranted
  have hended : Aside b u ((u.takeReport b .none).rackChangeEnded b) := by
    refine (Aside.rackChangeEnded ?_).before hreported.dock htranquil.mail htranquil.arbiter fun d hd => htranquil.queue ▸ hd
    rw [State.grantedTo, htranquil.arbiter]
    exact hgranted
  have hstart : Aside b s ((u.takeReport b .none).rackChangeEnded b) := by
    refine hended.before ?_ ?_ ?_ ?_ <;> rw [hu, ht]
    · exact fun _ => rfl
    · rfl
    · rfl
    · exact fun _ => id
  have hfinish : s.finishChange b r = (((u.takeReport b .none).rackChangeEnded b).setChange b
      { ((u.takeReport b .none).rackChangeEnded b).change b with last := some (r, (s.change b).double) }).raise
        (.change b) := by
    rw [hu, ht]
    rfl
  have hraised (v : State) : Tranquil v (v.raise (.change b)) := .raise _
  rw [hfinish]
  generalize (u.takeReport b .none).rackChangeEnded b = v at hstart
  refine hstart.after (fun p => ?_) ?_ ?_ ?_
  · exact State.raise_dock _
  · exact (hraised _).mail
  · exact (hraised _).arbiter
  · exact (hraised _).queue

theorem Aside.endChange (hg : s.grantedTo b = false) : Aside b s (s.endChange b r) := by
  have hfinish : Aside b s (s.finishChange b r) := .finishChange hg
  unfold State.endChange State.discardStaged
  dsimp only
  split
  · exact hfinish.after (fun _ => rfl) rfl rfl rfl
  · exact hfinish

/-- The news of a pocket to an arm that is idle or waits without the grant (R151). -/
theorem Aside.occupancyNews (hw : (s.change b).state = .idle ∨
    (s.change b).state = .waitingRack ∧ s.grantedTo b = false) : Aside b s (s.occupancyNews b p) := by
  rcases hw with hidle | ⟨hwait, hg⟩
  · rw [State.occupancyNews_idle hidle]
    exact .refl b s
  · have hfault : s.pocketFault b = s.endChange b .pocketChanged := if_pos hwait
    simp only [State.occupancyNews, hwait, hfault]
    split
    · exact .endChange hg
    · exact .refl b s

/-- The messages sent are a grant to the arm itself, and its name. -/
theorem Aside.messages (h : Aside a.other s t) : ∃ l, t.mail = s.mail ++ l ∧ l.length ≤ 2 ∧ (l ≠ [] → t.Unended) ∧
    ∀ m ∈ l, m = .granted a ∨ m = .grantee (some a) := by
  rcases h.sent with ⟨hm, -, -⟩ | ⟨d, hd, hm, harb⟩
  · exact ⟨[], by rw [hm, List.append_nil], Nat.zero_le 2, fun hne => absurd rfl hne, fun _ hin => absurd hin List.not_mem_nil⟩
  · obtain rfl : d = a := (Side.eq_other hd).trans (Side.other_other a)
    refine ⟨_, hm, Nat.le_refl 2, fun _ b x y => ?_, fun m hin => ?_⟩
    · rw [harb]
      exact nofun
    · simpa using hin

end

end Sys2Proof.Machine
end

section
/-! SUPPORT. A pocket that changes before its transfer faults a change after the grant, whatever the other arm's change
makes of it (spec 08, R151, R154). -/

namespace Sys2Proof.Machine

/-- What a fault of the arm's change leaves, with the message that tests its wait among messages that pass it by. -/
structure Struck (a : Arm) (c : Change) (h : Head) (k : PocketReport) (l : List Message) (s t : State) : Prop where
  mail : t.mail = []
  change : t.change a = c
  head : t.head a = h
  report : t.report a = k
  dock : ∀ p : Fin 20, (t.pocket p).dock = (s.pocket p).dock
  minor : ∀ m ∈ l, t.Minor m
  unended : l ≠ [] → t.Unended
  length : l.length ≤ 2

section
variable {s t u z : State} {a b : Arm} {p p₀ p' : Fin 20} {r : ChangeResult} {c : Change} {h : Head} {k : PocketReport}
  {l : List Message}

theorem State.outDock_of_dock (hchange : (t.change a).lastReference = (s.change a).lastReference)
    (hdock : (t.pocket p').dock = (s.pocket p').dock) : t.outDock a p' = s.outDock a p' := by
  have hbox : t.dockBox a p' = s.dockBox a p' := congrArg (fun d : Two (Option Box) => d.get a) hdock
  unfold State.outDock
  rw [hchange, hbox]

/-- The messages about the rack's grant pass the change by. -/
theorem Struck.settleN_minor {rest : List Message} (hz : Struck a c h k l s z) (n : Nat) :
    ∃ t : State, (State.settleN (n + l.length) { z with mail := l ++ rest }) = t.settleN n ∧ t.mail = rest ∧
      Struck a c h k [] s { t with mail := [] } := by
  obtain ⟨t, hsettled, ht⟩ := State.settleN_minor (s := { z with mail := l ++ rest }) (l := l) (rest := rest) n rfl
    (fun m hm => (hz.minor m hm).congr rfl) fun hne => (hz.unended hne).congr rfl
  have hchange : t.change a = z.change a := congrArg (fun q : Sequencer => q.change.get a) ht.sequencer
  have hhead : t.head a = z.head a := congrArg (fun q : Sequencer => q.head.get a) ht.sequencer
  have hreport : t.report a = z.report a := congrArg (fun q : Two PocketReport => q.get a) ht.reports
  refine ⟨t, hsettled, ht.mail, ?_⟩
  exact
    { mail := rfl
      change := hchange.trans hz.change
      head := hhead.trans hz.head
      report := hreport.trans hz.report
      dock := fun p => (congrArg Pocket.dock (State.pocket_congr ht.pockets)).trans (hz.dock p)
      minor := fun _ hm => absurd hm List.not_mem_nil
      unended := fun hne => absurd rfl hne
      length := Nat.zero_le 2 }

/-- A wait that the test finds as it is, before or after those messages. -/
theorem Struck.settle_waits (hz : Struck a c h k l s z)
    (hstands : ∀ {t : State}, t.change a = c → (∀ p : Fin 20, (t.pocket p).dock = (s.pocket p).dock) → t.advance a = t)
    (ht : t = { z with mail := l ++ [.testStage a] } ∨ t = { z with mail := .testStage a :: l }) (n : Nat) :
    Struck a c h k [] s (t.settleN (n + 3)) := by
  obtain ⟨e, he⟩ := Nat.exists_eq_add_of_le hz.length
  have hn : n + 3 = (n + 1 + e) + l.length := by omega
  rcases ht with rfl | rfl
  · obtain ⟨y, hsettled, hmail, hy⟩ := hz.settleN_minor (rest := [.testStage a]) (n + 1 + e)
    have hadvance : State.advance { y with mail := [] } a = { y with mail := [] } := hstands hy.change hy.dock
    rw [hn, hsettled, show n + 1 + e = (n + e) + 1 by omega, State.settleN_cons _ hmail, State.takeMessage, hadvance,
      State.settleN_of_quiet { y with mail := [] } (n + e) rfl]
    exact hy
  · have hadvance : State.advance { z with mail := l } a = { z with mail := l } := hstands hz.change hz.dock
    obtain ⟨y, hsettled, hmail, hy⟩ := hz.settleN_minor (rest := []) (n + e)
    rw [List.append_nil] at hsettled
    have hback : ({ y with mail := [] } : State) = y := congrArg (fun m => { y with mail := m }) hmail.symm
    rw [show n + 3 = (n + 2) + 1 by omega, State.settleN_cons (n + 2) rfl, State.takeMessage]
    refine Eq.mpr (congrArg (fun x : State => Struck a c h k [] s (State.settleN (n + 2) x)) hadvance) ?_
    rw [show n + 2 = (n + e) + l.length by omega, hsettled, State.settleN_of_quiet _ _ hmail, ← hback]
    exact hy

/-- The change of the arm is rewritten, and keeps not waiting for the rack. -/
theorem Struck.setChange {d : Change} (hz : Struck a c h k l s z) (hd : d.state ≠ .waitingRack) :
    Struck a d h k l s (z.setChange a d) where
  mail := hz.mail
  change := State.change_setChange_same
  head := hz.head
  report := hz.report
  dock := hz.dock
  minor m hm := by
    have hminor := hz.minor m hm
    cases m with
    | granted b =>
      rw [State.Minor, State.change_setChange]
      split
      · exact hd
      · exact hminor
    | grantee | lapsed | lockedOut | lidChanged | occupancyChanged | testStage => exact hminor
  unended hne := (hz.unended hne).congr rfl
  length := hz.length

/-- Step 1 is done at once, and the head is read, before or after those messages. -/
theorem Struck.settle_identifies (hz : Struck a c h k l s z) (hst : c.state = .reconciling) (hw : c.wait = .departure)
    (hopen : c.opened = []) (hp : h.modulePresent = true)
    (ht : t = { z with mail := l ++ [.testStage a] } ∨ t = { z with mail := .testStage a :: l }) (n : Nat) :
    (t.settleN (n + 4)).change a = { c with timer := none, wait := .identity } ∧ (t.settleN (n + 4)).head a = h.read ∧
      (t.settleN (n + 4)).report a = k := by
  obtain ⟨e, he⟩ := Nat.exists_eq_add_of_le hz.length
  rcases ht with rfl | rfl
  · obtain ⟨y, hsettled, hmail, hy⟩ := hz.settleN_minor (rest := [.testStage a]) (n + e + 2)
    have hback : State.send { y with mail := [] } (.testStage a) = y :=
      congrArg (fun m => { y with mail := m }) hmail.symm
    have hread := State.settle_identifies (s := { y with mail := [] }) (a := a) rfl (by rw [hy.change]; exact hst)
      (by rw [hy.change]; exact hw) (by rw [hy.change]; exact hopen) (by rw [hy.head]; exact hp) (n + e)
    rw [hback, hy.change, hy.head] at hread
    rw [show n + 4 = (n + e + 2) + l.length by omega, hsettled, hread]
    exact ⟨State.change_setChange_same (s := { y with mail := [] }), Two.get_set_same .., hy.report⟩
  · have hfirst : State.advance { z with mail := l } a =
        { z.setChange a { c with timer := none, wait := .lids } with mail := l ++ [.testStage a] } := by
      have hdeparts := State.advance_departs_empty (s := { z with mail := l }) (a := a) (by rw [← hz.change] at hst; exact hst)
        (by rw [← hz.change] at hw; exact hw) (by rw [← hz.change] at hopen; exact hopen)
      rw [← hz.change]
      exact hdeparts
    have hlids : Struck a { c with timer := none, wait := .lids } h k l s
        (z.setChange a { c with timer := none, wait := .lids }) := hz.setChange (by simp [hst])
    obtain ⟨y, hsettled, hmail, hy⟩ := hlids.settleN_minor (rest := [.testStage a]) (n + e + 1)
    have hread := State.advance_identifies (s := { y with mail := [] }) (a := a) (by rw [hy.change]; exact hst)
      (by rw [hy.change]) (by rw [hy.change]; exact hopen) (by rw [hy.head]; exact hp)
    rw [State.settleN_cons (n + 3) rfl, State.takeMessage]
    have hsettle : State.settleN (n + 3) (State.advance { z with mail := l } a) =
        (State.setChange { y with mail := [] } a { c with timer := none, wait := .identity }).setHead a h.read := by
      rw [hfirst, show n + 3 = (n + e + 1) + l.length by omega, hsettled, State.settleN_cons _ hmail, State.takeMessage,
        hread, hy.change, hy.head]
      exact State.settleN_of_quiet _ _ rfl
    refine Eq.mpr (congrArg (fun x : State => x.change a = _ ∧ x.head a = _ ∧ x.report a = _) hsettle) ?_
    exact ⟨State.change_setChange_same (s := { y with mail := [] }), Two.get_set_same .., hy.report⟩

/-! ### The pocket's news (R151) -/

/-- No message sets the approach timeout. -/
theorem ApproachTimeout.messageInvariant (n : Nat) : MessageInvariant fun s => s.sequencer.approachTimeout = n where
  frame h := h
  setChange _ h := h
  raise {s src} h := by
    rw [State.raise_sequencer]
    exact h
  disarm h := h
  takeGrantee {s g} h := by
    rw [State.takeGrantee_sequencer]
    exact h

/-- A change in reconciliation does not act on the messages about a grant to its arm. -/
theorem State.Minor.of_grant {m : Message} (hst : (z.change a).state = .reconciling)
    (hm : m = .granted a ∨ m = .grantee (some a)) : z.Minor m := by
  rcases hm with rfl | rfl
  · exact fun hw => by rw [hst] at hw; cases hw
  · trivial

/-- The change of the arm is faulted where it stands; the rest is as it was. -/
theorem Struck.of_faulted (hs : Apart a s t) (hdock : ∀ p : Fin 20, (t.pocket p).dock = (s.pocket p).dock)
    (hn : t.sequencer.approachTimeout = s.sequencer.approachTimeout) (hlength : l.length ≤ 2)
    (hended : l ≠ [] → t.Unended) (hminor : ∀ m ∈ l, m = .granted a ∨ m = .grantee (some a)) :
    Struck a ((s.change a).faulted r s.sequencer.approachTimeout) { s.head a with attempt := none }
      { pocket := some p₀, suppressed := true, stow := (s.report a).stow } l s
      { t.faulted a p₀ r with mail := [] } where
  mail := rfl
  change := by
    rw [← hs.change, ← hn]
    exact State.faulted_change (s := t) (p := p₀)
  head := by
    rw [← hs.head]
    exact Two.get_set_same ..
  report := by
    rw [← hs.report]
    exact Two.get_set_same ..
  dock := hdock
  minor m hin := State.Minor.of_grant (congrArg Change.state (State.faulted_change (s := t) (p := p₀) (r := r))) (hminor m hin)
  unended hne := (hended hne).congr rfl
  length := hlength

/-- The fault of the arm's change, told before or after the other arm's. -/
theorem State.tellBoth_strikes (hm : s.mail = []) (hother : (s.change a.other).state = .idle ∨
      (s.change a.other).state = .waitingRack ∧ s.grantedTo a.other = false)
    (hcurrent : (s.change a).current = some p₀) (hreport : (s.report a).pocket = some p₀)
    (hnews : ∀ t : State, t.housing = s.housing → Apart a s t → t.occupancyNews a p = t.faultChange a .pocketChanged) :
    ∃ (z : State) (l : List Message),
      ((s.tellBoth fun t b => t.occupancyNews b p) = { z with mail := l ++ [.testStage a] } ∨
        (s.tellBoth fun t b => t.occupancyNews b p) = { z with mail := .testStage a :: l }) ∧
      Struck a ((s.change a).faulted .pocketChanged s.sequencer.approachTimeout) { s.head a with attempt := none }
        { pocket := some p₀, suppressed := true, stow := (s.report a).stow } l s z := by
  have hne : a.other ≠ a := Side.other_ne a
  rcases State.tellBoth_order (s := s) (fun t b => t.occupancyNews b p) a with e | e <;> rw [e]
  · obtain ⟨x, hx⟩ : ∃ x, x = s.faulted a p₀ .pocketChanged := ⟨_, rfl⟩
    have hfirst : s.occupancyNews a p = x.send (.testStage a) := by
      rw [hx]
      exact (hnews s rfl (.refl a s)).trans (State.faultChange_eq hcurrent hreport)
    have hstruck : Struck a ((s.change a).faulted .pocketChanged s.sequencer.approachTimeout)
        { s.head a with attempt := none } { pocket := some p₀, suppressed := true, stow := (s.report a).stow } [] s
        { x with mail := [] } := by
      rw [hx]
      exact .of_faulted (.refl a s) (fun _ => rfl) rfl (Nat.zero_le 2) (fun h => absurd rfl h)
        fun _ h => absurd h List.not_mem_nil
    have hxmail : (x.send (.testStage a)).mail = [.testStage a] := by
      rw [hx]
      exact congrArg (· ++ [Message.testStage a]) hm
    have hxwaits : ((x.send (.testStage a)).change a.other).state = .idle ∨
        ((x.send (.testStage a)).change a.other).state = .waitingRack ∧
          (x.send (.testStage a)).grantedTo a.other = false := by
      have hxother : (x.send (.testStage a)).change a.other = s.change a.other := by
        rw [hx]
        exact Two.get_set_other ..
      rw [hxother, hx]
      exact hother
    have hapart : Apart a (x.send (.testStage a)) ((x.send (.testStage a)).occupancyNews a.other p) :=
      .occupancyNews hne (.refl a _)
    have haside : Aside a.other (x.send (.testStage a)) ((x.send (.testStage a)).occupancyNews a.other p) :=
      .occupancyNews hxwaits
    rw [hfirst]
    generalize (x.send (.testStage a)).occupancyNews a.other p = y at hapart haside
    obtain ⟨l, hmail, hlength, hended, hminor⟩ := haside.messages
    have hchange : (State.change { y with mail := [] } a) = _ := hapart.change.trans hstruck.change
    refine ⟨{ y with mail := [] }, l, .inr ?_, ?_⟩
    · rw [hxmail] at hmail
      exact congrArg (fun m => { y with mail := m }) hmail
    · exact
        { mail := rfl
          change := hchange
          head := hapart.head.trans hstruck.head
          report := hapart.report.trans hstruck.report
          dock := fun q => (haside.dock q).trans (hstruck.dock q)
          minor := fun m hin => State.Minor.of_grant (by rw [hchange]; rfl) (hminor m hin)
          unended := fun h => (hended h).congr rfl
          length := hlength }
  · have hapart : Apart a s (s.occupancyNews a.other p) := .occupancyNews hne (.refl a s)
    have haside : Aside a.other s (s.occupancyNews a.other p) := .occupancyNews hother
    have htimeout : (s.occupancyNews a.other p).sequencer.approachTimeout = s.sequencer.approachTimeout :=
      (ApproachTimeout.messageInvariant s.sequencer.approachTimeout).occupancyNews rfl
    have hfault := hnews _ State.occupancyNews_housing hapart
    rw [hfault]
    generalize s.occupancyNews a.other p = y at hapart haside htimeout
    obtain ⟨l, hmail, hlength, hended, hminor⟩ := haside.messages
    rw [hm, List.nil_append] at hmail
    refine ⟨_, l, .inl ?_, .of_faulted hapart haside.dock htimeout hlength hended hminor⟩
    rw [State.faultChange_eq (by rw [hapart.change]; exact hcurrent) (by rw [hapart.report]; exact hreport)]
    exact congrArg (fun m => { y.faulted a p₀ .pocketChanged with mail := m ++ [Message.testStage a] }) hmail

theorem State.occupancyNews_faults (hpocket : ((s.change a).state = .stowApproach ∨ (s.change a).state = .stowOpen) ∧
      (s.pocket p).occupied = true ∧ s.stowPocket a = some p ∨
      ((s.change a).state = .fetchApproach ∨ (s.change a).state = .fetchOpen) ∧
      (s.pocket p).occupied = false ∧ s.targetPocket a = some p) :
    s.occupancyNews a p = s.faultChange a .pocketChanged := by
  have hfault (h : (s.change a).state ≠ .waitingRack) : s.pocketFault a = s.faultChange a .pocketChanged := if_neg h
  rcases hpocket with ⟨hst | hst, ho, hp⟩ | ⟨hst | hst, ho, hp⟩ <;>
    simp [State.occupancyNews, hst, ho, hp, hfault]

/-- The observed occupancy changes at the pocket the change is to use, before its transfer. -/
theorem State.settle_pocketChanged {i : Fin 64} {v : Tip} (hm : s.mail = [])
    (hother : (s.change a.other).state = .idle ∨ (s.change a.other).state = .waitingRack ∧ s.grantedTo a.other = false)
    (hv : s.library.tips[i] = .active v) (hhome : v.home = p) (hcurrent : (s.change a).current = some p₀)
    (hreport : (s.report a).pocket = some p₀)
    (hchanged : ((s.change a).state = .stowApproach ∨ (s.change a).state = .stowOpen) ∧ (s.change a).stowing = some i ∧
        (s.pocket p).occupied = false ∧ (s.pocket p).occupancyInput = true ∨
      ((s.change a).state = .fetchApproach ∨ (s.change a).state = .fetchOpen) ∧ (s.change a).target = some i ∧
        (s.pocket p).occupied = true ∧ (s.pocket p).occupancyInput = false) :
    ∃ (z : State) (l : List Message) (told : State), (s.occupancyChange p).settle = told.settleN 255 ∧
      (told = { z with mail := l ++ [.testStage a] } ∨ told = { z with mail := .testStage a :: l }) ∧
      Struck a ((s.change a).faulted .pocketChanged s.sequencer.approachTimeout) { s.head a with attempt := none }
        { pocket := some p₀, suppressed := true, stow := (s.report a).stow } l s z := by
  subst hhome
  obtain ⟨t, ht⟩ : ∃ t, t = s.setPocket v.home { s.pocket v.home with occupied := (s.pocket v.home).occupancyInput } :=
    ⟨_, rfl⟩
  have hne : (s.pocket v.home).occupancyInput ≠ (s.pocket v.home).occupied := by
    rcases hchanged with ⟨-, -, h1, h2⟩ | ⟨-, -, h1, h2⟩ <;> simp [h1, h2]
  have hsends : s.occupancyChange v.home = (t.compareIfWatched v.home).send (.occupancyChanged v.home) := by
    rw [ht]
    exact if_neg hne
  obtain ⟨w, hw⟩ : ∃ w, w = t.compareIfWatched v.home := ⟨_, rfl⟩
  have hhousing : w.housing = t.housing := hw ▸ State.compareIfWatched_housing
  have hdock (q : Fin 20) : (w.pocket q).dock = (s.pocket q).dock := by
    rw [hw, State.compareIfWatched_dock, ht]
    refine State.setPocket_dock ?_
    rfl
  obtain ⟨hsequencer, hreports, harb, hmail⟩ : w.sequencer = s.sequencer ∧ w.rack.reports = s.rack.reports ∧
      w.rack.arbiter = s.rack.arbiter ∧ w.mail = [] := by
    have hracking : w.racking = t.racking := hw ▸ State.compareIfWatched_racking
    obtain ⟨b, r, k, hframe⟩ := t.compareIfWatched_frame (p := v.home)
    rw [← hw] at hframe
    refine ⟨?_, ?_, ?_, ?_⟩
    · rw [hframe, ht]
      rfl
    · refine (congrArg Racking.reports hracking :).trans ?_
      rw [ht]
      rfl
    · refine (congrArg Racking.arbiter hracking :).trans ?_
      rw [ht]
      rfl
    · rw [hframe, ht]
      exact hm
  have hchange (b : Arm) : w.change b = s.change b := by rw [State.change, hsequencer]; rfl
  have hhead : w.head a = s.head a := by rw [State.head, hsequencer]; rfl
  have hreport' : w.report a = s.report a := by rw [State.report, hreports]; rfl
  have hgranted : w.grantedTo a.other = s.grantedTo a.other := by rw [State.grantedTo, harb]; rfl
  have hmails : (w.send (.occupancyChanged v.home)).mail = .occupancyChanged v.home :: [] := congrArg (· ++ _) hmail
  have hback : ({ w.send (.occupancyChanged v.home) with mail := [] } : State) = w :=
    congrArg (fun m => { w with mail := m }) hmail.symm
  obtain ⟨z, l, htold, hz⟩ := State.tellBoth_strikes (s := w) (a := a) (p := v.home) (p₀ := p₀) hmail
    (by rw [hchange, hgranted]; exact hother) (by rw [hchange]; exact hcurrent) (by rw [hreport']; exact hreport)
    fun u hu hapart => by
      have hsame : u.change a = s.change a := hapart.change.trans (hchange a)
      have hhome (tip : Option (Fin 64)) : u.homeOf tip = s.homeOf tip := by
        rw [State.housing_homeOf (hu.trans hhousing), ht]
        rfl
      have hoccupied : (u.pocket v.home).occupied = (s.pocket v.home).occupancyInput := by
        rw [State.housing_occupied (hu.trans hhousing), ht]
        simp
      refine State.occupancyNews_faults ?_
      rw [hoccupied, State.stowPocket, State.targetPocket, hsame, hhome, hhome]
      refine hchanged.imp (fun ⟨hst, hstow, _, hin⟩ => ⟨hst, hin, ?_⟩) fun ⟨hst, htarget, _, hin⟩ => ⟨hst, hin, ?_⟩
      · rw [hstow, State.homeOf_active hv]
      · rw [htarget, State.homeOf_active hv]
  refine ⟨z, l, _, ?_, htold, ?_⟩
  · rw [hsends, ← hw, State.settle, settleBound, State.settleN_cons 255 hmails, hback]
    rfl
  · rw [hchange, hhead, hreport', hsequencer] at hz
    exact { hz with dock := fun q => (hz.dock q).trans (hdock q) }

end

end Sys2Proof.Machine
end

section
/-! SUPPORT. The end of reconciliation: the tip in transit is resolved, and nothing that follows moves it or starts a change
(spec 01, R18; spec 08, R152, R157). -/

namespace Sys2Proof.Machine

section
variable {s t : State} {a b : Arm} {p : Fin 20} {i j : Fin 64} {v w : Tip} {r : ChangeResult} {tip : Option (Fin 64)}

/-! ### What leaves the homes and the occupancies -/

theorem State.loseMounted_housing {keep : Option (Fin 64)} : (s.loseMounted a keep).housing = s.housing := by
  obtain ⟨b, k, hframe⟩ := s.loseMounted_frame (a := a) keep
  refine State.housing_ext (fun i => ?_) fun p => ?_
  · rw [State.homeOf_eq, State.loseMounted_tip, State.homeOf_eq]
    split
    · cases s.library.tips[i] <;> rfl
    · rfl
  · rw [hframe]
    rfl

theorem State.transitResolved_housing {occupied : Bool} : (s.transitResolved a i occupied).state.housing = s.housing := by
  unfold State.transitResolved
  split
  · next hv =>
    split
    · exact State.moveTip_housing hv rfl _
    · rfl
  · rfl

theorem State.resolveTransit_housing : (s.resolveTransit a tip).housing = s.housing := by
  unfold State.resolveTransit
  split
  · exact State.transitResolved_housing
  · rfl

/-! ### A record that agrees with its home (R18, R20) -/

/-- The slot holds the record, and the record is not where its home pocket is seen otherwise. -/
structure Placed (i : Fin 64) (v : Tip) (s : State) : Prop where
  slot : s.library.tips[i] = .active v
  inPocket : v.location = .inPocket → (s.pocket v.home).occupied = true
  missing : v.location = .missing → (s.pocket v.home).occupied = false

theorem Placed.congr (h : Placed i v s) (hslot : t.library.tips[i] = s.library.tips[i]) (hhousing : t.housing = s.housing) :
    Placed i v t where
  slot := hslot.trans h.slot
  inPocket hl := (State.housing_occupied hhousing).trans (h.inPocket hl)
  missing hl := (State.housing_occupied hhousing).trans (h.missing hl)

theorem Placed.found (h : Placed i v s) (hw : s.activeTip i = some w) : w = v :=
  TipSlot.active.inj (((s.activeTip_eq_some_iff i w).mp hw).symm.trans h.slot)

theorem State.tipWithHome_home (hi : s.tipWithHome p = some i) (hv : s.activeTip i = some v) : v.home = p := by
  obtain ⟨w, hw, -, hhome⟩ := State.tipWithHome_some hi
  rw [Option.some.inj (hv.symm.trans hw)]
  exact hhome

/-- A comparison moves no record that agrees with its home. -/
theorem Placed.compareIfWatched (h : Placed i v s) : Placed i v (s.compareIfWatched p) := by
  refine h.congr ?_ State.compareIfWatched_housing
  have hraise (u : State) (src : AttnSource) : (u.raise src).library.tips[i] = u.library.tips[i] :=
    congrArg (fun l : Library => l.tips[i]) (u.raise_library src)
  have hempty (ho : (s.pocket p).occupied = false) :
      (s.libraryHomeEmpty p).state.library.tips[i] = s.library.tips[i] := by
    unfold State.libraryHomeEmpty
    split
    · rfl
    · next j hj =>
      split
      · next u hu =>
        split
        · next hl =>
          rw [State.moveTip_tip]
          refine if_neg fun hji => ?_
          subst hji
          obtain rfl : u = v := h.found hu
          have hin := h.inPocket hl
          rw [State.tipWithHome_home hj hu, ho] at hin
          cases hin
        · rfl
      · rfl
  have hfull (ho : (s.pocket p).occupied = true) :
      (s.libraryHomeOccupied p).state.library.tips[i] = s.library.tips[i] := by
    unfold State.libraryHomeOccupied
    split
    · rfl
    · next j hj =>
      split
      · next u hu =>
        split
        · next hl =>
          refine (hraise _ _).trans ?_
          rw [State.moveTip_tip]
          refine if_neg fun hji => ?_
          subst hji
          obtain rfl : u = v := h.found hu
          have hin := h.missing hl
          rw [State.tipWithHome_home hj hu, ho] at hin
          cases hin
        · rfl
      · rfl
  unfold State.compareIfWatched State.compare
  split
  · rfl
  · split
    · next ho _ =>
      simp only [State.seenEmpty]
      split
      · exact (hraise _ _).trans (hempty ho)
      · exact hempty ho
    · next ho _ =>
      simp only [State.seenOccupied]
      split
      · exact hfull ho
      · exact (hraise _ _).trans (hfull ho)
    · rfl

theorem Placed.setChange {c : Change} (h : Placed i v s) : Placed i v (s.setChange b c) :=
  h.congr rfl (State.housing_congr rfl rfl)

theorem Placed.raise {src : AttnSource} (h : Placed i v s) : Placed i v (s.raise src) :=
  h.congr (congrArg (fun l : Library => l.tips[i]) (s.raise_library src)) (State.raise_housing src)

theorem Placed.takeReport {k : PocketReport} (h : Placed i v s) : Placed i v (s.takeReport b k) := by
  have hkept : Placed i v (s.keeping b k) := h.congr rfl (State.housing_congr rfl rfl)
  have helim : Placed i v (((s.keeping b k).suppressionEnds (s.report b)).elim (s.keeping b k)
      (s.keeping b k).compareIfWatched) := by
    cases (s.keeping b k).suppressionEnds (s.report b) with
    | none => exact hkept
    | some p => exact hkept.compareIfWatched
  rw [State.takeReport_eq rfl]
  split
  · exact helim.congr (congrArg (fun l : Library => l.tips[i]) State.reexamine_library) State.reexamine_housing
  · exact helim

theorem Placed.rackChangeEnded (h : Placed i v s) : Placed i v (s.rackChangeEnded b) := by
  have hframe : RackOnly s (s.rackChangeEnded b) := .rackChangeEnded (.refl s)
  exact h.congr (congrArg (fun u : State => u.library.tips[i]) hframe :) State.rackChangeEnded_housing

theorem Placed.endChange (h : Placed i v s) : Placed i v (s.endChange b r) := by
  have hfinish : Placed i v (s.finishChange b r) :=
    .raise (.setChange (.rackChangeEnded (.takeReport (.setChange (.setChange h)))))
  unfold State.endChange State.discardStaged
  dsimp only
  split
  · exact hfinish.setChange
  · exact hfinish

/-! ### Transit resolved (R18, R157) -/

/-- A record that is not in transit on the arm is not resolved. -/
theorem Placed.resolveTransit (h : Placed i v s) (hl : v.location ≠ .inTransit b) : Placed i v (s.resolveTransit b tip) := by
  refine h.congr ?_ State.resolveTransit_housing
  unfold State.resolveTransit
  split
  · next j p =>
    unfold State.transitResolved
    split
    · next u hu =>
      split
      · next hin =>
        rw [State.moveTip_tip]
        refine if_neg fun hji => ?_
        subst hji
        exact hl (h.found hu ▸ hin)
      · rfl
    · rfl
  · rfl

/-- The record of the change that is in transit on the arm: in its home pocket, or MISSING. -/
def Tip.resolved (v : Tip) (occupied : Bool) : Tip := { v with location := if occupied then .inPocket else .missing }

theorem Tip.resolved_location {o : Bool} : (v.resolved o).location ≠ .inTransit b := by
  cases o <;> exact nofun

theorem State.resolveTransit_resolves (hv : s.library.tips[i] = .active v) (hl : v.location = .inTransit a) :
    Placed i (v.resolved (s.pocket v.home).occupied) (s.resolveTransit a (some i)) ∧
      ((s.pocket v.home).occupied = false → (s.resolveTransit a (some i)).attention.sources[10].flag = true) := by
  have hactive : s.activeTip i = some v := (s.activeTip_eq_some_iff i v).mpr hv
  have hresolves : s.resolveTransit a (some i) =
      s.moveTip i v (if (s.pocket v.home).occupied then .inPocket else .missing) := by
    simp only [State.resolveTransit, State.homeOf_active hv, State.transitResolved, hactive, if_pos hl]
  have hhousing : (s.resolveTransit a (some i)).housing = s.housing := State.resolveTransit_housing
  have hoccupied : ((s.resolveTransit a (some i)).pocket v.home).occupied = (s.pocket v.home).occupied :=
    State.housing_occupied hhousing
  refine ⟨⟨?_, fun hin => ?_, fun hin => ?_⟩, fun ho => ?_⟩
  · rw [hresolves, State.moveTip_tip, if_pos rfl]
    rfl
  · refine hoccupied.trans ?_
    cases ho : (s.pocket v.home).occupied with
    | true => rfl
    | false => simp [Tip.resolved, ho] at hin
  · refine hoccupied.trans ?_
    cases ho : (s.pocket v.home).occupied with
    | true => simp [Tip.resolved, ho] at hin
    | false => rfl
  · rw [hresolves, ho]
    exact State.moveTip_missing v

theorem State.resolveTransit_slot_ne (h : tip ≠ some i) :
    (s.resolveTransit b tip).library.tips[i] = s.library.tips[i] := by
  unfold State.resolveTransit
  split
  · next j p =>
    unfold State.transitResolved
    split
    · split
      · rw [State.moveTip_tip]
        exact if_neg fun hji => h (congrArg some hji)
      · rfl
    · rfl
  · rfl

/-- The two tips of the change resolved: the one in transit on the arm is where its home pocket says. -/
theorem State.resolveTransits_resolve {first second : Option (Fin 64)} (hv : s.library.tips[i] = .active v)
    (hl : v.location = .inTransit a) (htip : first = some i ∨ second = some i) :
    Placed i (v.resolved (s.pocket v.home).occupied) ((s.resolveTransit a first).resolveTransit a second) ∧
      ((s.pocket v.home).occupied = false →
        ((s.resolveTransit a first).resolveTransit a second).attention.sources[10].flag = true) := by
  by_cases hfirst : first = some i
  · subst hfirst
    obtain ⟨hplaced, hflag⟩ := State.resolveTransit_resolves hv hl
    exact ⟨hplaced.resolveTransit Tip.resolved_location, fun ho => (Flagged.messageInvariant 10).resolveTransit (hflag ho)⟩
  · obtain rfl : second = some i := htip.resolve_left hfirst
    have hhousing : (s.resolveTransit a first).housing = s.housing := State.resolveTransit_housing
    have hoccupied : ((s.resolveTransit a first).pocket v.home).occupied = (s.pocket v.home).occupied :=
      State.housing_occupied hhousing
    have hslot : (s.resolveTransit a first).library.tips[i] = .active v := (State.resolveTransit_slot_ne hfirst).trans hv
    rw [← hoccupied]
    exact State.resolveTransit_resolves hslot hl

/-! ### The end of the change (R152, R157) -/

theorem State.resolveTransit_sequencer : (s.resolveTransit b tip).sequencer = s.sequencer := by
  unfold State.resolveTransit
  split
  · unfold State.transitResolved
    split
    · split
      · exact State.moveTip_sequencer ..
      · rfl
    · rfl
  · rfl

theorem State.endChange_flag (hp : s.present a = true) :
    (s.endChange a r).attention.sources[sourceIndex (.change a)].flag = true := by
  have hfinish : (s.finishChange a r).attention.sources[sourceIndex (.change a)].flag = true := by
    obtain ⟨t, hground, hfinish⟩ : ∃ t : State, t.ground = s.ground ∧ s.finishChange a r = t.raise (.change a) :=
      ⟨_, by simp, rfl⟩
    rw [hfinish]
    exact State.raise_flag _ (.change a) ((State.present_congr (congrArg Ground.oneArm hground)).trans hp)
  unfold State.endChange State.discardStaged
  dsimp only
  split
  · exact hfinish
  · exact hfinish

/-- The change of the arm has ended with the result, and is seen to have. -/
structure Ended (a : Arm) (c : Change) (h : Head) (s : State) : Prop where
  change : s.change a = c
  head : s.head a = h
  report : s.report a = .none
  flag : s.attention.sources[sourceIndex (.change a)].flag = true

/-- The end of reconciliation, with a tip that agrees with its home when the tips in transit are resolved. -/
theorem State.resolveAndEnd_ends (hp : s.present a = true)
    (h : Placed i v ((s.resolveTransit a (s.change a).stowing).resolveTransit a (s.change a).target)) :
    Ended a ((s.change a).ended ((s.change a).faultResult.getD .aborted)) (s.head a) (s.resolveAndEnd a) ∧
      Placed i v (s.resolveAndEnd a) ∧ (∀ b : Arm, b ≠ a → (s.resolveAndEnd a).change b = s.change b) := by
  obtain ⟨t, ht⟩ : ∃ t, t = (s.resolveTransit a (s.change a).stowing).resolveTransit a (s.change a).target := ⟨_, rfl⟩
  obtain ⟨u, hu⟩ : ∃ u, u = t.sendReport a none false false := ⟨_, rfl⟩
  have hends : s.resolveAndEnd a = u.endChange a ((s.change a).faultResult.getD .aborted) := by rw [hu, ht]; rfl
  have hseq : t.sequencer = s.sequencer := by rw [ht, State.resolveTransit_sequencer, State.resolveTransit_sequencer]
  have husequencer : u.sequencer = (t.setChange a { t.change a with current := none }).sequencer :=
    hu ▸ State.takeReport_sequencer
  have hchange : u.change a = { s.change a with current := none } := by
    rw [State.change, husequencer]
    refine (State.change_setChange_same (s := t)).trans ?_
    rw [State.change, hseq]
    rfl
  have hhead : u.head a = s.head a := by
    rw [State.head, husequencer]
    exact (congrArg (fun q : Sequencer => q.head.get a) hseq :)
  have hground : u.ground = s.ground := by
    rw [hu, ht]
    simp
  obtain ⟨hended, hreport, -, hkept⟩ :=
    State.endChange_own (s := u) (a := a) (result := (s.change a).faultResult.getD .aborted)
  rw [hends]
  refine ⟨⟨?_, hkept.trans hhead, hreport, State.endChange_flag ?_⟩, ?_, fun b hb => ?_⟩
  · rw [hended, hchange]
    rfl
  · exact (State.present_congr (congrArg Ground.oneArm hground)).trans hp
  · rw [hu, ht]
    exact .endChange (.takeReport (.setChange h))
  · have hapart : Apart b s (s.resolveAndEnd a) := .resolveAndEnd hb.symm (.refl b s)
    rw [← hends]
    exact hapart.change

/-! ### Nothing follows (log 5) -/

theorem State.takeMessage_idle (h : ∀ b, (s.change b).state = .idle) (m : Message) :
    (∀ b, ((s.takeMessage m).change b).state = .idle) ∧ (s.takeMessage m).library = s.library := by
  have hstands {t : State} (e : t = s) : (∀ b, (t.change b).state = .idle) ∧ t.library = s.library := by
    rw [e]
    exact ⟨h, rfl⟩
  have hlid {t : State} {p : Fin 20} (c : Arm) (ht : (∀ b, (t.change b).state = .idle) ∧ t.library = s.library) :
      (∀ b, ((t.lidNews c p).change b).state = .idle) ∧ (t.lidNews c p).library = s.library := by
    obtain ⟨hidle, hlibrary⟩ := ht
    have hdrop : (∀ b, ((t.dropOpened c p).change b).state = .idle) ∧ (t.dropOpened c p).library = s.library := by
      refine ⟨fun b => ?_, hlibrary⟩
      rw [State.dropOpened, State.change_setChange]
      split
      · exact hidle c
      · exact hidle b
    unfold State.lidNews
    dsimp only
    split
    · split
      · exact hdrop
      · exact ⟨hidle, hlibrary⟩
      · rw [hidle c, if_neg (by simp [ChangeState.afterGrant]), if_neg (by simp)]
        exact hdrop
      · exact ⟨hidle, hlibrary⟩
    · exact ⟨hidle, hlibrary⟩
  cases m with
  | granted b => exact hstands (if_neg (by simp [h b]))
  | lapsed b => exact hstands (if_neg (by simp [h b, ChangeState.afterGrant]))
  | lockedOut b => exact hstands ((if_neg (by simp [h b])).trans (if_neg (by simp [h b, ChangeState.afterGrant])))
  | grantee g =>
    refine ⟨fun b => ?_, State.takeGrantee_library g⟩
    rw [State.takeMessage, State.change, State.takeGrantee_sequencer]
    exact h b
  | lidChanged p => exact hlid _ (hlid _ ⟨h, rfl⟩)
  | occupancyChanged p =>
    refine hstands ?_
    rw [State.takeMessage, State.tellBoth, State.occupancyNews_idle (h _), State.occupancyNews_idle (h _)]
  | testStage b => exact hstands (State.advance_of_rests (.inl (h b)))

/-- With both changes IDLE the part settles without touching the library. -/
theorem State.settleN_idle (h : ∀ b, (s.change b).state = .idle) (n : Nat) : (s.settleN n).library = s.library := by
  refine (State.settleN_keeps (P := fun t => (∀ b, (t.change b).state = .idle) ∧ t.library = s.library)
    (fun _ _ ht => ht) (fun t m ht => ?_) n s ⟨h, rfl⟩).2
  obtain ⟨hidle, hlibrary⟩ := State.takeMessage_idle ht.1 m
  exact ⟨hidle, hlibrary.trans ht.2⟩

/-- The end of a change stands when the part has settled, the other arm's change being IDLE. -/
theorem Ended.settleN {c : Change} {h : Head} (he : Ended a c h s) (hst : c.state = .idle) (hopen : c.opened = [])
    (hother : (s.change a.other).state = .idle) (n : Nat) :
    Ended a c h (s.settleN n) ∧ (s.settleN n).library = s.library := by
  have hidle (b : Arm) : (s.change b).state = .idle := by
    by_cases hb : b = a
    · subst hb
      rw [he.change]
      exact hst
    · rw [Side.eq_other hb]
      exact hother
  have hapart := Apart.settleN (by rw [he.change]; exact hst) (by rw [he.change]; exact hopen) n (.refl a s)
  exact ⟨⟨hapart.change.trans he.change, hapart.head.trans he.head, hapart.report.trans he.report,
    (Flagged.messageInvariant _).settleN n he.flag⟩, State.settleN_idle hidle n⟩

/-- The result the change ends with (R157). -/
def Change.outcome (c : Change) : ChangeResult := c.faultResult.getD .aborted

/-- Reconciliation ends with a tip that agrees with its home and is not in transit on the arm. -/
theorem State.settle_resolveAndEnd (hp : s.present a = true) (hother : (s.change a.other).state = .idle)
    (h : Placed i v ((s.resolveTransit a (s.change a).stowing).resolveTransit a (s.change a).target)) (n : Nat) :
    Ended a ((s.change a).ended (s.change a).outcome) (s.head a) ((s.resolveAndEnd a).settleN n) ∧
      ((s.resolveAndEnd a).settleN n).library.tips[i] = .active v := by
  obtain ⟨hended, hplaced, hkept⟩ := State.resolveAndEnd_ends hp h
  obtain ⟨hsettled, hlibrary⟩ := hended.settleN rfl rfl ((congrArg Change.state (hkept _ (Side.other_ne a))).trans hother) n
  exact ⟨hsettled, (congrArg (fun l : Library => l.tips[i]) hlibrary).trans hplaced.slot⟩

/-- Reconciliation ends with a tip in transit on the arm: it is resolved. -/
theorem State.settle_resolves (hp : s.present a = true) (hother : (s.change a.other).state = .idle)
    (hv : s.library.tips[i] = .active v) (hl : v.location = .inTransit a)
    (htip : (s.change a).stowing = some i ∨ (s.change a).target = some i) (n : Nat) :
    Ended a ((s.change a).ended (s.change a).outcome) (s.head a) ((s.resolveAndEnd a).settleN n) ∧
      ((s.resolveAndEnd a).settleN n).library.tips[i] = .active (v.resolved (s.pocket v.home).occupied) ∧
      ((s.pocket v.home).occupied = false →
        ((s.resolveAndEnd a).settleN n).attention.sources[sourceIndex .tip].flag = true) := by
  obtain ⟨hplaced, hflag⟩ := State.resolveTransits_resolve hv hl htip
  obtain ⟨hended, hslot⟩ := State.settle_resolveAndEnd hp hother hplaced n
  refine ⟨hended, hslot, fun ho => ?_⟩
  have hraised := Flagged.messageInvariant 10
  refine hraised.settleN n (hraised.endChange (hraised.sendReport (hflag ho)))

/-! ### What the head turns out to be (R19, R156, R157) -/

/-- A record in transit on the arm is not lost with the mounted ones. -/
theorem State.loseMounted_slot {keep : Option (Fin 64)} (hv : s.library.tips[i] = .active v)
    (hl : v.location = .inTransit a) : (s.loseMounted a keep).library.tips[i] = .active v := by
  rw [State.loseMounted_tip, if_neg, hv]
  rw [State.losesMounted_iff, hv]
  rintro ⟨⟨w, hw, hon⟩, -⟩
  obtain rfl := TipSlot.active.inj hw
  rw [hl] at hon
  cases hon

/-- What the sequencer has found of the head, before it resolves the tips in transit. -/
structure Found (a : Arm) (c : Change) (h : Head) (s t : State) : Prop where
  change : t.change a = c
  other : t.change a.other = s.change a.other
  head : t.head a = h
  housing : t.housing = s.housing
  present : t.present a = s.present a
  transit : ∀ (i : Fin 64) (v : Tip), s.library.tips[i] = .active v → v.location = .inTransit a →
    t.library.tips[i] = .active v

variable {c d : Change} {h k : Head}

theorem Found.refl (a : Arm) (s : State) : Found a (s.change a) (s.head a) s s :=
  ⟨rfl, rfl, rfl, rfl, rfl, fun _ _ hv _ => hv⟩

theorem Found.setChange (ht : Found a c h s t) : Found a d h s (t.setChange a d) :=
  { ht with
    change := State.change_setChange_same
    other := (Two.get_set_other ..).trans ht.other
    housing := (State.housing_congr rfl rfl).trans ht.housing
    present := (State.present_congr rfl).trans ht.present }

theorem Found.setHead (ht : Found a c h s t) : Found a c k s (t.setHead a k) :=
  { ht with
    head := Two.get_set_same ..
    housing := (State.housing_congr rfl rfl).trans ht.housing
    present := (State.present_congr rfl).trans ht.present }

theorem Found.abandonRead (ht : Found a c h s t) : Found a c { h with attempt := none } s (t.abandonRead a) := by
  obtain rfl := ht.head
  exact ht.setHead

theorem Found.headBecomes (ht : Found a c h s t) (x : HeadState) :
    Found a c { h with state := x, allowUnqualified := false } s (t.headBecomes a x) := by
  obtain rfl := ht.head
  exact ht.setHead

theorem Found.loseMounted {keep : Option (Fin 64)} (ht : Found a c h s t) : Found a c h s (t.loseMounted a keep) := by
  have hhousing : (t.loseMounted a keep).housing = t.housing := State.loseMounted_housing
  have hslot (i : Fin 64) (v : Tip) (hv : s.library.tips[i] = .active v) (hl : v.location = .inTransit a) :
      (t.loseMounted a keep).library.tips[i] = .active v := State.loseMounted_slot (ht.transit i v hv hl) hl
  obtain ⟨l, r, hframe⟩ := t.loseMounted_frame (a := a) keep
  rw [hframe] at hhousing hslot ⊢
  exact
    { change := ht.change
      other := ht.other
      head := ht.head
      housing := hhousing.trans ht.housing
      present := (State.present_congr rfl).trans ht.present
      transit := hslot }

theorem Found.moduleLost (ht : Found a c h s t) :
    ∃ k : Head, k.attempt = h.attempt ∧ k.modulePresent = h.modulePresent ∧ k.moduleInput = h.moduleInput ∧
      Found a c k s (t.moduleLost a).state := by
  unfold State.moduleLost
  split
  · exact ⟨{ h with state := .empty, allowUnqualified := false }, rfl, rfl, rfl, ht.loseMounted.headBecomes .empty⟩
  · exact ⟨h, rfl, rfl, rfl, ht⟩

/-- Step 2 begins without a module on the head: a mounted tip is lost, and the head is EMPTY (R156). -/
theorem State.identifyHead_finds_none (hp : (s.head a).modulePresent = false) : ∃ t : State,
    s.identifyHead a = t.resolveAndEnd a ∧ Found a { s.change a with wait := .identity }
      { s.head a with state := .empty, allowUnqualified := false } s t := by
  have hfinds : s.identifyHead a =
      ((((s.setChange a { s.change a with wait := .identity }).moduleLost a).state).headBecomes a .empty).resolveAndEnd a :=
    if_neg (by rw [Bool.not_eq_true]; exact hp)
  obtain ⟨k, hattempt, hpresent, hinput, hfound⟩ :=
    ((Found.refl a s).setChange (d := { s.change a with wait := .identity })).moduleLost
  refine ⟨_, hfinds, ?_⟩
  have hempty := hfound.headBecomes .empty
  rw [hattempt, hpresent, hinput] at hempty
  exact hempty

/-- A read that gives no known ID (R19, R156). -/
theorem State.readEnds_unknown {id : Option Word} (hst : (s.change a).state = .reconciling)
    (hid : id.bind s.tipWithId = none) : ∃ t : State, s.readEnds a id = t.resolveAndEnd a ∧ Found a (s.change a)
      { s.head a with state := .foreignModule id, allowUnqualified := false, attempt := none } s t := by
  have hunknown : (s.abandonRead a).identityReport a id = (s.abandonRead a).identityUnmatched a id :=
    State.identityReport_unknown hid
  have hends : s.readEnds a id = (((s.abandonRead a).identityReport a id).state).resolveAndEnd a := by
    have hst' : ((s.abandonRead a).change a).state = .reconciling := hst
    simp only [State.readEnds, hst']
  rw [hunknown] at hends
  exact ⟨_, hends, (Found.refl a s).abandonRead.loseMounted.headBecomes _⟩

/-- The tip found is resolved as the change ends. -/
theorem Found.settle_resolves (ht : Found a c h s t) (hp : s.present a = true)
    (hother : (s.change a.other).state = .idle) (hv : s.library.tips[i] = .active v) (hl : v.location = .inTransit a)
    (htip : c.stowing = some i ∨ c.target = some i) (n : Nat) :
    Ended a (c.ended c.outcome) h ((t.resolveAndEnd a).settleN n) ∧
      ((t.resolveAndEnd a).settleN n).library.tips[i] = .active (v.resolved (s.pocket v.home).occupied) ∧
      ((s.pocket v.home).occupied = false →
        ((t.resolveAndEnd a).settleN n).attention.sources[sourceIndex .tip].flag = true) := by
  have hoccupied : (t.pocket v.home).occupied = (s.pocket v.home).occupied := State.housing_occupied ht.housing
  have hends := State.settle_resolves (s := t) (ht.present.trans hp) (by rw [ht.other]; exact hother)
    (ht.transit i v hv hl) hl (by rw [ht.change]; exact htip) n
  rw [ht.change, ht.head, hoccupied] at hends
  exact hends

/-- A read that gives the ID of a tip in transit on the arm: the tip is on the arm (R19, R156). -/
theorem State.settle_readEnds_found (hst : (s.change a).state = .reconciling) (hp : s.present a = true)
    (hother : (s.change a.other).state = .idle) (hi : s.tipWithId v.moduleId = some i)
    (hv : s.library.tips[i] = .active v) (hl : v.location = .inTransit a) (n : Nat) :
    Ended a ((s.change a).ended (s.change a).outcome)
        { s.head a with state := .tip, allowUnqualified := false, attempt := none }
        ((s.readEnds a (some v.moduleId)).settleN n) ∧
      ((s.readEnds a (some v.moduleId)).settleN n).library.tips[i] = .active { v with location := .onArm a } := by
  obtain ⟨x, hx⟩ : ∃ x, x = (s.abandonRead a).loseMounted a (some i) := ⟨_, rfl⟩
  have hfound : Found a (s.change a) { s.head a with attempt := none } s x := by
    rw [hx]
    exact (Found.refl a s).abandonRead.loseMounted
  obtain ⟨y, hy⟩ : ∃ y, y = (x.moveTip i v (.onArm a)).headBecomesTip a false := ⟨_, rfl⟩
  have harrived : (s.abandonRead a).identityReport a (some v.moduleId) = ⟨true, y⟩ := by
    rw [hy, hx]
    exact State.identityReport_arrived (s := s.abandonRead a) hi hv (.inl hl)
  have hends : s.readEnds a (some v.moduleId) = y.resolveAndEnd a := by
    have hst' : ((s.abandonRead a).change a).state = .reconciling := hst
    simp only [State.readEnds, hst', harrived]
  have hplaced : Placed i { v with location := .onArm a } y := by
    refine ⟨?_, nofun, nofun⟩
    rw [hy]
    exact (State.moveTip_tip ..).trans (if_pos rfl)
  have hychange (b : Arm) : y.change b = x.change b := by rw [hy]; rfl
  have hyhead : y.head a = { s.head a with state := .tip, allowUnqualified := false, attempt := none } := by
    have hmoved : (x.moveTip i v (.onArm a)).head a = { s.head a with attempt := none } := hfound.head
    rw [hy]
    refine (Two.get_set_same ..).trans ?_
    rw [hmoved]
  have hypresent : y.present a = true := by
    refine Eq.trans ?_ (hfound.present.trans hp)
    rw [hy]
    exact State.present_congr rfl
  have hsettled := State.settle_resolveAndEnd (s := y) (a := a) hypresent
    (by rw [hychange, hfound.other]; exact hother)
    ((hplaced.resolveTransit (b := a) (tip := (y.change a).stowing) nofun).resolveTransit (b := a)
      (tip := (y.change a).target) nofun) n
  rw [hychange, hfound.change, hyhead] at hsettled
  rw [hends]
  exact hsettled

/-! ### The last lid of step 1 (R154, R156) -/

theorem State.passes_testStage (h : (s.change b).state = .idle) : s.Passes (.testStage b) := fun l =>
  State.advance_of_rests (s := { s with mail := l }) (.inl h)

theorem State.settleN_passing_prefix {l rest : List Message} (n : Nat) (hm : s.mail = l ++ rest)
    (h : ∀ m ∈ l, s.Passes m) : s.settleN (n + l.length) = State.settleN n { s with mail := rest } := by
  induction l generalizing s with
  | nil => exact congrArg (fun m => State.settleN n { s with mail := m }) hm
  | cons m l ih =>
    rw [List.length_cons, ← Nat.add_assoc, State.settleN_cons _ hm]
    refine (congrArg (State.settleN _) (h m List.mem_cons_self _)).trans ?_
    exact ih (s := { s with mail := l ++ rest }) rfl fun k hk => h k (List.mem_cons_of_mem _ hk)

theorem State.lidNews_closed (hl : (s.pocket p).lid = .closed) (hp : p ∈ (s.change b).opened) :
    s.lidNews b p = (s.dropOpened b p).send (.testStage b) := by
  simp [State.lidNews, hl, hp]

/-- A change told of a CLOSED lid drops it, and tests its wait, or has nothing to do with it. -/
theorem State.lidNews_closed_cases (hl : (s.pocket p).lid = .closed) : ∃ (d : Change) (l : List Message),
    s.lidNews b p = { s.setChange b d with mail := s.mail ++ l } ∧ d.state = (s.change b).state ∧
      (∀ m ∈ l, m = .testStage b) ∧ l.length ≤ 1 := by
  by_cases hp : p ∈ (s.change b).opened
  · exact ⟨{ s.change b with opened := (s.change b).opened.filter (· != p) }, [.testStage b], State.lidNews_closed hl hp, rfl, by simp, Nat.le_refl 1⟩
  · refine ⟨s.change b, [], ?_, rfl, fun _ h => absurd h List.not_mem_nil, Nat.zero_le 1⟩
    rw [State.lidNews_unopened hp, State.setChange_change, List.append_nil]

/-- A part in which the arm's change and head are as given, the other arm's change is IDLE, and the rest is as it was. -/
structure Beside (a : Arm) (c : Change) (h : Head) (s t : State) : Prop where
  rest : t = { s with sequencer := t.sequencer, mail := [] }
  change : t.change a = c
  other : (t.change a.other).state = .idle
  head : t.head a = h

theorem Beside.own (hz : Beside a c h s t) : Beside a d k s ((t.setChange a d).setHead a k) where
  rest := congrArg (fun u : State => (u.setChange a d).setHead a k) hz.rest
  change := State.change_setChange_same (s := t)
  other := (congrArg Change.state (Two.get_set_other ..)).trans hz.other
  head := Two.get_set_same ..

theorem Beside.own_change (hz : Beside a c h s t) : Beside a d h s (t.setChange a d) where
  rest := congrArg (fun u : State => u.setChange a d) hz.rest
  change := State.change_setChange_same (s := t)
  other := (congrArg Change.state (Two.get_set_other ..)).trans hz.other
  head := hz.head

theorem Beside.setChange_other (hz : Beside a c h s t) (hd : d.state = .idle) : Beside a c h s (t.setChange a.other d) where
  rest := congrArg (fun u : State => u.setChange a.other d) hz.rest
  change := (Two.get_set_ne _ _ (Side.other_ne a)).trans hz.change
  other := (congrArg Change.state State.change_setChange_same).trans hd
  head := hz.head

/-- A change whose one open lid is CLOSED tests its wait. -/
theorem State.tellBoth_closed (hm : s.mail = []) (hl : (s.pocket p).lid = .closed) (hopen : (s.change a).opened = [p])
    (hother : (s.change a.other).state = .idle) : ∃ (z : State) (before after : List Message),
      (s.tellBoth fun t b => t.lidNews b p) = { z with mail := before ++ .testStage a :: after } ∧
      (∀ m ∈ before, m = .testStage a.other) ∧ (∀ m ∈ after, m = .testStage a.other) ∧
      before.length ≤ 1 ∧ after.length ≤ 1 ∧ Beside a { s.change a with opened := [] } (s.head a) s z := by
  have hstart : Beside a (s.change a) (s.head a) s s :=
    ⟨congrArg (fun m => { s with mail := m }) hm, rfl, hother, rfl⟩
  rcases State.tellBoth_order (s := s) (fun t b => t.lidNews b p) a with e | e <;> rw [e]
  · obtain ⟨x, hx⟩ : ∃ x, x = s.setChange a { s.change a with opened := [] } := ⟨_, rfl⟩
    have hfirst : s.lidNews a p = x.send (.testStage a) := by
      rw [State.lidNews_closed hl (hopen ▸ List.mem_singleton_self p), State.dropOpened, hopen, hx]
      simp
    have hbeside : Beside a { s.change a with opened := [] } (s.head a) s x := hx ▸ hstart.own_change
    obtain ⟨d, l, hnews, hd, hall, hlength⟩ := State.lidNews_closed_cases (s := x.send (.testStage a)) (b := a.other)
      (p := p) (by rw [hx]; exact hl)
    refine ⟨x.setChange a.other d, [], l, ?_, fun _ h => absurd h List.not_mem_nil, hall, Nat.zero_le 1, hlength,
      hbeside.setChange_other (hd.trans hbeside.other)⟩
    have hmail : (x.send (.testStage a)).mail = [.testStage a] := by
      rw [hx]
      exact congrArg (· ++ [Message.testStage a]) hm
    rw [hmail] at hnews
    rw [hfirst, hnews]
    rfl
  · obtain ⟨d, l, hnews, hd, hall, hlength⟩ := State.lidNews_closed_cases (s := s) (b := a.other) (p := p) hl
    rw [hm, List.nil_append] at hnews
    obtain ⟨y, hy⟩ : ∃ y, y = s.setChange a.other d := ⟨_, rfl⟩
    have hbeside : Beside a (s.change a) (s.head a) s y := hy ▸ hstart.setChange_other (hd.trans hother)
    have hopen' : (State.change { y with mail := l } a).opened = [p] :=
      (congrArg Change.opened hbeside.change).trans hopen
    refine ⟨y.setChange a { s.change a with opened := [] }, l, [], ?_, hall, fun _ h => absurd h List.not_mem_nil,
      hlength, Nat.zero_le 1, hbeside.own_change⟩
    rw [hnews, ← hy, State.lidNews_closed (by rw [hy]; exact hl) (hopen' ▸ List.mem_singleton_self p), State.dropOpened,
      hopen']
    have hchange : State.change { y with mail := l } a = s.change a := hbeside.change
    rw [hchange]
    simp [State.send, State.setChange]

section
variable {z : State} {before after : List Message}

/-- The stage test among those of the other arm, which is IDLE, comes to be taken. -/
theorem State.settleN_stage (hidle : (z.change a.other).state = .idle) (hbefore : ∀ m ∈ before, m = .testStage a.other)
    (hlength : before.length ≤ 1) (n : Nat) :
    ∃ k, n + 1 ≤ k ∧ State.settleN (n + 3) { z with mail := before ++ .testStage a :: after } =
      State.settleN k (State.advance { z with mail := after } a) := by
  obtain ⟨e, he⟩ := Nat.exists_eq_add_of_le hlength
  refine ⟨n + 1 + e, Nat.le_add_right _ _, ?_⟩
  have hskip := State.settleN_passing_prefix (s := { z with mail := before ++ .testStage a :: after }) (n + 1 + e + 1) rfl
    fun m hm => by
      rw [hbefore m hm]
      exact State.passes_testStage hidle
  rw [show n + 3 = n + 1 + e + 1 + before.length by omega, hskip]
  exact State.settleN_cons (s := { z with mail := .testStage a :: after }) (n + 1 + e) rfl

/-- The last lid of step 1 is CLOSED, and a module on the head is read (R156). -/
theorem Beside.settle_reads (hz : Beside a c h s z) (hst : c.state = .reconciling) (hw : c.wait = .lids)
    (hopen : c.opened = []) (hp : h.modulePresent = true) (hbefore : ∀ m ∈ before, m = .testStage a.other)
    (hafter : ∀ m ∈ after, m = .testStage a.other) (hb : before.length ≤ 1) (ha : after.length ≤ 1) (n : Nat) :
    Beside a { c with wait := .identity } h.read s
      (State.settleN (n + 3) { z with mail := before ++ .testStage a :: after }) := by
  obtain ⟨k, hk, hsettle⟩ := State.settleN_stage (after := after) hz.other hbefore hb n
  have hchange : State.change { z with mail := after } a = c := hz.change
  have hhead : State.head { z with mail := after } a = h := hz.head
  have hreads := State.advance_identifies (s := { z with mail := after }) (a := a) (by rw [hchange]; exact hst)
    (by rw [hchange]; exact hw) (by rw [hchange]; exact hopen) (by rw [hhead]; exact hp)
  rw [hchange, hhead] at hreads
  obtain ⟨y, hy⟩ : ∃ y, y = (z.setChange a { c with wait := .identity }).setHead a h.read := ⟨_, rfl⟩
  have hbeside : Beside a { c with wait := .identity } h.read s y := hy ▸ hz.own
  have hread : State.advance { z with mail := after } a = { y with mail := after } := by rw [hreads, hy]; rfl
  have hlast := State.settleN_passing (s := { y with mail := after }) (n := k) (by exact ha.trans (by omega)) fun m hm => by
    rw [hafter m hm]
    exact State.passes_testStage hbeside.other
  rw [hsettle, hread, hlast]
  have hmail : y.mail = [] := by rw [hbeside.rest]
  have hsame : ({ y with mail := [] } : State) = y := congrArg (fun m => { y with mail := m }) hmail.symm
  exact hsame.symm ▸ hbeside

/-- Without a module on the head the tip in transit is resolved (R157). -/
theorem Beside.settle_resolves (hz : Beside a c h s z) (hst : c.state = .reconciling) (hw : c.wait = .lids)
    (hopen : c.opened = []) (hp : h.modulePresent = false) (hbefore : ∀ m ∈ before, m = .testStage a.other)
    (hb : before.length ≤ 1) (hpresent : s.present a = true)
    (hv : s.library.tips[i] = .active v) (hl : v.location = .inTransit a)
    (htip : c.stowing = some i ∨ c.target = some i) (n : Nat) {u : State}
    (hu : u = State.settleN (n + 3) { z with mail := before ++ .testStage a :: after }) :
    Ended a (Change.ended { c with wait := .identity } c.outcome) { h with state := .empty, allowUnqualified := false } u ∧
      u.library.tips[i] = .active (v.resolved (s.pocket v.home).occupied) ∧
      ((s.pocket v.home).occupied = false → u.attention.sources[sourceIndex .tip].flag = true) := by
  obtain ⟨k, hk, hsettle⟩ := State.settleN_stage (after := after) hz.other hbefore hb n
  obtain ⟨y, hy⟩ : ∃ y : State, y = { z with mail := after } := ⟨_, rfl⟩
  have hchange : y.change a = c := by rw [hy]; exact hz.change
  have hhead : y.head a = h := by rw [hy]; exact hz.head
  have hother : (y.change a.other).state = .idle := by rw [hy]; exact hz.other
  have hrest : y.library = s.library ∧ y.rack = s.rack ∧ y.oneArm = s.oneArm := by
    rw [hy, hz.rest]
    exact ⟨rfl, rfl, rfl⟩
  obtain ⟨hlibrary, hrack, hone⟩ := hrest
  have hadvance : y.advance a = y.identifyHead a := by
    rw [State.advance_reconciling (by rw [hchange]; exact hst),
      State.makeRackSafe_empty (by rw [hchange]; exact hw) (by rw [hchange]; exact hopen)]
  obtain ⟨t, hends, hfound⟩ := State.identifyHead_finds_none (s := y) (a := a) (by rw [hhead]; exact hp)
  rw [hchange, hhead] at hfound
  have hresolves := hfound.settle_resolves (i := i) (v := v) ((State.present_congr hone).trans hpresent) hother
    (by rw [hlibrary]; exact hv) hl htip k
  have hpocket : y.pocket v.home = s.pocket v.home := State.pocket_congr (congrArg Rack.pockets hrack)
  rw [hpocket] at hresolves
  rw [hu, hsettle, ← hy, hadvance, hends]
  exact hresolves

end

end

end Sys2Proof.Machine
end

section
/-! SUPPORT. The commands on which a change meets a fault, and those that end its reconciliation (spec 08, R151 to R157). -/

namespace Sys2Proof.Machine

section
variable {s t u v : State} {a : Arm} {p p' p₀ : Fin 20} {q : Point} {r : ChangeResult} {i : Fin 64}

/-! ### A fault at the rack (R149, R151, R153, R154) -/

/-- A change after the grant with a lid open, in whose dock box the arm still is. -/
structure AtRack (a : Arm) (p p' : Fin 20) (s : State) : Prop where
  mail : s.mail = []
  after : (s.change a).state.afterGrant = true
  current : (s.change a).current = some p
  report : (s.report a).pocket = some p
  opened : p' ∈ (s.change a).opened
  inside : s.outDock a p' = false

theorem AtRack.settle (h : AtRack a p p' s) : (s.faultChange a r).settle = s.faulted a p r :=
  State.settle_faultChange h.mail h.current h.report h.opened h.inside

theorem AtRack.debounced (h : AtRack a p p' s) : AtRack a p p' (s.debounced a) := { h with }

theorem AtRack.abandonRead (h : AtRack a p p' s) : AtRack a p p' (s.abandonRead a) := { h with }

theorem AtRack.stopTimer (h : AtRack a p p' s) : AtRack a p p' (s.stopTimer a) := by
  have hstopped : (s.stopTimer a).change a = { s.change a with timer := none } := State.change_setChange_same
  exact
    { mail := h.mail
      after := by rw [hstopped]; exact h.after
      current := by rw [hstopped]; exact h.current
      report := h.report
      opened := by rw [hstopped]; exact h.opened
      inside := (State.outDock_congr (s := s) (t := s.stopTimer a) (congrArg Change.lastReference hstopped :) rfl).trans
        h.inside }

theorem AtRack.changeAbort {arm : Byte} (h : AtRack a p p' s) (hs : s.serves a) (ht : s.takesRequests)
    (ha : arm.toNat = a.toNat) : exec (.changeAbort arm) s =
      .next (s.respond (.changeAbort arm) { status := .ok, payload := [], state := s.faulted a p .aborted }) := by
  have hbody : changeAbortReq arm s = accept [] ((s.faulted a p .aborted).send (.testStage a)) := by
    rw [changeAbortReq_eq hs.2 ha, changeAbortBody_afterGrant h.after, State.faultChange_eq h.current h.report]
  refine congrArg Host.Outcome.next ((s.event_on _ hs.1).trans ?_)
  rw [State.request_taken _ _ _ ht, hbody]
  exact State.settle_stands (s := s.respond (.changeAbort arm) (accept [] (s.faulted a p .aborted))) h.mail
    (State.faulted_waits (p := p) (r := .aborted) h.opened h.inside rfl rfl)

theorem AtRack.takeLapse (h : AtRack a p p' s) : (s.takeLapse a).settle = s.faulted a p .grantLapsed :=
  (congrArg State.settle (if_pos h.after)).trans h.settle

theorem AtRack.takeLockout (h : AtRack a p p' s) : (s.takeLockout a).settle = s.faulted a p .rackLocked := by
  obtain ⟨-, hwait, -⟩ := ChangeState.afterGrant_iff.mp h.after
  exact (congrArg State.settle ((if_neg hwait).trans (if_pos h.after))).trans h.settle

theorem AtRack.stepExpiry (h : AtRack a p p' s) (htimer : (s.change a).timer ≠ none) (hfrz : s.frz = false) :
    (s.stepExpiry a).settle = s.faulted a p .timeout := by
  rw [State.stepExpiry_afterGrant htimer hfrz h.after, h.stopTimer.settle]
  exact State.faulted_stopTimer

theorem AtRack.moduleDebounced (h : AtRack a p p' s) (hnew : (s.head a).moduleInput ≠ (s.head a).modulePresent)
    (e : (s.debounced a).moduleChanged a = (s.debounced a).faultChange a r) :
    (s.moduleDebounced a).settle = (s.debounced a).faulted a p r := by
  rw [State.moduleDebounced_new hnew, e]
  exact h.debounced.settle

theorem AtRack.readEnds (h : AtRack a p p' s) {id : Option Word}
    (e : s.readEnds a id = (s.abandonRead a).faultChange a r) : (s.readEnds a id).settle = s.faulted a p r := by
  rw [e, h.abandonRead.settle]
  exact State.faulted_abandonRead

/-! ### A formation outside the dock box (R144 to R148, R154) -/

/-- The change has been handed the reference point, and is to test its wait. -/
structure Sighted (a : Arm) (q : Point) (s v : State) : Prop where
  change : v.change a = { s.change a with lastReference := some q }
  pockets : v.rack.pockets = s.rack.pockets
  reports : v.rack.reports = s.rack.reports
  lidTimeout : v.rack.lidTimeout = s.rack.lidTimeout
  library : v.library = s.library
  mail : v.mail = []

theorem FormsReference.exec (hs : s.serves a) (hm : s.mail = []) (h : FormsReference s a q)
    (hgrant : ∀ acknowledged inside, s.rack.arbiter ≠ .granted a acknowledged inside true) :
    ∃ v, Sighted a q s v ∧ Machine.exec (.checkPointFormation a) s = .next (v.send (.testStage a)).settle := by
  obtain ⟨t, ht, hform⟩ := FormsReference.form hs.2 h hgrant
  refine ⟨t.sighting a q, ⟨?_, ht.pockets, ht.reports, ht.lidTimeout, ht.library, ht.mail.trans hm⟩, ?_⟩
  · rw [State.sighting_change, State.change, ht.sequencer]
    rfl
  · rw [exec_checkPointFormation hs, hform]
    rfl

theorem Sighted.outDock (h : Sighted a q s v) (hout : ¬ InDock s a p q) : v.outDock a p = true := by
  refine (v.outDock_of_reference a p (congrArg Change.lastReference h.change)).mpr fun hin => hout ?_
  obtain ⟨b, hb, hin⟩ := hin
  exact ⟨b, by rw [← State.pocket_congr h.pockets]; exact hb, hin⟩

theorem Sighted.report (h : Sighted a q s v) : v.report a = s.report a := congrArg (·.get a) h.reports

/-- The lid closed at a departure, seen from before the formation. -/
theorem Sighted.departing (h : Sighted a q s v) (hsense : (s.pocket p).sense = true)
    (hpockets : u.rack.pockets = v.rack.pockets) (htimeout : u.rack.lidTimeout = v.rack.lidTimeout) :
    (u.departing a p).pocket p = { s.pocket p with
      lid := .closing, drive := false, timer := some s.rack.lidTimeout } ∧
    ∀ p' : Fin 20, p' ≠ p → (u.departing a p).pocket p' = s.pocket p' := by
  have hpocket (p' : Fin 20) : u.pocket p' = s.pocket p' := State.pocket_congr (hpockets.trans h.pockets)
  refine ⟨?_, fun p' hne => (State.departing_pocket_ne hne).trans (hpocket p')⟩
  rw [State.departing_pocket, hpocket, htimeout, h.lidTimeout, Pocket.closing, if_pos hsense, if_pos hsense]

/-! ### A lid that jams (R125) -/

/-- A state that differs from another in the sense of one pocket at most. -/
structure SensedAt (p : Fin 20) (s v : State) : Prop where
  sequencer : v.sequencer = s.sequencer
  mail : v.mail = s.mail
  arbiter : v.rack.arbiter = s.rack.arbiter
  reports : v.rack.reports = s.rack.reports
  pocket : ∀ p' : Fin 20, p' ≠ p → v.pocket p' = s.pocket p'

theorem SensedAt.change (h : SensedAt p s v) : v.change a = s.change a := congrArg (fun q => q.change.get a) h.sequencer

theorem SensedAt.head (h : SensedAt p s v) : v.head a = s.head a := congrArg (fun q => q.head.get a) h.sequencer

theorem SensedAt.report (h : SensedAt p s v) : v.report a = s.report a := congrArg (·.get a) h.reports

/-- An open lid that loses its sense, and a moving lid whose timer expires, jam. -/
theorem exec_jams {e : Instr} (hs : s.powered = true)
    (he : (e = .lidSenseChange p ∧ (s.pocket p).lid = .opened ∧ (s.pocket p).sense = true ∧
        (s.pocket p).senseInput = false) ∨
      (e = .lidTimerExpiry p ∧ ((s.pocket p).lid = .opening ∨ (s.pocket p).lid = .closing) ∧
        (s.pocket p).timer ≠ none ∧ s.frz = false)) :
    ∃ v : State, SensedAt p s v ∧ exec e s = .next (v.jam p).settle := by
  rcases he with ⟨rfl, hl, hsense, hinput⟩ | ⟨rfl, hl, htimer, hfrz⟩
  · refine ⟨s.setPocket p { s.pocket p with sense := false },
      ⟨rfl, rfl, rfl, rfl, fun p' hne => (State.pocket_setPocket ..).trans (if_neg hne.symm)⟩,
      (congrArg Host.Outcome.next (s.event_on _ hs)).trans ?_⟩
    rw [State.senseChange_sensed (by simp [hinput, hsense]), hinput, State.lidSense_jams (.inr (by simp [hl]))]
  · refine ⟨s, ⟨rfl, rfl, rfl, rfl, fun _ _ => rfl⟩, (congrArg Host.Outcome.next (s.event_on _ hs)).trans ?_⟩
    rw [State.lidExpiry, if_pos ⟨Option.isSome_iff_ne_none.mpr htimer, by simp [hfrz], hl⟩]

/-! ### The second timeout of a reconciliation (R155) -/

theorem stepExpiry_locksDown (hm : s.mail = []) (hp : (s.head a).modulePresent = true)
    (hwaits : (s.change a.other).state = .idle ∨ (s.change a.other).state = .waitingRack)
    (hst : (s.change a).state = .reconciling)
    (htimer : (s.change a).timer ≠ none) (hfrz : s.frz = false) (hl : s.rack.arbiter ≠ .lockedOut)
    (hdriven : ∀ q : Fin 20, (s.pocket q).drive = true →
      ((s.pocket q).lid = .opening ∨ (s.pocket q).lid = .opened) ∧ (s.pocket q).sense = true) :
    let u := (s.stepExpiry a).settle
    LockedDown a { s.change a with double := true, timer := none, wait := .identity } (s.head a).read u ∧
    u.zones.grantee = none ∧ u.attention.sources[sourceIndex .rack].flag = true := by
  obtain ⟨t, ht⟩ : ∃ t, t = s.stopTimer a := ⟨_, rfl⟩
  have hchange : t.change a = { s.change a with timer := none } := ht ▸ State.change_setChange_same
  have hother : t.change a.other = s.change a.other := ht ▸ Two.get_set_other ..
  have hhead : t.head a = s.head a := by rw [ht]; rfl
  obtain ⟨hlocked, hflag, hlength, -⟩ := State.changeDoubleFault_locksDown (s := t) (a := a) (by rw [ht]; exact hl)
    (by rw [ht]; exact hm) (by rw [ht]; exact hdriven) (by rw [hother]; exact hwaits) (by rw [hhead]; exact hp)
  rw [hchange, hhead] at hlocked
  have hexpires : s.stepExpiry a = t.changeDoubleFault a := ht ▸ State.stepExpiry_reconciling htimer hfrz hst
  rw [hexpires]
  obtain ⟨hsettled, hnone⟩ := hlocked.settleN (n := 256) (by exact hst) (Nat.le_trans hlength (by decide))
  exact ⟨hsettled, hnone, (Flagged.messageInvariant _).settleN _ hflag⟩

/-! ### The one open lid closes (R124, R154) -/

/-- The state in which a lid has closed. -/
def State.closed (p : Fin 20) (s : State) : State :=
  s.setPocket p { s.pocket p with sense := false, lid := .closed, drive := false, timer := none }

theorem State.closed_pocket : (s.closed p).pocket p =
    { s.pocket p with sense := false, lid := .closed, drive := false, timer := none } :=
  (State.pocket_setPocket ..).trans (if_pos rfl)

theorem State.closed_occupied : ((s.closed p).pocket p').occupied = (s.pocket p').occupied :=
  State.housing_occupied (State.setPocket_housing rfl)

theorem State.settle_closes (hm : s.mail = []) (hl : (s.pocket p).lid = .closing) (hsense : (s.pocket p).sense = true)
    (hinput : (s.pocket p).senseInput = false) :
    (s.senseChange p).settle = State.settleN 255 ((s.closed p).tellBoth fun t b => t.lidNews b p) := by
  obtain ⟨x, hx⟩ : ∃ x, x = s.closed p := ⟨_, rfl⟩
  have hcloses : s.senseChange p = x.send (.lidChanged p) := by
    rw [State.senseChange_sensed (by simp [hinput, hsense]), hinput, State.lidSense_closes (by simp [hl]) (by simp),
      State.setLid_setPocket, hx, State.closed]
  have hxm : x.mail = [] := by rw [hx]; exact hm
  have hmail : (x.send (.lidChanged p)).mail = .lidChanged p :: [] := congrArg (· ++ _) hxm
  have hback : ({ x.send (.lidChanged p) with mail := [] } : State) = x :=
    congrArg (fun m => { x with mail := m }) hxm.symm
  rw [hcloses, State.settle, settleBound, State.settleN_cons 255 hmail, hback, ← hx]
  rfl

end

end Sys2Proof.Machine
end

section
/-! PROOF. The faults of a change and its reconciliation. -/

namespace Sys2Proof.Machine

/-- Settles O50: every fault sends the test message that advances the stage, and the mail is settled in each case
up to the state in which the reconciliation waits, has locked the rack or has ended. -/
theorem faultsEnterReconciling : Obligations.FaultsEnterReconciling := by
  have hexec {s : State} {a : Arm} {e : Instr} {f : State → State} {u : State} (hs : s.serves a)
      (he : exec e s = done (s.armEvent a f)) (hu : f s = u) : exec e s = .next u :=
    he.trans (congrArg Host.Outcome.next ((s.armEvent_on a f hs).trans hu))
  refine ⟨?_, ?_, ?_, ?_, ?_⟩
  · -- The faults of a stage after the grant.
    intro s a p p' hs hm hidle hwait hrec hcurrent hreport hp hnot faulted moduleGone moduleCome st
    have hrack : AtRack a p p' s :=
      ⟨hm, ChangeState.afterGrant_iff.mpr ⟨hidle, hwait, hrec⟩, hcurrent, hreport, hp, s.outDock_of_notDeparted a p' hnot⟩
    have hlevel {level : Bool} (hinput : (s.head a).moduleInput = level) :
        s.debounced a = s.setHead a { s.head a with modulePresent := level } := by rw [State.debounced, hinput]
    refine ⟨fun arm ht ha => hrack.changeAbort hs ht ha, hexec hs rfl hrack.takeLapse, hexec hs rfl hrack.takeLockout,
      fun htimer hfrz => hexec hs rfl (hrack.stepExpiry htimer hfrz), fun hinput hpresent hst => ?_,
      fun hinput hpresent hst => ?_, fun hst n hattempt => ⟨fun hn => ?_, fun id i t htarget ht hne => ?_⟩⟩
    · have hleaves := State.moduleChanged_leaves (s := s.debounced a) (by rw [State.debounced_head]; exact hinput) hst
      exact hexec hs rfl ((hrack.moduleDebounced (by simp [hinput, hpresent]) hleaves).trans
        (congrArg (State.faulted · a p .noModule) (hlevel hinput)))
    · have harrives := State.moduleChanged_arrives (s := s.debounced a) (by rw [State.debounced_head]; exact hinput) hst
      exact hexec hs rfl ((hrack.moduleDebounced (by simp [hinput, hpresent]) harrives).trans
        (congrArg (State.faulted · a p .extraModule) (hlevel hinput)))
    · have hnone : (s.attemptFails a n).settle = faulted s .noId := by
        have hlast : s.attemptFails a n = s.readEnds a none := if_neg (Nat.not_lt.mpr hn)
        rw [hlast]
        exact hrack.readEnds (State.readEnds_noId hst)
      exact ⟨hexec hs rfl (by rw [State.attemptTimeout, hattempt]; exact hnone),
        fun id => hexec hs rfl (by rw [State.identityAnswer, hattempt]; exact hnone)⟩
    · refine hexec hs rfl ?_
      rw [State.identityAnswer, hattempt]
      exact hrack.readEnds (State.readEnds_wrongId hst htarget ht hne)
  · -- A formation outside the dock box.
    intro s a p q hs hm hforms hgrant hopen hout hlid hsense c departs
    obtain ⟨v, hv, hexec⟩ := FormsReference.exec hs hm hforms hgrant
    have hvout := hv.outDock hout
    have hpocket : v.pocket p = s.pocket p := State.pocket_congr hv.pockets
    rw [← hpocket] at hlid hsense
    refine ⟨fun hst hcurrent hr => ?_, fun hst hw => ?_⟩
    · have hsettle := State.settle_dockLeft (s := v) hv.mail (by rw [hv.change]; exact hst)
        (by rw [hv.change]; exact hcurrent) (by rw [hv.report]; exact hr) (by rw [hv.change]; exact hopen) hvout hlid hsense
      obtain ⟨hlid, hothers⟩ := hv.departing (u := v.faulted a p .dockLeft) (hpocket ▸ hsense) rfl rfl
      refine ⟨_, hexec.trans (congrArg _ hsettle), ?_, ?_, hlid, hothers, hv.library⟩
      · rw [State.departing_change, State.faulted_change, hv.change]
        rfl
      · refine (Two.get_set_same ..).trans ?_
        rw [hv.report]
    · have hsettle := State.settle_departs (s := v) hv.mail (by rw [hv.change]; exact hst) (by rw [hv.change]; exact hw)
        (by rw [hv.change]; exact hopen) hvout hlid hsense 253
      obtain ⟨hlid, hothers⟩ := hv.departing (u := v) (hpocket ▸ hsense) rfl rfl
      refine ⟨_, hexec.trans (congrArg _ hsettle), ?_, hv.report, hlid, hothers, hv.library⟩
      rw [State.departing_change, hv.change]
  · -- A double fault, and a lid that jams.
    intro s a hs hm hp hwaits c read double
    have hdriven {q : Fin 20} {jams : List (Fin 20)} (hlid : LidLaw s) (hq : q ∉ jams) (hd : (s.pocket q).drive = true)
        (hsense : ∀ p : Fin 20, p ∉ jams → (s.pocket p).drive = true → (s.pocket p).sense = true) :
        ((s.pocket q).lid = .opening ∨ (s.pocket q).lid = .opened) ∧ (s.pocket q).sense = true :=
      ⟨((hlid q).1 hd).2, hsense q hq hd⟩
    refine ⟨fun hst _ htimer hfrz hl hlid hsense => ?_, fun p e hopen he => ?_⟩
    · obtain ⟨hu, hgrantee, hflag⟩ := stepExpiry_locksDown hm hp hwaits hst htimer hfrz hl
        (fun q hd => hdriven hlid List.not_mem_nil hd hsense)
      exact ⟨_, hexec hs rfl rfl, hu.change, hu.head, hu.arbiter, hu.queue, hu.grantTimer, hgrantee, hu.undriven, hflag⟩
    · obtain ⟨v, hv, hexec⟩ := exec_jams hs.1 he
      have hmail : v.mail = [] := hv.mail.trans hm
      have hwaits' : (v.change a.other).state = .idle ∨ (v.change a.other).state = .waitingRack := by
        rw [hv.change]
        exact hwaits
      have hread : (v.head a).read = read := congrArg Head.read hv.head
      refine ⟨fun hst hw hl hlid hsense => ?_, fun hidle hwait hrec p₀ hcurrent hr => ?_⟩
      · obtain ⟨hu, hgrantee, hflag⟩ := State.settle_jam_doubleFault (s := v) (by rw [hv.arbiter]; exact hl) hmail
          (fun q hne hd => by
            rw [hv.pocket q hne] at hd ⊢
            exact hdriven hlid (by simpa using hne) hd hsense)
          hwaits' (by rw [hv.head]; exact hp) (by rw [hv.change]; exact hopen) (by rw [hv.change]; exact hst)
          (by rw [hv.change]; exact hw)
        rw [hv.change, hread] at hu
        exact ⟨_, hexec, hu.change, hu.head, hu.arbiter, hu.queue, hu.grantTimer, hgrantee, hu.undriven, hflag⟩
      · have hu := State.settle_jam_faults (s := v) (p₀ := p₀) hmail hwaits' (by rw [hv.head]; exact hp)
          (by rw [hv.change]; exact hopen) (by rw [hv.change]; exact ChangeState.afterGrant_iff.mpr ⟨hidle, hwait, hrec⟩)
          (by rw [hv.change]; exact hcurrent) (by rw [hv.report]; exact hr)
        rw [hv.change, hread, hv.report] at hu
        refine ⟨_, hexec, hu.change, hu.head, hu.report, ?_, ?_⟩ <;> rw [hu.pocket] <;> rfl
  · -- A pocket that changes before its transfer.
    intro s a p p₀ i t hs hm hother hv hhome hcurrent hreport c hchanged faulted report
    have hexec : exec (.observedOccupancyChange p) s = .next (s.occupancyChange p).settle :=
      congrArg Host.Outcome.next (s.event_on _ hs.1)
    obtain ⟨z, l, told, hsettle, htold, hz⟩ := State.settle_pocketChanged hm hother hv hhome hcurrent hreport hchanged
    rw [hsettle] at hexec
    refine ⟨fun ⟨p', hp', hnot⟩ => ?_, fun hopen hp => ?_⟩
    · have hstruck := hz.settle_waits (fun {u} hchange hdock => State.advance_waits (p' := p') (by rw [hchange]; rfl)
        (by rw [hchange]; rfl) (by rw [hchange]; exact hp')
        ((State.outDock_of_dock (t := u) (s := s) (by rw [hchange]; rfl) (hdock p')).trans
          (s.outDock_of_notDeparted a p' hnot))) htold 252
      exact ⟨_, hexec, hstruck.change, hstruck.report⟩
    · obtain ⟨hchange, hhead, hr⟩ := hz.settle_identifies rfl rfl hopen hp htold 251
      exact ⟨_, hexec, hchange, hr, hhead⟩
  · -- The end of a reconciliation.
    intro s a i t f hs hm hst hfault hother hv hl htip c ended resolved
    have houtcome : c.outcome = f := by rw [Change.outcome, hfault, Option.getD_some]
    have hended {d : Change} {h : Head} {u : State} (hu : Ended a d h u)
        (hd : d = Change.ended { c with wait := .identity } f) : ended u := ⟨hu.change.trans hd, hu.report, hu.flag⟩
    refine ⟨fun n hw hattempt => ?_, fun p hw hopen hlid hsense hinput => ?_⟩
    · have hc : c.ended c.outcome = Change.ended { c with wait := .identity } f := by rw [houtcome, ← hw]
      have hreads {id : Option Word} (hid : id.bind s.tipWithId = none) : resolved (s.readEnds a id).settle ∧
          (s.readEnds a id).settle.head a =
            { s.head a with state := .foreignModule id, allowUnqualified := false, attempt := none } := by
        obtain ⟨x, hends, hfound⟩ := State.readEnds_unknown hst hid
        obtain ⟨hu, hslot, hflag⟩ := hfound.settle_resolves hs.2 hother hv hl htip 256
        rw [hends]
        exact ⟨⟨hended hu hc, hslot, hflag⟩, hu.head⟩
      refine ⟨fun id hid => ?_, fun hn => ?_, fun hid => ?_⟩
      · refine ⟨_, hexec hs rfl ?_, hreads (State.tipWithId_none hid)⟩
        rw [State.identityAnswer, hattempt]
        rfl
      · refine ⟨_, hexec hs rfl ?_, hreads rfl⟩
        rw [State.attemptTimeout, hattempt]
        exact congrArg State.settle (if_neg (Nat.not_lt.mpr hn))
      · obtain ⟨hu, hslot⟩ := State.settle_readEnds_found hst hs.2 hother (State.tipWithId_unique hv rfl hid) hv hl 256
        refine ⟨_, hexec hs rfl ?_, hended hu hc, hslot, hu.head⟩
        rw [State.identityAnswer, hattempt]
        rfl
    · obtain ⟨z, before, after, htold, hbefore, hafter, hb, ha, hz⟩ := State.tellBoth_closed (s := s.closed p) (a := a) hm
        (congrArg Pocket.lid State.closed_pocket) hopen hother
      have hsettle : exec (.lidSenseChange p) s =
          .next (State.settleN 255 { z with mail := before ++ .testStage a :: after }) := by
        rw [← htold, ← State.settle_closes hm hlid hsense hinput]
        exact congrArg Host.Outcome.next (s.event_on _ hs.1)
      refine ⟨_, hsettle, fun hp => ?_, fun hp => ?_⟩
      · have hread := hz.settle_reads hst hw rfl hp hbefore hafter hb ha 252
        exact ⟨hread.change, hread.head, (congrArg State.library hread.rest :),
          (congrArg (fun u : State => u.report a) hread.rest :)⟩
      · obtain ⟨hu, hslot, hflag⟩ := hz.settle_resolves (i := i) (v := t) hst hw rfl hp hbefore hb
          ((State.present_congr rfl).trans hs.2) hv hl htip 252 rfl
        rw [State.closed_occupied] at hslot hflag
        exact ⟨⟨hended hu (congrArg (Change.ended { c with wait := .identity }) houtcome), hslot, hflag⟩, hu.head⟩

end Sys2Proof.Machine
end

section
/-! SUPPORT. A change is asked for: its argument checks, what the validation finds, and its acceptance with each answer
of the arbiter (spec 08, R139 to R142). -/

namespace Sys2Proof.Machine

section
variable {s t : State} {a b : Arm} {p : Fin 20} {i : Fin 64} {v : Tip} {r : ChangeRequest} {q : Point}

/-! ### The request (R139) -/

theorem changeReq_eq {arm target allow : Byte} {want : Option (Fin 64)} (hp : s.present a = true)
    (ha : arm.toNat = a.toNat) (hallow : allow.toNat ≤ 1) (hnone : target = 0xFF → want = none)
    (hsome : target ≠ 0xFF → ∃ i : Fin 64, want = some i ∧ target.toNat = i.val) :
    changeReq arm target allow s =
      if (s.change a).busy then stageChange a { target := want, allow := allow == 1 } s
      else startChange a { target := want, allow := allow == 1 } s := by
  have htarget : optionalArg tipArg target = some want := by
    unfold optionalArg
    split
    · next h => rw [hnone h]
    · next h =>
      obtain ⟨i, rfl, hi⟩ := hsome h
      rw [show tipArg target = some i from indexArg_of_val hi]
      rfl
  have hallowed : yesNoArg allow = some (allow == 1) := yesNoArg_eq hallow
  simp [changeReq, sideArg_of_toNat ha, htarget, hallowed, State.absentArm, hp]

/-! ### The validation (R140) -/

/-- The arm may change: it is referenced, a RACK zone is active and the rack is not locked. -/
structure State.Fit (s : State) (a : Arm) : Prop where
  referenced : s.referenced a = true
  zone : s.rackZoneActive = true
  unlocked : s.rack.arbiter ≠ .lockedOut

theorem State.rackZoneActive_of {z : Fin 16} {r : Zone} (hz : s.zone z = some r) (hkind : r.kind = .rack)
    (hactive : r.suspended = false) : s.rackZoneActive = true := by
  refine (anyZone_iff _).mpr ⟨z, ?_⟩
  rw [State.zoneIsRack_iff.mpr ⟨r, hz, hkind⟩, State.zoneActive_of hz hactive]
  rfl

theorem State.validate_notReferenced (h : s.referenced a = false) : s.validate a r = .refused .notReferenced := by
  simp [State.validate, h]

theorem State.Fit.validate_nothing (h : s.Fit a) (hhead : (s.head a).state.settled = true)
    (hn : s.nothingToChange a r = true) : s.validate a r = .nothingToDo := by
  obtain ⟨href, hzone, hlock⟩ := h
  simp [State.validate, href, hzone, hlock, hhead, hn]

theorem State.Fit.validate_passes (h : s.Fit a) (hhead : (s.head a).state.settled = true)
    (hn : s.nothingToChange a r = false) (htarget : ∀ i, r.target = some i → s.targetRefusal a i r.allow = none)
    (hstow : ∀ i, s.mountedTip a = some i → s.stowRefusal a i = none) : s.validate a r = .passes := by
  obtain ⟨href, hzone, hlock⟩ := h
  have htarget' : r.target.bind (fun i => s.targetRefusal a i r.allow) = none := Option.bind_eq_none_iff.mpr htarget
  have hstow' : (s.mountedTip a).bind (s.stowRefusal a) = none := Option.bind_eq_none_iff.mpr hstow
  simp [State.validate, href, hzone, hlock, hhead, hn, htarget', hstow', verdict]

theorem State.reachable_of (henabled : (s.pocket p).state = .enabled) (hdock : (s.pocket p).dock.get a ≠ none) :
    s.reachable a p = true := by
  simp [State.reachable, henabled, State.dockBox, Option.isSome_iff_ne_none, hdock]

theorem State.targetRefusal_none {allow : Bool} (hv : s.library.tips[i] = .active v) (hl : v.location = .inPocket)
    (hreach : s.reachable a v.home = true) (hentry : v.entries.get a ≠ none ∨ allow = true)
    (hnames : (s.change a.other).names i = false) : s.targetRefusal a i allow = none := by
  have hentry' : ¬ (v.entries.get a = none ∧ allow = false) := fun ⟨h1, h2⟩ =>
    hentry.elim (· h1) fun h => Bool.false_ne_true (h2.symm.trans h)
  simp [State.targetRefusal, (s.activeTip_eq_some_iff i v).mpr hv, hl, hreach, hentry', hnames]

theorem State.stowRefusal_none (hv : s.library.tips[i] = .active v) (hreach : s.reachable a v.home = true)
    (hempty : (s.pocket v.home).occupied = false) (hclean : (s.pocket v.home).foreignMark = false) :
    s.stowRefusal a i = none := by
  simp [State.stowRefusal, State.homeOf_active hv, hreach, hempty, hclean]

/-! ### The acceptance (R141) -/

/-- A change is accepted, and the rack not yet asked for: it waits, with probing disarmed. -/
def State.begun (s : State) (a : Arm) (r : ChangeRequest) : State :=
  (s.setChange a ((s.change a).accepted r (s.mountedTip a))).disarm a

theorem State.begun_change : (s.begun a r).change a = (s.change a).accepted r (s.mountedTip a) :=
  State.change_setChange_same (s := s)

theorem State.acceptChange_queues {acknowledged inside ended : Bool}
    (h : s.rack.arbiter = .granted b acknowledged inside ended) (hq : a ∉ s.rack.queue)
    (hb : b = a → ended = true ∧ s.rack.queue ≠ []) :
    s.acceptChange a r = (s.begun a r).setQueue (s.rack.queue ++ [a]) := by
  have hrequest : (s.begun a r).rackRequest a = (.queued, (s.begun a r).setQueue (s.rack.queue ++ [a])) :=
    State.rackRequest_queues (s := s.begun a r) h hq hb
  rw [State.begun] at hrequest
  rw [State.acceptChange]
  rw [hrequest, State.begun]

theorem State.acceptChange_granted (h : (s.begun a r).rackRequest a = (.granted, t)) :
    s.acceptChange a r = t.takeGrant a := by
  rw [State.begun] at h
  rw [State.acceptChange]
  rw [h]

end

end Sys2Proof.Machine
end

section
/-! SUPPORT. CHANGE on an arm that is busy, or IDLE with nothing to do, or whose change is queued or granted (spec 08,
R139 to R142). -/

namespace Sys2Proof.Machine

section
variable {s t : State} {a b : Arm} {p : Fin 20} {i : Fin 64} {v : Tip} {r : ChangeRequest} {c : Instr}
  {body : State → Reply}

/-- A request taken whose messages no block acts on. -/
theorem request_ignored (ht : s.takesRequests) {r : Reply} (hb : body s = r) (hlen : r.state.mail.length ≤ settleBound)
    (hm : ∀ m ∈ r.state.mail, r.state.Ignores m) :
    done (s.event fun s => (s.request c body).settle) =
      .next (s.respond c { r with state := r.state.noticing r.state.mail [] }) := by
  rw [State.event_on _ _ ht.1, State.request_taken _ _ _ ht, hb]
  exact congrArg Host.Outcome.next (State.settle_ignored (s := s.respond c r) hlen fun m hin =>
    (hm m hin).congr rfl rfl rfl rfl rfl)

theorem startChange_nothing (h : s.validate a r = .nothingToDo) :
    startChange a r s = accept [1] (s.completeAtOnce a) := by
  rw [startChange, h]
  rfl

theorem startChange_accepts (h : s.validate a r = .passes) (hs : s.acceptChange a r = t) :
    startChange a r s = accept [(t.change a).state.code] t := by
  rw [startChange, h, ← hs]

/-- A change is accepted, and a FREE rack granted to its arm. -/
def State.begunGranted (s : State) (a : Arm) (r : ChangeRequest) : State :=
  { s.begun a r with
    rack := { s.rack with arbiter := .granted a false false false, queue := [], grantTimer := some s.rack.grantTimeout }
    mail := [.granted a, .grantee (some a)] }

theorem State.begunGranted_change : (s.begunGranted a r).change a = (s.change a).accepted r (s.mountedTip a) :=
  State.begun_change

/-- The pocket an accepted change approaches: that of the mounted tip, or else of the target. -/
theorem State.approaches_of_accepted (hchange : (t.change a) = (s.change a).accepted r (s.mountedTip a))
    (hlibrary : t.library = s.library) (htip : s.mountedTip a = some i ∨ (s.mountedTip a = none ∧ r.target = some i))
    (hv : s.library.tips[i] = .active v) : t.Approaches a v.home := by
  refine ⟨i, v, ?_, by rw [hlibrary]; exact hv, rfl⟩
  rw [hchange]
  exact htip.imp_right fun ⟨hnone, htarget⟩ => ⟨hnone, htarget, rfl⟩

theorem State.acceptChange_free (hm : s.mail = []) (hd : ∀ p : Fin 20, (s.pocket p).drive = false)
    (hf : s.rack.arbiter = .free) (hq : s.rack.queue = []) (hu : (s.report a).suppressed = false)
    (hp : (s.begunGranted a r).Approaches a p) :
    s.acceptChange a r = ((s.begunGranted a r).approaching a p).send (.testStage a) := by
  have hrequest : (s.begun a r).rackRequest a = (.granted, s.begunGranted a r) := by
    refine (State.rackRequest_free (s := s.begun a r) hf hq).trans ?_
    rw [show (s.begun a r).mail = [] from hm]
    rfl
  rw [State.acceptChange_granted hrequest]
  exact State.takeGrant_approaches (by rw [State.begunGranted_change]; rfl) hp ⟨.inl hu, .inr (.inr hd)⟩

/-- The approach entered, and the messages of the grant not yet taken. -/
theorem State.begunGranted_approaching : (s.begunGranted a r).approaching a p =
    { s.setChange a (((s.change a).accepted r (s.mountedTip a)).approaching p s.sequencer.approachTimeout) with
      touch := s.touch.set a { s.touch.get a with armed := false }
      rack := { s.rack with
        arbiter := .granted a false false false, queue := [], grantTimer := some s.rack.grantTimeout
        reports := s.rack.reports.set a { pocket := some p, suppressed := false, stow := false } }
      mail := [.granted a, .grantee (some a)] } := by
  have htwice (d : Change) : (s.begunGranted a r).setChange a d =
      { s.setChange a d with
        touch := s.touch.set a { s.touch.get a with armed := false }
        rack := { s.rack with
          arbiter := .granted a false false false, queue := [], grantTimer := some s.rack.grantTimeout }
        mail := [.granted a, .grantee (some a)] } :=
    congrArg (fun t : State => { t with
      touch := s.touch.set a { s.touch.get a with armed := false }
      rack := { s.rack with
        arbiter := .granted a false false false, queue := [], grantTimer := some s.rack.grantTimeout }
      mail := [.granted a, .grantee (some a)] }) (State.setChange_setChange (s := s))
  rw [State.approaching, State.begunGranted_change, htwice]
  rfl

/-- The messages of the grant find the approach entered, and its arm outside the dock box. -/
theorem State.begunGranted_ignores (hm : ∀ b, s.insideRack b = false)
    (hout : ∀ q b, (s.change a).lastReference = some q → (s.pocket p).dock.get a = some b → b.contains q = false) :
    ∀ m ∈ (((s.begunGranted a r).approaching a p).send (.testStage a)).mail,
      (((s.begunGranted a r).approaching a p).send (.testStage a)).Ignores m := by
  obtain ⟨x, hx⟩ : ∃ x, x = s.begunGranted a r := ⟨_, rfl⟩
  have hchange : x.change a = (s.change a).accepted r (s.mountedTip a) := hx ▸ State.begunGranted_change
  have hpocket : x.pocket p = s.pocket p := by rw [hx]; rfl
  have hxmail : x.mail = [.granted a, .grantee (some a)] := by rw [hx]; rfl
  have hinside (b : Arm) : x.insideRack b = false := by
    rw [hx]
    exact (State.insideRack_congr rfl rfl rfl).trans (hm b)
  rw [← hx]
  have hrests : (x.approaching a p).Rests a := by
    refine State.approaching_rests (fun _ => by rw [hchange]; rfl) ?_
    rw [hchange, hpocket]
    exact hout
  have hstate : ((x.approaching a p).change a).state ≠ .waitingRack := by
    rw [State.approaching_eq, State.change_keeping, State.change_setChange_same, Change.approaching]
    dsimp only
    split <;> simp
  have hmail : ((x.approaching a p).send (.testStage a)).mail = [.granted a, .grantee (some a), .testStage a] :=
    congrArg (· ++ [Message.testStage a]) hxmail
  rw [hmail]
  simp only [List.forall_mem_cons, List.not_mem_nil, false_implies, implies_true, and_true]
  exact ⟨hstate, fun b => (State.insideRack_congr rfl rfl rfl).trans (hinside b), hrests.congr rfl rfl⟩

/-- The approach entered, with the messages of the grant taken. -/
theorem State.begunGranted_noticing (hm : s.mail = []) (hq : s.rack.queue = []) {w : State}
    (hw : w = ((s.begunGranted a r).approaching a p).send (.testStage a)) : w.noticing w.mail [] =
    { s.setChange a (((s.change a).accepted r (s.mountedTip a)).approaching p s.sequencer.approachTimeout) with
      touch := s.touch.set a { s.touch.get a with armed := false }
      zones := { s.zones with grantee := some a }
      rack := { s.rack with
        arbiter := .granted a false false false, grantTimer := some s.rack.grantTimeout
        reports := s.rack.reports.set a { pocket := some p, suppressed := false, stow := false } } } := by
  have hs : s = { s with mail := [], rack := { s.rack with queue := [] } } := by rw [← hm, ← hq]
  rw [hw, State.begunGranted_approaching]
  conv_rhs => rw [hs]
  rfl

theorem State.begunGranted_code : ((((s.begunGranted a r).approaching a p).send (.testStage a)).change a).state.code =
    if s.mountedTip a = none then 6 else 2 := by
  have hsend (t : State) : (t.send (.testStage a)).change a = t.change a := rfl
  rw [hsend, State.approaching_eq, State.change_keeping, State.change_setChange_same, State.begunGranted_change,
    Change.approaching, Change.accepted]
  dsimp only
  split <;> rfl

end

end Sys2Proof.Machine
end

section
/-! SUPPORT. A change ends COMPLETED when its last lid is CLOSED, and its staged request is taken out of the slot (spec 08,
R152). -/

namespace Sys2Proof.Machine

section
variable {s t x : State} {a b : Arm} {p p' p₀ : Fin 20} {i : Fin 64} {v : Tip} {r : ChangeRequest} {c d : Change}
  {acknowledged ended : Bool} {result : ChangeResult}

/-! ### The end of the change of a grantee inside (R130, R152) -/

/-- The part after a change of the grantee has ended inside the RACK zone: the grant stays with the arm. -/
def State.concluded (s : State) (a : Arm) (acknowledged : Bool) (c : Change) : State :=
  ({ s.setChange a c with
    rack := { s.rack with arbiter := .granted a acknowledged true true, reports := s.rack.reports.set a .none } } :
      State).raise (.change a)

theorem State.concluded_eq : s.concluded a acknowledged c = { s.setChange a c with
    rack := { s.rack with arbiter := .granted a acknowledged true true, reports := s.rack.reports.set a .none }
    attention := (s.raise (.change a)).attention } :=
  State.raise_eq_of rfl rfl

theorem State.concluded_change : (s.concluded a acknowledged c).change a = c := by
  rw [State.concluded_eq]
  exact State.change_setChange_same (s := s)

theorem State.concluded_setChange (d : Change) :
    (s.setChange a c).concluded a acknowledged d = s.concluded a acknowledged d := by
  unfold State.concluded
  rw [State.setChange_setChange]
  rfl

theorem State.finishChange_concludes (harb : s.rack.arbiter = .granted a acknowledged true ended)
    (hq : a ∉ s.rack.queue) (hu : (s.report a).suppressed = false) (hd : ∀ p : Fin 20, (s.pocket p).drive = false) :
    s.finishChange a result = s.concluded a acknowledged ((s.change a).finished result) := by
  rw [State.concluded_eq]
  refine State.finishChange_eq (m := s.mail) ⟨.inl hu, .inr (.inr hd)⟩ fun d => ?_
  rw [State.rackChangeEnded_grantee (s := (s.setChange a d).keeping a .none) harb hq,
    State.releaseIfDone_stands (fun b y => by simp [State.setArbiter])]
  rfl

/-! ### The last lid (R146, R150) -/

theorem State.advance_completes (hst : (s.change a).state = .stowClear ∨ (s.change a).state = .fetchClear)
    (hw : (s.change a).wait = .lids) (hopen : (s.change a).opened = []) (hcurrent : (s.change a).current = some p₀) :
    s.advance a = (s.finishChange a .completed).startStaged a := by
  have hclear : s.advance a = s.clearStage a p₀ := by
    rcases hst with hst | hst <;> simp [State.advance, hst, hcurrent]
  rw [hclear]
  simp [State.clearStage, hw, hopen, State.completeChange]

/-- The one open lid of the arm, which the other arm has not opened, is reported closed to the arm alone. -/
theorem State.tellBoth_drops (hl : (s.pocket p).lid = .closed) (hopen : (s.change a).opened = [p])
    (hother : p ∉ (s.change a.other).opened) : (s.tellBoth fun t b => t.lidNews b p) =
      (s.setChange a { s.change a with opened := [] }).send (.testStage a) := by
  have hdrop : s.lidNews a p = (s.setChange a { s.change a with opened := [] }).send (.testStage a) := by
    rw [State.lidNews_closed hl (hopen ▸ List.mem_singleton_self p), State.dropOpened, hopen]
    simp
  have hstays : s.lidNews a.other p = s := State.lidNews_unopened hother
  rcases State.tellBoth_order (s := s) (fun t b => t.lidNews b p) a with e | e <;> rw [e]
  · rw [hdrop]
    exact State.lidNews_unopened fun h =>
      hother (Eq.mp (congrArg (fun c : Change => p ∈ c.opened) (Two.get_set_other ..)) h)
  · rw [hstays, hdrop]

theorem State.closed_undriven (hd : ∀ p : Fin 20, (s.pocket p).drive = false) (p' : Fin 20) :
    ((s.closed p).pocket p').drive = false := by
  by_cases h : p = p'
  · subst h
    exact congrArg Pocket.drive State.closed_pocket
  · exact (congrArg Pocket.drive ((State.pocket_setPocket ..).trans (if_neg h))).trans (hd p')

/-- The last lid of a change closes, and the change ends. -/
theorem State.settle_completes (hm : s.mail = []) (hst : (s.change a).state = .stowClear ∨ (s.change a).state = .fetchClear)
    (hw : (s.change a).wait = .lids) (hopen : (s.change a).opened = [p]) (hother : p ∉ (s.change a.other).opened)
    (hcurrent : (s.change a).current = some p₀) (hu : (s.report a).suppressed = false)
    (hl : (s.pocket p).lid = .closing) (hsense : (s.pocket p).sense = true) (hinput : (s.pocket p).senseInput = false)
    (hd : ∀ p : Fin 20, (s.pocket p).drive = false) (harb : s.rack.arbiter = .granted a acknowledged true ended)
    (hq : a ∉ s.rack.queue) : (s.senseChange p).settle =
      State.settleN 254 (((s.closed p).concluded a acknowledged ((s.change a).finished .completed)).startStaged a) := by
  obtain ⟨x, hx⟩ : ∃ x, x = (s.closed p).setChange a { s.change a with opened := [] } := ⟨_, rfl⟩
  have hxmail : x.mail = [] := by rw [hx]; exact hm
  have hxchange : x.change a = { s.change a with opened := [] } := by
    rw [hx]
    exact State.change_setChange_same (s := s.closed p)
  have hdrops : ((s.closed p).tellBoth fun t b => t.lidNews b p) = x.send (.testStage a) := by
    rw [hx]
    exact State.tellBoth_drops (s := s.closed p) (congrArg Pocket.lid State.closed_pocket) hopen hother
  have hdrive : ∀ p' : Fin 20, (x.pocket p').drive = false := hx ▸ State.closed_undriven hd
  have hfinish : x.finishChange a .completed = (s.closed p).concluded a acknowledged ((s.change a).finished .completed) := by
    rw [State.finishChange_concludes (ended := ended) (by rw [hx]; exact harb) (by rw [hx]; exact hq) (by rw [hx]; exact hu)
      hdrive, hxchange, hx, State.concluded_setChange]
    rfl
  have hmail : (x.send (.testStage a)).mail = [.testStage a] := congrArg (· ++ [Message.testStage a]) hxmail
  have hback : ({ x.send (.testStage a) with mail := [] } : State) = x :=
    congrArg (fun m => { x with mail := m }) hxmail.symm
  rw [State.settle_closes hm hl hsense hinput, hdrops, State.settleN_cons 254 hmail, hback, ← hfinish]
  refine congrArg (State.settleN 254) (State.advance_completes (p₀ := p₀) ?_ ?_ ?_ ?_) <;> rw [hxchange]
  · exact hst
  · exact hw
  · exact hcurrent

/-- A lid that has closed leaves the place of its pocket. -/
theorem State.closed_pocket_place : ((s.closed p).pocket p').state = (s.pocket p').state ∧
    ((s.closed p).pocket p').dock = (s.pocket p').dock ∧ ((s.closed p).pocket p').occupied = (s.pocket p').occupied ∧
    ((s.closed p).pocket p').foreignMark = (s.pocket p').foreignMark := by
  by_cases h : p = p'
  · subst h
    rw [State.closed_pocket]
    exact ⟨rfl, rfl, rfl, rfl⟩
  · have hsame : (s.closed p).pocket p' = s.pocket p' := (State.pocket_setPocket ..).trans (if_neg h)
    rw [hsame]
    exact ⟨rfl, rfl, rfl, rfl⟩

/-! ### The staged request (R152) -/

/-- The staged request is taken out of the slot. -/
def State.unstaged (s : State) (a : Arm) (o : StagedOutcome) : State :=
  s.setChange a { s.change a with staged := none, stagedOutcome := o }

theorem State.startStaged_empty (h : (s.change a).staged = none) : s.startStaged a = s := by
  rw [State.startStaged, h]

theorem State.startStaged_refused {st : Status} (h : (s.change a).staged = some r)
    (hv : (s.unstaged a .none).validate a r = .refused st) : s.startStaged a = s.unstaged a (.refusedAtStart st) := by
  rw [State.unstaged] at hv
  rw [State.startStaged, h]
  dsimp only
  rw [hv]
  rfl

theorem State.startStaged_nothing (h : (s.change a).staged = some r)
    (hv : (s.unstaged a .none).validate a r = .nothingToDo) :
    s.startStaged a = (s.unstaged a .nothingToDo).completeAtOnce a := by
  rw [State.unstaged] at hv
  rw [State.startStaged, h]
  dsimp only
  rw [hv]
  rfl

theorem State.startStaged_starts (h : (s.change a).staged = some r)
    (hv : (s.unstaged a .none).validate a r = .passes) :
    s.startStaged a = (s.unstaged a .started).acceptChange a r := by
  rw [State.unstaged] at hv
  rw [State.startStaged, h]
  dsimp only
  rw [hv]
  rfl

theorem State.Fit.congr (h : s.Fit a) (hone : t.oneArm = s.oneArm) (harms : t.arms = s.arms)
    (htable : t.zones.table = s.zones.table) (hlock : t.rack.arbiter ≠ .lockedOut) : t.Fit a where
  referenced := (State.referenced_congr hone harms).trans h.referenced
  zone := by
    have hzone (z : Fin 16) : t.zone z = s.zone z := by rw [State.zone, htable, State.zone]
    rw [← h.zone]
    simp only [State.rackZoneActive, State.zoneIsRack, State.zoneActive, hzone]
  unlocked := hlock

/-! ### The grant goes on (R128, R142) -/

theorem set_set_side {α : Type} (t : Two α) (x y : α) : (t.set a x).set a y = t.set a y := by cases a <;> rfl

/-- A change is accepted whose arm keeps the grant. -/
def State.begunAgain (s : State) (a : Arm) (r : ChangeRequest) (acknowledged inside : Bool) : State :=
  (s.begun a r).setArbiter (.granted a acknowledged inside false)

theorem State.begunAgain_change {inside : Bool} :
    (s.begunAgain a r acknowledged inside).change a = (s.change a).accepted r (s.mountedTip a) :=
  State.begun_change

theorem State.acceptChange_continues {inside : Bool} (harb : s.rack.arbiter = .granted a acknowledged inside true)
    (hq : s.rack.queue = []) (hu : (s.report a).suppressed = false) (hd : ∀ p : Fin 20, (s.pocket p).drive = false)
    (hp : (s.begunAgain a r acknowledged inside).Approaches a p) :
    s.acceptChange a r = ((s.begunAgain a r acknowledged inside).approaching a p).send (.testStage a) := by
  rw [State.acceptChange_granted (State.rackRequest_continues (s := s.begun a r) harb hq)]
  refine State.takeGrant_approaches (s := s.begunAgain a r acknowledged inside) ?_ hp ⟨.inl hu, .inr (.inr hd)⟩
  rw [State.begunAgain_change]
  rfl

theorem State.settleN_acceptChange_continues {inside : Bool} (harb : s.rack.arbiter = .granted a acknowledged inside true)
    (hm : s.mail = []) (hq : s.rack.queue = []) (hu : (s.report a).suppressed = false)
    (hd : ∀ p : Fin 20, (s.pocket p).drive = false) (hmounted : s.mountedTip a = some i)
    (hv : s.library.tips[i] = .active v)
    (hout : ∀ q b, (s.change a).lastReference = some q → (s.pocket v.home).dock.get a = some b → b.contains q = false)
    (n : Nat) : State.settleN (n + 1) (s.acceptChange a r) =
      { s.setChange a (((s.change a).accepted r (some i)).approaching v.home s.sequencer.approachTimeout) with
        touch := s.touch.set a { s.touch.get a with armed := false }
        rack := { s.rack with
          arbiter := .granted a acknowledged inside false
          reports := s.rack.reports.set a { pocket := some v.home, suppressed := false, stow := false } } } := by
  obtain ⟨x, hx⟩ : ∃ x, x = s.begunAgain a r acknowledged inside := ⟨_, rfl⟩
  have hchange : x.change a = (s.change a).accepted r (some i) := by
    rw [hx, State.begunAgain_change, hmounted]
  have hxmail : x.mail = [] := by rw [hx]; exact hm
  have happroaches : x.Approaches a v.home :=
    State.approaches_of_accepted (s := s) (i := i) (r := r) (by rw [hchange, hmounted]) (by rw [hx]; rfl) (.inl hmounted) hv
  have hrests : (x.approaching a v.home).Rests a := by
    refine State.approaching_rests (fun _ => by rw [hchange]; rfl) ?_
    rw [hchange]
    rw [hx]
    exact hout
  have hmail : ((x.approaching a v.home).send (.testStage a)).mail = [.testStage a] :=
    congrArg (· ++ [Message.testStage a]) hxmail
  have hback : ({ (x.approaching a v.home).send (.testStage a) with mail := [] } : State) = x.approaching a v.home :=
    congrArg (fun m => { x.approaching a v.home with mail := m }) hxmail.symm
  rw [State.acceptChange_continues harb hq hu hd (hx ▸ happroaches), ← hx, State.settleN_cons n hmail, hback]
  have hstays : (x.approaching a v.home).takeMessage (.testStage a) = x.approaching a v.home := State.advance_of_rests hrests
  rw [hstays, State.settleN_of_quiet _ _ (by exact hxmail), State.approaching, hchange]
  have htwice (d : Change) : x.setChange a d = { s.setChange a d with
      touch := s.touch.set a { s.touch.get a with armed := false }
      rack := { s.rack with arbiter := .granted a acknowledged inside false } } := by
    rw [hx]
    exact congrArg (fun t : State => { t with
      touch := s.touch.set a { s.touch.get a with armed := false }
      rack := { s.rack with arbiter := .granted a acknowledged inside false } }) (State.setChange_setChange (s := s))
  rw [htwice, hx]
  rfl

end

end Sys2Proof.Machine
end

section
/-! PROOF. A CHANGE is staged, done with at once, queued or granted, and a change ends COMPLETED with its staged start. -/

namespace Sys2Proof.Machine

/-- Settles O48: the validation decides what a CHANGE does, and the arbiter's answer whether it waits or approaches; at
the end of a change the staged request goes the same way, with the grant continued or queued behind the other arm. -/
theorem changesAreStagedQueuedAndStarted : Obligations.ChangesAreStagedQueuedAndStarted := by
  refine ⟨?_, ?_⟩
  · -- CHANGE on a busy arm and on an IDLE one.
    intro s arm target allow a want ht hm hp ha hallow hnone hsome c
    obtain ⟨r, hr⟩ : ∃ r : ChangeRequest, r = { target := want, allow := allow == 1 } := ⟨_, rfl⟩
    have hreq : changeReq arm target allow s = if (s.change a).busy then stageChange a r s else startChange a r s :=
      hr ▸ changeReq_eq hp ha hallow hnone hsome
    refine ⟨fun hbusy hstaged => ?_, fun hidle href ⟨z, zone, hz, hkind, hactive⟩ hunlocked mounted hmounted => ?_⟩
    · have hstage : changeReq arm target allow s = _ := hreq.trans (if_pos (bne_iff_ne.mpr hbusy))
      rw [stageChange, if_neg (by simp [hstaged]), hr] at hstage
      exact request_settled ht hstage hm
    · have hstart : changeReq arm target allow s = startChange a r s :=
        hreq.trans (if_neg (by simp [Change.busy, hidle]))
      have hfit : s.Fit a :=
        ⟨State.referenced_iff.mpr ⟨hp, href⟩, State.rackZoneActive_of hz hkind hactive, hunlocked⟩
      have htip : s.mountedTip a = mounted := hmounted.mountedTip
      refine ⟨fun hnothing => ?_, fun hhead hstows htargets hmount => ?_⟩
      · refine request_settled ht (hstart.trans (startChange_nothing (hfit.validate_nothing ?_ ?_)))
          ((State.raise_mail ..).trans hm)
        · rcases hnothing with ⟨-, h⟩ | ⟨h, -⟩ <;> rw [h] <;> rfl
        · rcases hnothing with ⟨rfl, h⟩ | ⟨-, i, rfl, rfl⟩
          · simp [State.nothingToChange, hr, h]
          · simp [State.nothingToChange, hr, htip]
      · have hpasses : s.validate a r = .passes := by
          refine hfit.validate_passes ?_ ?_ (fun i hi => ?_) (fun i hi => ?_)
          · rcases hhead with h | ⟨h, -⟩ <;> rw [h] <;> rfl
          · cases want with
            | none => simp [State.nothingToChange, hr, (hstows rfl).1]
            | some i =>
              obtain ⟨-, hne, -⟩ := htargets i rfl
              simp [State.nothingToChange, hr, htip, hne]
          · rw [hr] at hi
            obtain ⟨t, -, hv, hl, ⟨henabled, hdock⟩, hentry, hnames⟩ := htargets i hi
            exact State.targetRefusal_none hv hl (State.reachable_of henabled hdock)
              (hentry.imp_right fun h => by simp [hr, h]) hnames
          · obtain ⟨t, hv, -⟩ := (hmounted i).mp (htip.symm.trans hi)
            obtain ⟨⟨henabled, hdock⟩, hempty, hclean⟩ := hmount i t (htip.symm.trans hi) hv
            exact State.stowRefusal_none hv (State.reachable_of henabled hdock) hempty hclean
        intro accepted disarmed
        have haccepted : (s.change a).accepted r (s.mountedTip a) = accepted := by rw [htip, hr]; rfl
        have hbegun : s.begun a r = { s.setChange a accepted with touch := disarmed } := by
          rw [State.begun, haccepted]
          rfl
        refine ⟨fun ⟨acknowledged, inside, ended, harb⟩ hq => ?_, fun hcalm hf hq hu p i t hi hv hhome hout => ?_⟩
        · have hqueues := State.acceptChange_queues (r := r) harb hq (fun e => absurd e (Side.other_ne a))
          refine request_settled ht (hstart.trans ((startChange_accepts hpasses hqueues).trans ?_)) ?_
          · rw [hbegun]
            have hw : ((State.setQueue { s.setChange a accepted with touch := disarmed } (s.rack.queue ++ [a])).change
                a).state.code = 1 := congrArg (fun d : Change => d.state.code) (State.change_setChange_same (s := s))
            rw [hw]
            rfl
          · exact hm
        · obtain ⟨-, -, hd, hinside⟩ := hcalm
          have happroaches : (s.begunGranted a r).Approaches a p := by
            rw [← hhome]
            refine State.approaches_of_accepted State.begunGranted_change rfl ?_ hv
            rw [htip, hr]
            exact hi
          have haccept := State.acceptChange_free hm hd hf hq hu happroaches
          have hign := State.begunGranted_ignores (r := r) (fun b => State.insideRack_false (hinside b)) hout
          refine (request_ignored ht (hstart.trans (startChange_accepts hpasses haccept)) ?_ hign).trans ?_
          · exact (by decide : 3 ≤ settleBound)
          · have hsettled := State.begunGranted_noticing (r := r) (a := a) (p := p) hm hq rfl
            rw [haccepted] at hsettled
            have hcode : ((((s.begunGranted a r).approaching a p).send (.testStage a)).change a).state.code =
              if mounted = none then 6 else 2 := by rw [State.begunGranted_code, htip]
            refine congrArg (fun x : Reply => Host.Outcome.next (s.respond c x)) ?_
            rw [accept, hsettled, hcode]
            rfl
  · -- The last lid closes, and the staged request is started.
    intro s a p p₀ acknowledged ended hs hm hst hw hopen hother hcurrent hreport hl hsense hinput hd harb hq
      closed completed finished
    have hclosed : s.closed p = closed := congrArg (fun d => s.setPocket p { s.pocket p with
      sense := false, lid := .closed, drive := d, timer := none }) (hd p).symm
    obtain ⟨f, hf⟩ : ∃ f, f = (s.closed p).concluded a acknowledged completed := ⟨_, rfl⟩
    have hfinished : finished = f := by rw [hf, hclosed]; rfl
    have hsettles {u v : State} (e : f.startStaged a = u) (hu : State.settleN 254 u = v) :
        exec (.lidSenseChange p) s = .next v := by
      rw [← hu, ← e, hf]
      exact congrArg Host.Outcome.next ((s.event_on _ hs.1).trans (State.settle_completes hm hst hw hopen hother
        hcurrent (by rw [hreport]) hl hsense hinput hd harb hq))
    have hexec {u : State} (e : f.startStaged a = u) (hu : u.mail = []) : exec (.lidSenseChange p) s = .next u :=
      hsettles e (State.settleN_of_quiet _ _ hu)
    rw [hfinished]
    have hchange : f.change a = completed := by rw [hf]; exact State.concluded_change
    rw [State.concluded_eq] at hf
    have hmail : f.mail = [] := by rw [hf]; exact hm
    refine ⟨fun hnone => hexec (State.startStaged_empty (by rw [hchange]; exact hnone)) hmail, ?_⟩
    intro r hstaged taken
    have hstaged : (f.change a).staged = some r := by rw [hchange]; exact hstaged
    have htaken (o : StagedOutcome) : f.unstaged a o = f.setChange a (taken o) := by rw [State.unstaged, hchange]
    refine ⟨fun ⟨i, hi⟩ => hexec ?_ (by exact hmail), fun href ⟨z, v, hz, hkind, hactive⟩ htarget => ?_⟩
    · refine (State.startStaged_refused hstaged (State.validate_notReferenced ?_)).trans (htaken _)
      rw [State.referenced_congr (s := s) (by rw [hf]; rfl) (by rw [hf]; rfl)]
      exact State.not_referenced hi
    · have hfit : (f.unstaged a .none).Fit a := State.Fit.congr (s := s)
        ⟨State.referenced_iff.mpr ⟨hs.2, href⟩, State.rackZoneActive_of hz hkind hactive, by simp [harb]⟩
        (by rw [hf]; rfl) (by rw [hf]; rfl) (by rw [hf]; rfl) (by rw [hf]; exact Arbiter.noConfusion)
      have hhead : (f.unstaged a .none).head a = s.head a := by rw [hf]; rfl
      refine ⟨fun hempty => hexec ?_ ?_, fun htip j t hmounted ht henabled hdock hvacant hclean => ?_⟩
      · rw [State.startStaged_nothing hstaged (hfit.validate_nothing (by rw [hhead, hempty]; rfl)
          (by simp [State.nothingToChange, htarget, hhead, hempty])), htaken, State.completeAtOnce,
          State.change_setChange_same, State.setChange_setChange]
      · exact (State.raise_mail ..).trans hmail
      · have htip' : (f.unstaged a .none).mountedTip a = some j :=
          Mounted.mountedTip (s := f.unstaged a .none) (by rw [hf]; exact hmounted)
        have hpocket : ((f.unstaged a .none).pocket t.home).state = (s.pocket t.home).state ∧
            ((f.unstaged a .none).pocket t.home).dock = (s.pocket t.home).dock ∧
            ((f.unstaged a .none).pocket t.home).occupied = (s.pocket t.home).occupied ∧
            ((f.unstaged a .none).pocket t.home).foreignMark = (s.pocket t.home).foreignMark := by
          rw [hf]
          exact State.closed_pocket_place
        obtain ⟨hpstate, hpdock, hpoccupied, hpmark⟩ := hpocket
        have hpasses : (f.unstaged a .none).validate a r = .passes := by
          refine hfit.validate_passes (by rw [hhead, htip]; rfl) (by simp [State.nothingToChange, htarget, hhead, htip])
            (fun i hi => absurd (htarget.symm.trans hi) (Option.some_ne_none i).symm) (fun i hi => ?_)
          cases Option.some.inj (htip'.symm.trans hi)
          exact State.stowRefusal_none (v := t) (by rw [hf]; exact ht)
            (State.reachable_of (by rw [hpstate]; exact henabled) (by rw [hpdock]; exact hdock))
            (by rw [hpoccupied]; exact hvacant) (by rw [hpmark]; exact hclean)
        have hstarts := State.startStaged_starts hstaged hpasses
        intro accepted disarmed
        have hrack : f.rack.arbiter = .granted a acknowledged true true := by rw [hf]
        have hfqueue : (f.unstaged a .started).rack.queue = s.rack.queue := by rw [hf]; rfl
        have haccepted : ((f.unstaged a .started).change a).accepted r (some j) = accepted := by
          rw [htaken, State.change_setChange_same, Change.accepted, htarget]
        have hdisarmed : disarmed = f.touch.set a { f.touch.get a with armed := false } := by rw [hf]; rfl
        have hnext : (f.unstaged a .started).mountedTip a = some j := htip'
        refine ⟨fun hqueue => hexec (hstarts.trans ?_) (by exact hmail), fun hqueue hout => hsettles hstarts ?_⟩
        · rw [State.acceptChange_queues (s := f.unstaged a .started) (b := a) hrack (by rw [hfqueue]; exact hq)
            (fun _ => ⟨rfl, by rw [hfqueue, hqueue]; exact List.cons_ne_nil _ _⟩), State.begun, hnext, haccepted, hfqueue,
            hqueue, State.unstaged, State.setChange_setChange, hdisarmed]
          rfl
        · refine (State.settleN_acceptChange_continues (s := f.unstaged a .started) hrack hmail (hfqueue.trans hqueue) ?_ ?_
            hnext (v := t) ?_ ?_ 253).trans ?_
          · rw [hf]
            exact congrArg PocketReport.suppressed (Two.get_set_same ..)
          · rw [hf]
            exact State.closed_undriven hd
          · rw [hf]
            exact ht
          · intro q b hlast hbox
            rw [htaken, State.change_setChange_same] at hlast
            have hbox : (s.pocket t.home).dock.get a = some b := (congrArg (Two.get · a) hpdock).symm.trans hbox
            exact Bool.eq_false_iff.mpr fun hin => hout q hlast ⟨b, hbox, (b.contains_iff q).mp hin⟩
          · rw [haccepted, State.unstaged, State.setChange_setChange, hdisarmed]
            have hreports : f.rack.reports.set a { pocket := some t.home, suppressed := false, stow := false } =
                s.rack.reports.set a { pocket := some t.home, suppressed := false, stow := false } := by
              rw [hf]
              exact set_set_side ..
            have happroaching : accepted.approaching t.home s.sequencer.approachTimeout = { accepted with
                state := .stowApproach, current := some t.home, timer := some s.sequencer.approachTimeout
                wait := .departure } := rfl
            have htimeout : (f.unstaged a .started).sequencer.approachTimeout = s.sequencer.approachTimeout := by rw [hf]; rfl
            rw [← happroaching, ← hreports, ← htimeout]
            rfl

end Sys2Proof.Machine
end
